-- ==== Sys2Proof/Word.lean ====
section
/-! DEFINITION. The word types of the WB-412: a byte of a frame or of the image, and a local time (2.3). -/
namespace Sys2Proof

/-- One byte of a frame, a record or the configuration image (12.1). -/
abbrev Byte := BitVec 8

/-- A local time: a count of microseconds that wraps after 4,294,967,295 (2.3, R81). -/
abbrev Time := BitVec 32

end Sys2Proof
end

