-- ==== Sys2Proof/Config.lean ====
section
/-! DEFINITION. What the part fixes, and the free values: constants without a body, of which nothing
can be proved. -/
namespace Sys2Proof.Config

/-- The part revision of the parts this manual describes (12.2). -/
def partRevision : Byte := 1

/-- Free value: the quotient of a division by zero.
The manual's bounds keep every divisor above 0; only a state no run of the hardware reaches divides
by 0 (log 10). -/
opaque zeroDivisor : Int → Int

/-- Free value: the four bytes sent for a signed value that lies outside 32 bits.
The manual gives the field four bytes and does not say what it carries then (log 9). -/
opaque unfitSigned : Int → BitVec 32

/-- Free value: the four bytes sent for an unsigned value that lies outside 32 bits (log 9). -/
opaque unfitUnsigned : Nat → BitVec 32

end Sys2Proof.Config
end

