-- ==== Sys2Proof/Syntax.lean ====
section
/-! DEFINITION. The commands of the WB-412: one constructor for each row of spec/opcode_table.json,
with what the event brings from outside as its operands. -/
namespace Sys2Proof

/-- The three message classes (4.3). -/
inductive FrameClass
  | urgent | sample | bulk
deriving DecidableEq, Repr

/-- The two extensometer arms (3.1). -/
inductive Arm
  | one | two
deriving DecidableEq, Repr

/-- The receive errors that FRAME_RECEIVE_ERROR reveals (R65); OVERRUN is judged at FRAME_RECEIVED. -/
inductive ReceiveError
  /-- FRAMING: a stop bit read as 0 within a frame. -/
  | stopBit
  /-- FRAMING: the line went idle before the frame was complete. -/
  | wentIdle
  /-- FRAMING: a payload length above 32. -/
  | lengthAbove32
  /-- FRAMING: a start bit following a complete frame with no idle bit-time. -/
  | startAfterComplete
  /-- CHECK: a complete frame whose check value does not match. -/
  | check
deriving DecidableEq, Repr

/-- A character as the receiver read it back: its byte, and whether its stop bit read as 1 (R62). -/
structure LineChar where
  byte : Byte
  stopBit : Bool
deriving DecidableEq, Repr

/-- The commands. A row whose event is the delivery of a received frame has no operand of its own: the
frame at the front of its receive queue is what is delivered (R67). -/
inductive Instr
  /-- POWER_ON (R186). -/
  | powerOn
  /-- RESET_ASSERT (R186). -/
  | resetAssert
  /-- RESET_RELEASE (R186). -/
  | resetRelease
  /-- IMAGE_READ_COMPLETE (R187): the bytes clocked in; a byte not supplied reads as all ones. -/
  | imageReadComplete (image : List Byte)
  /-- CONVERSION_COMPLETE (R1): the raw code. -/
  | conversionComplete (code : Int)
  /-- ENCODER_EVENT (R21): the new accepted levels of ENC-A and ENC-B. -/
  | encoderEvent (a b : Bool)
  /-- DRIVE_PACER_EXPIRY (R28): the limit inputs LIM-LO and LIM-HI as sampled at the expiry. -/
  | drivePacerExpiry (limLo limHi : Bool)
  /-- GENERATOR_UNDERFLOW (R31). -/
  | generatorUnderflow
  /-- RUN_DOWN_TIMER_EXPIRY (R24). -/
  | runDownTimerExpiry
  /-- ARM_EVENT (R42): the arm and the new accepted levels of its two lines. -/
  | armEvent (arm : Arm) (a b : Bool)
  /-- ARM_READING (R43). -/
  | armReading
  /-- ARM_CLOSED_CHANGE (R48): the new levels of ARM1-CLOSED and ARM2-CLOSED. -/
  | armClosedChange (arm1 arm2 : Bool)
  /-- RELEASE_TIMEOUT_EXPIRY (R57). -/
  | releaseTimeoutExpiry
  /-- FRAME_RECEIVED (R66): the characters of the completed frame, header first. -/
  | frameReceived (chars : List Byte)
  /-- FRAME_RECEIVE_ERROR (R65). -/
  | frameReceiveError (error : ReceiveError)
  /-- HEADER_FACTS (R82). -/
  | headerFacts
  /-- ATTEMPT_START (R70). -/
  | attemptStart
  /-- ATTEMPT_END (R72): the characters read back during the attempt. -/
  | attemptEnd (readBack : List LineChar)
  /-- YIELD_PENDING_CLEAR (R71): the class whose window passed. -/
  | yieldPendingClear (cls : FrameClass)
  /-- PENDING_RESULT_ENTRY (R76). -/
  | pendingResultEntry
  /-- SAMPLE_ARRIVAL (R89). -/
  | sampleArrival
  /-- RESEED_TIMER_EXPIRY (R85): the peer. -/
  | reseedTimerExpiry (peer : Fin 16)
  /-- SILENCE_TIMER_EXPIRY (R87): the peer. -/
  | silenceTimerExpiry (peer : Fin 16)
  /-- STALENESS_EXPIRY (R91): the subscription. -/
  | stalenessExpiry (sub : Fin 4)
  /-- LOCK_TIMER_EXPIRY (R110). -/
  | lockTimerExpiry
  /-- PRESENCE (R86). -/
  | presence
  /-- STATE (R86). -/
  | stateNotice
  /-- START (R122). -/
  | start
  /-- PAUSE (R124). -/
  | pause
  /-- RESUME (R124). -/
  | resume
  /-- ABORT (R125). -/
  | abort
  /-- CLEAR (R125). -/
  | clear
  /-- ZERO (R11). -/
  | zero
  /-- BALANCE (R13). -/
  | balance
  /-- JOG (R35). -/
  | jog
  /-- STOP_JOG (R36). -/
  | stopJog
  /-- FRAME_RESET (R126). -/
  | frameReset
  /-- UNKNOWN_COMMAND (R121). -/
  | unknownCommand
  /-- ORDER (R117). -/
  | order
  /-- SEGMENT (R119). -/
  | segment
  /-- QUERY_STATUS (R196). -/
  | queryStatus
  /-- QUERY_SEGMENT (R197). -/
  | querySegment
  /-- QUERY_RESULT (R174). -/
  | queryResult
  /-- QUERY_HEALTH (R198). -/
  | queryHealth
  /-- QUERY_PEER (R96). -/
  | queryPeer
  /-- QUERY_REFUSED (R195). -/
  | queryRefused
  /-- SILENT_DISCARD (R67). -/
  | silentDiscard
  /-- MARK (R134). -/
  | markFrame
  /-- HALT (R143). -/
  | haltFrame
  /-- BREAK (R150). -/
  | breakFrame
  /-- STOP_INPUT_SAMPLE (R146): whether STOP was found asserted. -/
  | stopInputSample (asserted : Bool)
  /-- SEGMENT_CLOCK_EXPIRY (R127). -/
  | segmentClockExpiry
  /-- DRAIN_LIMIT_EXPIRY (R170). -/
  | drainLimitExpiry
  /-- STEP_PULSE_END (R31). -/
  | stepPulseEnd
  /-- RUN_START (R70). -/
  | runStart
  /-- SKIPPING_END (R65). -/
  | skippingEnd
deriving DecidableEq, Repr

end Sys2Proof
end

