-- ==== Sys2Proof/Machine/State.lean ====
section
/-! DEFINITION. The state of one WB-412 node as plain data: the queue of waiting commands, and the node
with one structure for each block of 1.3. `State.reset` is the node right after release of the RESET pin. -/
namespace Sys2Proof.Machine

/-! ### Names the manual gives -/

/-- Control modes (6.1). -/
inductive Mode
  | hold | crossheadRate | loadRate | strainRate
deriving DecidableEq, Repr

/-- Lock states of a running law (R109); absent is `none` of an option. -/
inductive LockState
  | acquiring | locked
deriving DecidableEq, Repr

/-- Extensometer states (3.3). -/
inductive ExtState
  | detached | attached | releasing | released
deriving DecidableEq, Repr

/-- Test states (R116); no test state is `none` of an option. -/
inductive TestState
  | ready | armed | running | paused | halted | ended
deriving DecidableEq, Repr

/-- Operating states (R116). -/
inductive OpState
  | starting | active | configFault | silent
deriving DecidableEq, Repr

/-- Halt causes (8.1). -/
inductive HaltCause
  | stopInput | overload | travelLimit | tilt | partnerLost | loadLost | following
  | encoderFault | notReady | extNotClosed | extReleaseFault | duplicateId | operator
deriving DecidableEq, Repr

/-- Refusal codes (R139); NONE is `none` of an option. -/
inductive RefusalCode
  | notAllowed | badField | wrongTest | busy | noRole | limit | zeroLimit
deriving DecidableEq, Repr

/-- End kinds of a segment (7.5). -/
inductive EndKind
  | strainAtLeast | forceAtLeast | travelAtLeast | timeAtLeast | yieldSeen | forceDrop | breakOnly
deriving DecidableEq, Repr

/-- Close causes of a segment (R130). -/
inductive CloseCause
  | condition | peerMark | skipped | byBreak | byHalt | byAbort
deriving DecidableEq, Repr

/-- Test end causes (R136) and end causes of a result (R169); absent is `none` of an option. -/
inductive EndCause
  | lastSegment | byBreak | byAbort | byHalt
deriving DecidableEq, Repr

/-- Configuration fault codes (R189). -/
inductive FaultCode
  | check | identity | field | limits | calibration | subscription | source
deriving DecidableEq, Repr

/-- Channel kinds of a SAMPLE (12.1). -/
inductive Channel
  | load | travel | strain
deriving DecidableEq, Repr

/-- Uses of a subscription (R88). -/
inductive SubUse
  | loadSource | strainSource | partnerTravel | otherTravel
deriving DecidableEq, Repr

/-- Message kinds (4.3). -/
inductive MsgKind
  | halt | break_ | mark | sample | command | order | segment | query | reply | result | presence
  | state
deriving DecidableEq, Repr

/-- The seven health scores (10.1). -/
inductive HealthId
  | zeroDrift | balanceResidue | armDisagree | slip | following | level | bus
deriving DecidableEq, Repr

/-- The flags of a SAMPLE (R75, 12.1). -/
structure SampleFlags where
  held : Bool := false
  balancing : Bool := false
  overrange : Bool := false
  degraded : Bool := false
  slip : Bool := false
  singleArm : Bool := false
  fault : Bool := false
  releasing : Bool := false
  derived : Bool := false
  unplanned : Bool := false
  detached : Bool := false
deriving DecidableEq, Repr

/-- One value for each message class (R71, R73, R83). -/
structure PerClass (α : Type) where
  urgent : α
  sample : α
  bulk : α
deriving DecidableEq, Repr

/-- An entry of a history (R6, R90): production number or sender sequence, local time, value, flags. -/
structure HistEntry where
  seq : Byte
  time : Time
  value : Int
  flags : SampleFlags
deriving DecidableEq, Repr

/-! ### Outside lines, filters and clock -/

/-- The levels the outside puts on the node's input lines (1.5), and what its configuration memory holds. -/
structure Pins where
  encA : Bool := false
  encB : Bool := false
  arm1A : Bool := false
  arm1B : Bool := false
  arm2A : Bool := false
  arm2B : Bool := false
  arm1Closed : Bool := false
  arm2Closed : Bool := false
  limLo : Bool := false
  limHi : Bool := false
  stop : Bool := false
  resetPin : Bool := false
  /-- The raw code a conversion completing now would yield (R1). -/
  bridge : Int := 0
  /-- The bytes of the configuration memory; a byte it lacks reads as all ones (R187). -/
  memory : List Byte := []
deriving DecidableEq, Repr

/-- The input filter of one encoder line (R21): its accepted level, and for how many oscillator counts
the raw level has differed from it. -/
structure LineFilter where
  accepted : Bool := false
  timing : Nat := 0
deriving DecidableEq, Repr

/-- The filters of the three encoders' lines (R21, R42). -/
structure Filters where
  encA : LineFilter := {}
  encB : LineFilter := {}
  arm1A : LineFilter := {}
  arm1B : LineFilter := {}
  arm2A : LineFilter := {}
  arm2B : LineFilter := {}
deriving DecidableEq, Repr

/-- The local time counter with its divide-by-16 (R81), and the microseconds since the last of each
event that comes every 500 or 1,000 µs (R1, R28, R43, R127, R146). -/
structure Clock where
  divider : Nat := 0
  time : Time := 0
  conv : Nat := 0
  pacer : Nat := 0
  reading : Nat := 0
  segment : Nat := 0
  stop : Nat := 0
deriving DecidableEq, Repr

/-! ### The configuration image -/

/-- A point of a calibration table: normalised code and force (1.2). -/
structure CalPoint where
  code : Int
  force : Int
deriving DecidableEq, Repr

/-- A subscription of the image (fields 8 to 11). -/
structure SubCfg where
  peer : Fin 16
  channel : Channel
  use : SubUse
deriving DecidableEq, Repr

/-- The four roles (field 3). -/
structure Roles where
  load : Bool
  drive : Bool
  ext : Bool
  eval : Bool
deriving DecidableEq, Repr

/-- Fields 12 to 24: encoders, generator and drive limits. -/
structure DriveImage where
  filterCounts : Nat := 0
  encScale : Int := 0
  step : Int := 0
  pulseWidth : Nat := 0
  armScale : Int := 0
  vMin : Int := 0
  vMax : Int := 0
  accel : Int := 0
  followLimit : Int := 0
  travelMin : Int := 0
  travelMax : Int := 0
  levelSpan : Int := 0
  tiltLimit : Int := 0
deriving DecidableEq, Repr

/-- Fields 25 to 32: the load channel. -/
structure LoadImage where
  fixedRange : Option (Fin 4) := none
  tables : Vector (List CalPoint) 4 := Vector.replicate 4 []
  overloadLimit : Int := 0
  zeroLimit : Int := 0
  balanceLimit : Int := 0
deriving DecidableEq, Repr

/-- Fields 33 to 39: extensometer and control. -/
structure ControlImage where
  releaseTimeoutMs : Nat := 0
  slipThreshold : Int := 0
  gainLoad : Int := 0
  gainStrain : Int := 0
  lockBand : Int := 0
  lockCount : Nat := 0
  lockTimeoutMs : Nat := 0
deriving DecidableEq, Repr

/-- Fields 40 to 48: health. -/
structure HealthImage where
  thresholds : Vector Nat 7 := Vector.replicate 7 0
  driftAllowance : Int := 0
  disagreeAllowance : Int := 0
deriving DecidableEq, Repr

/-- The values of the configuration image (11.3). -/
structure Image where
  nodeId : Fin 16 := 0
  /-- Line rate in Mbit/s. -/
  lineRate : Nat := 0
  /-- The roles byte as read. -/
  roles : Byte := 0
  /-- Samples per second of each channel. -/
  loadRate : Nat := 0
  travelRate : Nat := 0
  strainRate : Nat := 0
  staleMs : Nat := 0
  subs : Vector (Option SubCfg) 4 := Vector.replicate 4 none
  drive : DriveImage := {}
  load : LoadImage := {}
  control : ControlImage := {}
  health : HealthImage := {}
deriving DecidableEq, Repr

/-- The start-up loader (Chapter 11). -/
structure Sul where
  /-- The image read is in progress. -/
  reading : Bool := false
  image : Image := {}
  /-- The configuration fault code with its field number, 0 where the code has none. -/
  fault : Option (FaultCode × Nat) := none
deriving DecidableEq, Repr

/-! ### Load channel -/

/-- The publish accumulator (1.3). -/
structure LoadAcc where
  sum : Int := 0
  count : Nat := 0
  newest : Time := 0
  fullScale : Bool := false
deriving DecidableEq, Repr

/-- Where a balance stands: in the trial of a bit with so many conversions done and the sum of the
averaged codes, or in its restore settle with the residue (R14, R15). -/
inductive BalancePhase
  | trial (bit : Nat) (done : Nat) (sum : Int)
  | restore (residue : Int)
deriving DecidableEq, Repr

/-- A balance in flight (R14). -/
structure Balance where
  heldTrim : BitVec 9
  heldRange : Fin 4
  phase : BalancePhase
deriving DecidableEq, Repr

inductive BalanceOutcome
  | done | failed | cancelled
deriving DecidableEq, Repr

/-- The last balance record (R15); NONE is `none` of an option. -/
structure BalanceRecord where
  outcome : BalanceOutcome
  residue : Option Int
deriving DecidableEq, Repr

/-- A zero in flight: the pre-tare codes collected (R11). -/
structure ZeroOp where
  count : Nat
  sum : Int
deriving DecidableEq, Repr

/-- The load channel (R20). -/
structure Lc where
  range : Fin 4 := 3
  settle : Nat := 0
  down : Nat := 0
  trim : BitVec 9 := 256
  balance : Option Balance := none
  lastBalance : Option BalanceRecord := none
  tare : Int := 0
  zero : Option ZeroOp := none
  acc : LoadAcc := {}
  decim : Nat := 0
  lastGood : Int := 0
  hist : List HistEntry := []
  /-- The production number of the next LOAD sample. -/
  prod : Byte := 0
  fmax : Int := 0
  breakArmed : Bool := false
deriving DecidableEq, Repr

/-! ### Travel and step generator -/

inductive GenState
  | stopped | running | stopping
deriving DecidableEq, Repr

inductive JogState
  | idle | jogging | ending
deriving DecidableEq, Repr

/-- The step generator and its lines (2.4). -/
structure Gen where
  st : GenState := .stopped
  counter : Nat := 0
  period : Nat := 0
  /-- The direction in force: true for positive. -/
  dirPos : Bool := false
  stepHigh : Bool := false
  dirHigh : Bool := false
  /-- Oscillator counts the pulse in progress stays high. -/
  pulseLeft : Nat := 0
  runDown : Bool := false
  runDownAt : Option Time := none
deriving DecidableEq, Repr

/-- The travel datums of the node's sources (R26): its own, and for each subscription the datum or the
mark that the first sample entered sets it. -/
structure Datums where
  own : Option Int := none
  subs : Vector (Option Int) 4 := Vector.replicate 4 none
  awaiting : Vector Bool 4 := Vector.replicate 4 false
deriving DecidableEq, Repr

/-- The travel and step generator (R41). -/
structure Tsg where
  count : Int := 0
  encFault : Bool := false
  pulses : Int := 0
  wanted : Int := 0
  commanded : Int := 0
  issued : Int := 0
  gen : Gen := {}
  jog : JogState := .idle
  violLo : Bool := false
  violHi : Bool := false
  /-- The level datum D; `none` is the level state NO-DATUM. -/
  level : Option Int := none
  hist : List HistEntry := []
  prod : Byte := 0
  pubCount : Nat := 0
deriving DecidableEq, Repr

/-! ### Extensometer handler -/

/-- One arm's counter, reference and fault flag (R42, R47). -/
structure ArmState where
  count : Int := 0
  ref : Int := 0
  fault : Bool := false
deriving DecidableEq, Repr

/-- A reading: the two arm elongations, and which arms were good (R43, R44). -/
structure Reading where
  elA : Int
  elB : Int
  good1 : Bool
  good2 : Bool
deriving DecidableEq, Repr

/-- The release snapshot, each part present or absent (R56). -/
structure Snapshot where
  elong : Option Int := none
  travel : Option Int := none
  force : Option Int := none
deriving DecidableEq, Repr

/-- An entry of the own STRAIN history with the elongation behind its value (R46). -/
structure StrainEntry where
  entry : HistEntry
  elong : Int
deriving DecidableEq, Repr

/-- The extensometer handler (R61). -/
structure Exh where
  arm1 : ArmState := {}
  arm2 : ArmState := {}
  st : ExtState := .detached
  /-- ARM-RELEASE asserted. -/
  releaseOut : Bool := false
  releaseAt : Option Time := none
  k : Option Int := none
  snap : Snapshot := {}
  unplanned : Bool := false
  slip : Bool := false
  forceMax : Int := 0
  gauge : Int := 50000000
  hist : List StrainEntry := []
  prod : Byte := 0
  lastValue : Int := 0
  lastElong : Int := 0
  prev : Option Reading := none
  pubCount : Nat := 0
deriving DecidableEq, Repr

/-! ### Frame bus controller -/

/-- The receiver's states (R65). -/
inductive RxState
  | hunting | receiving | skipping
deriving DecidableEq, Repr

/-- A frame header as it lies in the 8 bytes (12.1). -/
structure Header where
  cls : BitVec 2
  kind : BitVec 6
  sender : Fin 16
  target : Fin 16
  broadcast : Bool
  len : Nat
  seq : Byte
  stamp : Time
deriving DecidableEq, Repr

/-- A received frame waiting in a queue, with its receive stamp (R67, R89). -/
structure RxFrame where
  header : Header
  payload : List Byte
  rxStamp : Time
deriving DecidableEq, Repr

/-- The header facts of a frame, handed to the peer table (R66). -/
structure HeaderFacts where
  sender : Fin 16
  cls : BitVec 2
  kind : BitVec 6
  seq : Byte
  txStamp : Time
  rxStamp : Time
deriving DecidableEq, Repr

/-- A frame to be sent: its kind and addressing, its payload, the sequence it was given at its first
attempt and the attempts that have failed (R72, R73). The payload of a STATE is gathered at each attempt. -/
structure TxFrame where
  kind : MsgKind
  target : Fin 16
  broadcast : Bool
  payload : List Byte
  seq : Option Byte
  failed : Nat
deriving DecidableEq, Repr

/-- A frame in a sample or STATE slot with its fill time (R75), or in the FIFO with its time of entry (R76). -/
structure Slot where
  frame : TxFrame
  fill : Time
deriving DecidableEq, Repr

/-- Where the frame on the line was taken from (4.7). -/
inductive Holder
  | haltSlot | breakSlot | markSlot | loadSlot | travelSlot | strainSlot | stateSlot | fifo
deriving DecidableEq, Repr

/-- The frame on the line: the characters driven in this attempt, and whether a failure is followed by
no further attempt because a FRAME-RESET came (R72). -/
structure OnLine where
  frame : TxFrame
  holder : Holder
  chars : List Byte
  noRetry : Bool
deriving DecidableEq, Repr

/-- The frame bus controller (R80). -/
structure Fbc where
  receiver : RxState := .hunting
  rxStamp : Time := 0
  lineBusy : Bool := false
  idleCount : Nat := 0
  bitPhase : Nat := 0
  yields : PerClass Bool := ⟨false, false, false⟩
  seqs : PerClass Byte := ⟨0, 0, 0⟩
  collisions : Nat := 0
  onLine : Option OnLine := none
  /-- The run on the line began as an attempt of the node's own that it has abandoned (R68, R72). -/
  ownRun : Bool := false
  haltSlot : Option TxFrame := none
  breakSlot : Option TxFrame := none
  markSlot : Option TxFrame := none
  loadSlot : Option Slot := none
  travelSlot : Option Slot := none
  strainSlot : Option Slot := none
  stateSlot : Option Slot := none
  fifo : List Slot := []
  pendingResult : Option (List TxFrame) := none
  /-- An entry has left the FIFO and the pending RESULT has not been judged since (R76). -/
  removal : Bool := false
  urgentQ : List RxFrame := []
  normalQ : List RxFrame := []
  facts : List HeaderFacts := []
deriving DecidableEq, Repr

/-! ### Peer table -/

/-- What a peer's newest PRESENCE gave (R86). -/
structure PeerPresence where
  roles : Byte
  revision : Byte
  status : Byte
  field : Byte
deriving DecidableEq, Repr

/-- The state view of a peer, field by field as its newest STATE gave it (R86). -/
structure StateView where
  test : Byte
  testId : Nat
  cursor : Byte
  requested : Byte
  established : Byte
  lock : Byte
  ext : Byte
  cause : Byte
  originator : Byte
deriving DecidableEq, Repr

/-- An entry of the peer table (5.2). -/
structure Peer where
  present : Bool := false
  lastFrame : Option Time := none
  /-- The offset estimate, in signed modular form (R84). -/
  offset : Option Time := none
  offsetValid : Bool := false
  outliers : Nat := 0
  reseedStamp : Option Time := none
  reseedAt : Option Time := none
  rxSeq : PerClass (Option Byte) := ⟨none, none, none⟩
  missed : PerClass Nat := ⟨0, 0, 0⟩
  presence : Option PeerPresence := none
  view : Option StateView := none
  silenceAt : Option Time := none
  longSilent : Bool := false
deriving DecidableEq, Repr

/-- What a subscription holds (R88). -/
structure Sub where
  hist : List HistEntry := []
  lastArrival : Option Time := none
  staleAt : Option Time := none
  stale : Bool := false
  gap : Bool := false
deriving DecidableEq, Repr

/-- The peer table and time alignment block (R97). -/
structure Pta where
  peers : Vector Peer 16 := Vector.replicate 16 {}
  subs : Vector Sub 4 := Vector.replicate 4 {}
deriving DecidableEq, Repr

/-! ### Control mode unit -/

/-- The control mode unit (R98, R115). -/
structure Cmu where
  requested : Mode := .hold
  established : Mode := .hold
  /-- The velocity of a CROSSHEAD-RATE request. -/
  reqVel : Int := 0
  target : Int := 0
  direction : Int := 1
  entryVel : Int := 0
  window : Nat := 0
  entryStep : Bool := false
  lock : Option LockState := none
  inBand : Nat := 0
  outBand : Nat := 0
  lockAt : Option Time := none
  lockedInSeg : Bool := false
  fallback : Bool := false
  fallbackVel : Option Int := none
  /-- A LOCK-TIMEOUT that a close overtook, on its way to the segment opened after it (R114). -/
  lateTimeout : Bool := false
  /-- A request has been taken at this local time: an arrival that falls together with it sets nothing (R108,
  log 40). -/
  requestNow : Bool := false
  rm : Option Int := none
  forceTarget : Option Int := none
deriving DecidableEq, Repr

/-! ### Sequencer -/

/-- Part 1 of a test order: the specimen (7.2). -/
structure OrderPart1 where
  area : Int
  gauge : Int
deriving DecidableEq, Repr

/-- Part 2 of a test order: the evaluation (7.2). -/
structure OrderPart2 where
  sigmaLo : Int
  sigmaHi : Int
  eMin : Int
  eMax : Int
  proofOffset : Int
  yieldDrop : Int
  transientSpan : Int
deriving DecidableEq, Repr

/-- Part 3 of a test order: fracture and handover (7.2). -/
structure OrderPart3 where
  breakFraction : Int
  breakMinimum : Int
  releaseStrain : Int
  releaseDrop : Int
  compliance : Int
  initialK : Int
deriving DecidableEq, Repr

/-- The test order held (R118). -/
structure Order where
  testId : Nat
  part1 : Option OrderPart1
  part2 : Option OrderPart2
  part3 : Option OrderPart3
deriving DecidableEq, Repr

/-- The exception summary of a segment (R130). -/
structure Summary where
  lockTimeout : Bool := false
  fallback : Bool := false
  starvedBefore : Bool := false
  levelSaturated : Bool := false
  heldPair : Bool := false
deriving DecidableEq, Repr

inductive SegStatus
  | empty | loaded | opened | closed
deriving DecidableEq, Repr

/-- The fields a SEGMENT loads (7.3). -/
structure SegFields where
  mode : Mode := .hold
  target : Int := 0
  entryVel : Int := 0
  window : Nat := 0
  endKind : EndKind := .breakOnly
  endValue : Int := 0
  last : Bool := false
  releaseAllowed : Bool := false
deriving DecidableEq, Repr

/-- The outcome of a closed segment (R130). -/
structure Outcome where
  cause : CloseCause
  openTime : Time
  closeTime : Time
  elapsed : Nat
  strain : Option Int
  force : Option Int
  travel : Option Int
deriving DecidableEq, Repr

/-- An entry of the segment table (7.3); the first lock time and the exception summary are gathered
while it is OPEN and stand once it is CLOSED. -/
structure Segment where
  status : SegStatus := .empty
  fields : SegFields := {}
  openTime : Time := 0
  elapsed : Nat := 0
  firstLock : Option Time := none
  summary : Summary := {}
  outcome : Option Outcome := none
deriving DecidableEq, Repr

/-- The sequencer (R140). -/
structure Seq where
  op : OpState := .starting
  test : Option TestState := none
  order : Option Order := none
  segs : Vector Segment 32 := Vector.replicate 32 {}
  cursor : Fin 32 := 0
  pauseTime : Nat := 0
  yieldSeen : Bool := false
  forceMax : Int := 0
  endCause : Option EndCause := none
  refusal : Option RefusalCode := none
deriving DecidableEq, Repr

/-! ### Halt unit -/

/-- The halt record (R141). -/
structure HaltRecord where
  cause : HaltCause
  originator : Fin 16
  time : Time
  /-- true for STANDING, false for NOTED. -/
  standing : Bool
deriving DecidableEq, Repr

/-- The break record (R148). -/
structure BreakRecord where
  originator : Fin 16
  time : Time
deriving DecidableEq, Repr

/-- The halt unit (R153). FAULT and DRV-EN are computed from the sequencer's states (R152). -/
structure Hlt where
  record : Option HaltRecord := none
  breakRecord : Option BreakRecord := none
  /-- The previous level of the stop-input watch: true for asserted; CLEAR and FRAME-RESET release it. -/
  stopPrev : Bool := false
  /-- The level the last sample found, whatever CLEAR and FRAME-RESET did to the previous level (R122, R146). -/
  stopFound : Bool := false
deriving DecidableEq, Repr

/-! ### Evaluator -/

inductive RecordState
  | none_ | collecting | final
deriving DecidableEq, Repr

inductive Validity
  | valid | suspect
deriving DecidableEq, Repr

/-- The validity causes (R172). -/
structure Causes where
  degraded : Bool := false
  heldPairing : Bool := false
  strainFault : Bool := false
  unplannedHandover : Bool := false
  noFit : Bool := false
  fitRejected : Bool := false
deriving DecidableEq, Repr

/-- The order parameters copied at START (R154). -/
structure EvalParams where
  area : Int
  sigmaLo : Int
  sigmaHi : Int
  eMin : Int
  eMax : Int
  offset : Int
  yieldDrop : Int
  transientSpan : Int
deriving DecidableEq, Repr

/-- An entry of the pairing queue (9.2). -/
structure LoadEntry where
  time : Time
  force : Int
  flags : SampleFlags
deriving DecidableEq, Repr

/-- A pair (9.2). -/
structure Pair where
  time : Time
  force : Int
  stress : Int
  strain : Int
  degraded : Bool
  held : Bool
  derived : Bool
  unplanned : Bool
deriving DecidableEq, Repr

/-- A point of the break-scan queue (R167). -/
structure ScanPoint where
  stress : Int
  strain : Int
  derived : Bool
deriving DecidableEq, Repr

inductive FitState
  | fitOpen | accepted | rejected | noFit
deriving DecidableEq, Repr

/-- The fit's state and sums (R160). -/
structure Fit where
  st : FitState := .fitOpen
  n : Int := 0
  sE : Int := 0
  sS : Int := 0
  sEE : Int := 0
  sES : Int := 0
deriving DecidableEq, Repr

inductive ProofSearch
  | none_ | searching | found
deriving DecidableEq, Repr

/-- The proof search: its state, and the distance, stress and strain of the previous pair judged (R162). -/
structure Proof where
  st : ProofSearch := .none_
  prev : Option (Int × Int × Int) := none
deriving DecidableEq, Repr

inductive YieldState
  | seeking | plateau | closed
deriving DecidableEq, Repr

/-- The yield tracker: its state, and the peak stress with its strain (R163). -/
structure Yield where
  st : YieldState := .seeking
  peak : Option (Int × Int) := none
deriving DecidableEq, Repr

/-- The value fields of the result record (9.8). -/
structure ResultValues where
  e : Option Int := none
  epsInt : Option Int := none
  /-- UYS with its strain. -/
  uys : Option (Int × Int) := none
  lys : Option Int := none
  ype : Option Int := none
  /-- PS with its strain and the offset used. -/
  ps : Option (Int × Int × Int) := none
  /-- TS with FM and its strain. -/
  ts : Option (Int × Int × Int) := none
  ue : Option Int := none
  /-- FE, and whether its source is DERIVED. -/
  fe : Option (Int × Bool) := none
deriving DecidableEq, Repr

/-- The result record (9.8). -/
structure ResultRecord where
  st : RecordState := .none_
  testId : Nat := 0
  endCause : Option EndCause := none
  validity : Option Validity := none
  causes : Causes := {}
  pairCount : Nat := 0
  values : ResultValues := {}
deriving DecidableEq, Repr

/-- The evaluator (R175). -/
structure Evl where
  record : ResultRecord := {}
  params : Option EvalParams := none
  queue : List LoadEntry := []
  scan : List ScanPoint := []
  fit : Fit := {}
  proof : Proof := {}
  yield : Yield := {}
  yieldReported : Bool := false
  /-- The closing time while the closing mark is set (R169). -/
  closing : Option Time := none
  drainAt : Option Time := none
deriving DecidableEq, Repr

/-! ### Health monitor -/

/-- The record of one health score (R176), with the per-test measure of scores 3 to 7. -/
structure Score where
  value : Int := 100
  worst : Int := 100
  threshold : Nat := 0
  tripped : Bool := false
  measure : Int := 0
deriving DecidableEq, Repr

/-- The health monitor (R185). -/
structure Hlm where
  zeroDrift : Score := {}
  balanceResidue : Score := {}
  armDisagree : Score := {}
  slip : Score := {}
  following : Score := {}
  level : Score := {}
  bus : Score := {}
deriving DecidableEq, Repr

/-! ### The node and the machine -/

/-- One node: its outside lines and its blocks (1.3). -/
structure Node where
  pins : Pins := {}
  filters : Filters := {}
  clk : Clock := {}
  sul : Sul := {}
  lc : Lc := {}
  tsg : Tsg := {}
  datums : Datums := {}
  exh : Exh := {}
  fbc : Fbc := {}
  pta : Pta := {}
  cmu : Cmu := {}
  seq : Seq := {}
  hlt : Hlt := {}
  evl : Evl := {}
  hlm : Hlm := {}
deriving DecidableEq, Repr

/-- The machine: the node, and the commands that wait, first in first out. -/
structure State where
  node : Node := {}
  pending : List Instr := []
deriving DecidableEq, Repr

/-- No event of the manual stops the node: a step never answers a fault. -/
inductive Fault
deriving DecidableEq, Repr

/-- Refusals of the model. -/
inductive Refusal
  /-- Raised by `exec` for a command that has no meaning yet; no arm of this model raises it. Safe. -/
  | notModelled (mnemonic : String)
deriving DecidableEq, Repr

/-- The machine right after release of the RESET pin (R186): every block at its power-on values, STARTING,
the image read begun, the local time counter at 0. -/
def State.reset : State := { node := { sul := { reading := true } } }

end Sys2Proof.Machine
end

