-- ==== Sys2Proof/Machine/Ops.lean ====
section
/-! DEFINITION. The shared operations: replacing one block of the node, exact arithmetic with the
manual's rounding (2.1), local times (2.3), histories and the interpolation service (5.7), and the
node's roles and operating states. -/
namespace Sys2Proof.Machine

/-! ### Replacing one block -/

def Node.setPins (n : Node) (x : Pins) : Node := { n with pins := x }
def Node.setFilters (n : Node) (x : Filters) : Node := { n with filters := x }
def Node.setClk (n : Node) (x : Clock) : Node := { n with clk := x }
def Node.setSul (n : Node) (x : Sul) : Node := { n with sul := x }
def Node.setLc (n : Node) (x : Lc) : Node := { n with lc := x }
def Node.setTsg (n : Node) (x : Tsg) : Node := { n with tsg := x }
def Node.setDatums (n : Node) (x : Datums) : Node := { n with datums := x }
def Node.setExh (n : Node) (x : Exh) : Node := { n with exh := x }
def Node.setFbc (n : Node) (x : Fbc) : Node := { n with fbc := x }
def Node.setPta (n : Node) (x : Pta) : Node := { n with pta := x }
def Node.setCmu (n : Node) (x : Cmu) : Node := { n with cmu := x }
def Node.setSeq (n : Node) (x : Seq) : Node := { n with seq := x }
def Node.setHlt (n : Node) (x : Hlt) : Node := { n with hlt := x }
def Node.setEvl (n : Node) (x : Evl) : Node := { n with evl := x }
def Node.setHlm (n : Node) (x : Hlm) : Node := { n with hlm := x }

/-- The outcome of a command: the next state, with the node it leaves and the queue as it stands. -/
def State.ran (s : State) (n : Node) : Host.Outcome State Fault Refusal := .next { s with node := n }

/-! ### Arithmetic (2.1) -/

/-- The quotient rounded to the nearest integer, halves away from zero (2.1). -/
def roundDiv (num den : Int) : Int :=
  if den = 0 then Config.zeroDivisor num
  else
    let m := if den < 0 then -num else num
    let a : Int := den.natAbs
    if 0 ≤ m then (2 * m + a) / (2 * a) else -((2 * -m + a) / (2 * a))

/-- "Clamp x to [a, b]" (2.1). -/
def clamp (lo hi x : Int) : Int := if x < lo then lo else if hi < x then hi else x

/-- The sign of a velocity: +1, 0 or −1. -/
def signOf (x : Int) : Int := if 0 < x then 1 else if x < 0 then -1 else 0

/-- The limit of published positions, elongations and strains (2.2). -/
def lengthLimit : Int := 2000000000

/-- The limit of published force, dN (2.2, R3). -/
def forceLimit : Int := 30000000

/-! ### Local time (2.3, R81) -/

/-- The difference of two local times, modulo 2³² and read as a signed value. -/
def tdiff (t u : Time) : Int := (t - u).toInt

/-- `t` is later than `u`. -/
def later (t u : Time) : Bool := decide (0 < tdiff t u)

/-- The local time `us` microseconds after `t`. -/
def after (t : Time) (us : Nat) : Time := t + BitVec.ofNat 32 us

/-- A timer has run out: it runs, and the local time is not before its expiry. -/
def due (now : Time) (timer : Option Time) : Bool :=
  match timer with
  | none => false
  | some t => decide (0 ≤ tdiff now t)

/-- 2³⁰ µs, the silence and re-seed times (R85, R87). -/
def longTime : Nat := 1073741824

/-- The node's local time now. -/
abbrev Node.now (n : Node) : Time := n.clk.time

/-! ### Histories and the interpolation service (5.7) -/

/-- An entry joins a history of at most `k` entries, and the oldest leaves when it is full (R90, R167). -/
def pushBounded {α : Type} (k : Nat) (h : List α) (e : α) : List α :=
  (h ++ [e]).drop (h.length + 1 - k)

/-- A history holds 8 entries (R6, R90). -/
def pushHist (h : List HistEntry) (e : HistEntry) : List HistEntry := pushBounded 8 h e

def newest? (h : List HistEntry) : Option HistEntry := h.getLast?

/-- Flags carried by either of two entries (R93). -/
def SampleFlags.or (a b : SampleFlags) : SampleFlags where
  held := a.held || b.held
  balancing := a.balancing || b.balancing
  overrange := a.overrange || b.overrange
  degraded := a.degraded || b.degraded
  slip := a.slip || b.slip
  singleArm := a.singleArm || b.singleArm
  fault := a.fault || b.fault
  releasing := a.releasing || b.releasing
  derived := a.derived || b.derived
  unplanned := a.unplanned || b.unplanned
  detached := a.detached || b.detached

/-- Where a time falls in a history (5.7). -/
inductive Place
  | empty
  | beforeOldest (oldest : HistEntry)
  | onEntry (e : HistEntry)
  | between (a b : HistEntry)
  | afterNewest (newest : HistEntry)
deriving DecidableEq, Repr

/-- Search from an entry `a` whose time is not later than `t`. -/
def locateFrom (t : Time) (a : HistEntry) : List HistEntry → Place
  | [] => if t = a.time then .onEntry a else .afterNewest a
  | b :: rest =>
    if t = a.time then .onEntry a
    else if later b.time t then .between a b
    else locateFrom t b rest

/-- The case of a request for time `t` (R93 to R95). -/
def locate (h : List HistEntry) (t : Time) : Place :=
  match h with
  | [] => .empty
  | a :: rest => if later a.time t then .beforeOldest a else locateFrom t a rest

/-- The line through two entries at a time: b + round((b − a)(t − t_b)/(t_b − t_a)), written from `a`
for a time between them (R93). -/
def interpolate (a b : HistEntry) (t : Time) : Int :=
  a.value + roundDiv ((b.value - a.value) * tdiff t a.time) (tdiff b.time a.time)

/-- An answer of the interpolation service: value, flags, and the held mark (R94). -/
structure Answer where
  value : Int
  flags : SampleFlags
  held : Bool := false
deriving DecidableEq, Repr

/-- The answer that an entry's value and flags give. -/
def HistEntry.answer (e : HistEntry) : Answer := { value := e.value, flags := e.flags }

/-- A time within the history: the answers that do not depend on the caller's rule (R93, R94). -/
def Place.inside (t : Time) : Place → Option Answer
  | .beforeOldest e => some { e.answer with held := true }
  | .onEntry e => some e.answer
  | .between a b => some { value := interpolate a b t, flags := a.flags.or b.flags }
  | .afterNewest _ => none
  | .empty => none

/-- The rule NEWEST (R95): a time after the newest entry takes the newest entry. -/
def answerNewest (h : List HistEntry) (t : Time) : Option Answer :=
  match locate h t with
  | .afterNewest e => some e.answer
  | p => p.inside t

/-- The newest two entries of a history, older first. -/
def newestTwo? (h : List HistEntry) : Option (HistEntry × HistEntry) :=
  match h.reverse with
  | b :: a :: _ => some (a, b)
  | _ => none

/-- The cap of an extrapolation, µs (R95). -/
def extrapolationCap : Int := 5000

/-- The rule EXTRAPOLATE (R95): beyond the newest entry, linear in the newest two, capped at 5,000 µs. -/
def answerExtrapolate (h : List HistEntry) (t : Time) : Option Answer :=
  match locate h t with
  | .afterNewest e =>
    match newestTwo? h with
    | some (a, b) =>
      let dt := min (tdiff t b.time) extrapolationCap
      some { value := b.value + roundDiv ((b.value - a.value) * dt) (tdiff b.time a.time)
             flags := a.flags.or b.flags }
    | none => some e.answer
  | p => p.inside t

/-- A time bracketed by entries that carry neither HELD nor FAULT: its value (R53). -/
def answerBracketed (h : List HistEntry) (t : Time) : Option Int :=
  match locate h t with
  | .onEntry e => if e.flags.held || e.flags.fault then none else some e.value
  | .between a b =>
    if (a.flags.or b.flags).held || (a.flags.or b.flags).fault then none
    else some (interpolate a b t)
  | _ => none

/-! ### Fixed numbers of like things -/

def Vector.map4 {α β : Type} (f : α → β) (v : Vector α 4) : Vector β 4 :=
  #v[f v[0], f v[1], f v[2], f v[3]]

def PerClass.get {α : Type} (p : PerClass α) : FrameClass → α
  | .urgent => p.urgent
  | .sample => p.sample
  | .bulk => p.bulk

def PerClass.set {α : Type} (p : PerClass α) (c : FrameClass) (x : α) : PerClass α :=
  match c with
  | .urgent => { p with urgent := x }
  | .sample => { p with sample := x }
  | .bulk => { p with bulk := x }

/-- The subscriptions in order (R88). -/
def allSubs : List (Fin 4) := [0, 1, 2, 3]

/-- The next index of the segment table, where there is one. -/
def nextIndex (i : Fin 32) : Option (Fin 32) :=
  if h : i.val + 1 < 32 then some ⟨i.val + 1, h⟩ else none

/-! ### The node's image, roles and states -/

abbrev Node.img (n : Node) : Image := n.sul.image
abbrev Node.nodeId (n : Node) : Fin 16 := n.sul.image.nodeId

/-- The roles of a roles byte (12.1). -/
def rolesOf (b : Byte) : Roles :=
  ⟨b.getLsbD 0, b.getLsbD 1, b.getLsbD 2, b.getLsbD 3⟩

def Node.roles (n : Node) : Roles := rolesOf n.img.roles

/-- The test state exists: ACTIVE, or SILENT entered from ACTIVE (R116). -/
def Node.inService (n : Node) : Bool := n.seq.test.isSome

/-- The LC is live (R1). -/
def Node.lcLive (n : Node) : Bool := n.inService && n.roles.load
/-- The TSG and the CMU are live (Chapter 2, R98). -/
def Node.driveLive (n : Node) : Bool := n.inService && n.roles.drive
/-- The EXH is live (Chapter 3). -/
def Node.extLive (n : Node) : Bool := n.inService && n.roles.ext
/-- The EVL is live (9.1). -/
def Node.evalLive (n : Node) : Bool := n.inService && n.roles.eval

/-- A test is in progress: RUNNING or PAUSED (3.3). -/
def Node.testInProgress (n : Node) : Bool :=
  n.seq.test == some .running || n.seq.test == some .paused

/-- The frame bus controller is live (R62). -/
def Node.fbcLive (n : Node) : Bool :=
  match n.seq.op with
  | .starting => false
  | .active => true
  | .silent => true
  | .configFault =>
    match n.sul.fault with
    | some (.check, _) => false
    | some (.identity, _) => false
    | some _ => true
    | none => false

/-- FAULT (R152). -/
def Node.faultOut (n : Node) : Bool := n.seq.op != .active || n.seq.test == some .halted

/-- DRV-EN (R152). -/
def Node.drvEn (n : Node) : Bool := n.seq.op == .active && n.seq.test != some .halted

/-! ### Subscriptions and sources -/

/-- The configured peer, kind and use of a subscription. -/
def Node.subCfg (n : Node) (i : Fin 4) : Option SubCfg := n.img.subs[i]

def Node.sub (n : Node) (i : Fin 4) : Sub := n.pta.subs[i]

/-- The subscription of a use; the image holds at most one of each use that is asked for (R188). -/
def Node.subOfUse (n : Node) (u : SubUse) : Option (Fin 4) :=
  allSubs.find? fun i => match n.subCfg i with
    | some c => c.use == u
    | none => false

/-- The subscription a SAMPLE frame matches: live, of its sender and channel kind (R66, R88). -/
def Node.matchSub (n : Node) (sender : Fin 16) (ch : Channel) : Option (Fin 4) :=
  if n.inService then
    allSubs.find? fun i => match n.subCfg i with
      | some c => c.peer == sender && c.channel == ch
      | none => false
  else none

/-- The history of a use's subscription; empty where there is none. -/
def Node.histOfUse (n : Node) (u : SubUse) : List HistEntry :=
  match n.subOfUse u with
  | some i => (n.sub i).hist
  | none => []

/-- The entries of the own STRAIN history. -/
def Exh.entries (x : Exh) : List HistEntry := x.hist.map (·.entry)

/-- The load source: the own LOAD history where the node holds LOAD, and otherwise LOAD-SOURCE
(3.5, R104, 9.1). -/
def Node.loadHist (n : Node) : List HistEntry :=
  if n.roles.load then n.lc.hist else n.histOfUse .loadSource

/-- The strain source: the own STRAIN history where the node holds EXT, and otherwise STRAIN-SOURCE
(R104, 9.1). -/
def Node.strainHist (n : Node) : List HistEntry :=
  if n.roles.ext then n.exh.entries else n.histOfUse .strainSource

def Node.hasLoadSource (n : Node) : Bool := n.roles.load || (n.subOfUse .loadSource).isSome
def Node.hasStrainSource (n : Node) : Bool := n.roles.ext || (n.subOfUse .strainSource).isSome

/-- The travel sources that have a datum, each with its history and datum (R26). -/
def Node.travelSources (n : Node) : List (List HistEntry × Int) :=
  let own := match n.datums.own with
    | some d => [(n.tsg.hist, d)]
    | none => []
  own ++ allSubs.filterMap fun i => match n.datums.subs[i] with
    | some d => some ((n.sub i).hist, d)
    | none => none

/-- The round of the mean of test travels; none where there is none (R26). -/
def meanTravel (xs : List Int) : Option Int :=
  if xs.isEmpty then none else some (roundDiv xs.sum xs.length)

/-- The crosshead test travel by newest values (R26). -/
def Node.travelNow (n : Node) : Option Int :=
  meanTravel (n.travelSources.filterMap fun (h, d) => (newest? h).map fun e => e.value - d)

/-- The crosshead test travel at a time, under the NEWEST rule (R49, R130). -/
def Node.travelAt (n : Node) (t : Time) : Option Int :=
  meanTravel (n.travelSources.filterMap fun (h, d) => (answerNewest h t).map fun a => a.value - d)

/-- The crosshead test travel at a time, where every source with a datum brackets it (R53). -/
def Node.travelBracketed (n : Node) (t : Time) : Option Int :=
  match n.travelSources.mapM fun (h, d) => (answerBracketed h t).map (· - d) with
  | some xs => meanTravel xs
  | none => none

/-- The latest force: the newest sample of the load source, whatever its flags (R52). -/
def Node.latestForce (n : Node) : Option Int := (newest? n.loadHist).map (·.value)

end Sys2Proof.Machine
end

