-- ==== Sys2Proof/Machine/Operands.lean ====
section
/-! DEFINITION. The operand forms: bytes and multi-byte fields (R193), the frame header, the check value
(R64), the code values of 12.1 and the payloads of 12.2. -/
namespace Sys2Proof.Machine

/-! ### Multi-byte fields, most significant byte first (R193) -/

def byteOf (x : Nat) : Byte := BitVec.ofNat 8 x

def be16 (x : Nat) : List Byte := [byteOf (x / 256), byteOf x]

def be32 (w : BitVec 32) : List Byte :=
  [w.extractLsb' 24 8, w.extractLsb' 16 8, w.extractLsb' 8 8, w.extractLsb' 0 8]

/-- An unsigned field of four bytes; a value that does not fit is free (log 9). -/
def u32 (x : Nat) : List Byte :=
  be32 (if x < 4294967296 then BitVec.ofNat 32 x else Config.unfitUnsigned x)

/-- A signed field of four bytes in two's complement; a value that does not fit is free (log 9). -/
def i32 (x : Int) : List Byte :=
  be32 (if -2147483648 ≤ x ∧ x < 2147483648 then BitVec.ofInt 32 x else Config.unfitSigned x)

/-- A field a rule calls absent is sent as 0 (R193). -/
def optI32 (x : Option Int) : List Byte := i32 (x.getD 0)

def optTime (x : Option Time) : List Byte := be32 (x.getD 0)

def boolByte (b : Bool) : Byte := if b then 1 else 0

/-- A byte of named bits, bit 0 first. -/
def bitsByte (bs : List Bool) : Byte :=
  byteOf (bs.foldr (fun b acc => 2 * acc + b.toNat) 0)

def byteAt (p : List Byte) (i : Nat) : Byte := p.getD i 0

/-- The named bits of a roles byte (12.1); the others are sent as 0 and not read (R193). -/
def namedRoles (b : Byte) : Byte := b &&& 0x0F

def natAt (p : List Byte) (i : Nat) : Nat := (byteAt p i).toNat

def nat16At (p : List Byte) (i : Nat) : Nat := natAt p i * 256 + natAt p (i + 1)

def word32At (p : List Byte) (i : Nat) : BitVec 32 :=
  byteAt p i ++ byteAt p (i + 1) ++ byteAt p (i + 2) ++ byteAt p (i + 3)

def nat32At (p : List Byte) (i : Nat) : Nat := (word32At p i).toNat

def int32At (p : List Byte) (i : Nat) : Int := (word32At p i).toInt

/-! ### Code values (12.1) -/

def Channel.code : Channel → Byte
  | .load => 1 | .travel => 2 | .strain => 3

def Channel.ofCode (b : Byte) : Option Channel :=
  if b = 1 then some .load else if b = 2 then some .travel else if b = 3 then some .strain else none

def Mode.code : Mode → Byte
  | .hold => 0 | .crossheadRate => 1 | .loadRate => 2 | .strainRate => 3

def Mode.ofCode (b : Byte) : Option Mode :=
  if b = 0 then some .hold else if b = 1 then some .crossheadRate
  else if b = 2 then some .loadRate else if b = 3 then some .strainRate else none

def lockCode : Option LockState → Byte
  | none => 0 | some .acquiring => 1 | some .locked => 2

def ExtState.code : ExtState → Byte
  | .detached => 0 | .attached => 1 | .releasing => 2 | .released => 3

def TestState.code : TestState → Byte
  | .ready => 0 | .armed => 1 | .running => 2 | .paused => 3 | .halted => 4 | .ended => 5

def OpState.code : OpState → Byte
  | .starting => 0 | .active => 1 | .configFault => 2 | .silent => 3

def HaltCause.code : HaltCause → Byte
  | .stopInput => 1 | .overload => 2 | .travelLimit => 3 | .tilt => 4 | .partnerLost => 5
  | .loadLost => 6 | .following => 7 | .encoderFault => 8 | .notReady => 9 | .extNotClosed => 10
  | .extReleaseFault => 11 | .duplicateId => 12 | .operator => 13

/-- The cause a HALT carries; a code outside 1..13 is read as OPERATOR (R143, R194). -/
def HaltCause.ofCode (b : Byte) : HaltCause :=
  match b.toNat with
  | 1 => .stopInput | 2 => .overload | 3 => .travelLimit | 4 => .tilt | 5 => .partnerLost
  | 6 => .loadLost | 7 => .following | 8 => .encoderFault | 9 => .notReady | 10 => .extNotClosed
  | 11 => .extReleaseFault | 12 => .duplicateId | _ => .operator

def refusalCode : Option RefusalCode → Byte
  | none => 0 | some .notAllowed => 1 | some .badField => 2 | some .wrongTest => 3
  | some .busy => 4 | some .noRole => 5 | some .limit => 6 | some .zeroLimit => 7

def EndKind.code : EndKind → Byte
  | .strainAtLeast => 1 | .forceAtLeast => 2 | .travelAtLeast => 3 | .timeAtLeast => 4
  | .yieldSeen => 5 | .forceDrop => 6 | .breakOnly => 7

def EndKind.ofCode (b : Byte) : Option EndKind :=
  match b.toNat with
  | 1 => some .strainAtLeast | 2 => some .forceAtLeast | 3 => some .travelAtLeast
  | 4 => some .timeAtLeast | 5 => some .yieldSeen | 6 => some .forceDrop | 7 => some .breakOnly
  | _ => none

def CloseCause.code : CloseCause → Byte
  | .condition => 1 | .peerMark => 2 | .skipped => 3 | .byBreak => 4 | .byHalt => 5 | .byAbort => 6

def endCauseCode : Option EndCause → Byte
  | none => 0 | some .lastSegment => 1 | some .byBreak => 2 | some .byAbort => 3 | some .byHalt => 4

def FaultCode.code : FaultCode → Byte
  | .check => 1 | .identity => 2 | .field => 3 | .limits => 4 | .calibration => 5
  | .subscription => 6 | .source => 7

def SubUse.code : SubUse → Byte
  | .loadSource => 1 | .strainSource => 2 | .partnerTravel => 3 | .otherTravel => 4

def SubUse.ofCode (b : Byte) : Option SubUse :=
  match b.toNat with
  | 1 => some .loadSource | 2 => some .strainSource | 3 => some .partnerTravel
  | 4 => some .otherTravel | _ => none

/-- The commands a COMMAND frame can carry (12.1). -/
inductive CommandCode
  | start | pause | resume | abort | clear | zero | balance | jog | stopJog | frameReset
deriving DecidableEq, Repr

def CommandCode.ofCode (b : Byte) : Option CommandCode :=
  match b.toNat with
  | 1 => some .start | 2 => some .pause | 3 => some .resume | 4 => some .abort | 5 => some .clear
  | 6 => some .zero | 7 => some .balance | 8 => some .jog | 9 => some .stopJog
  | 10 => some .frameReset | _ => none

/-- The payload length of a COMMAND: 3 for START, 5 for JOG, 1 for every other (12.2). -/
def CommandCode.length : CommandCode → Nat
  | .start => 3 | .jog => 5 | _ => 1

/-- The query kinds (12.4). -/
inductive QueryKind
  | status | segment | result | health | peer
deriving DecidableEq, Repr

def QueryKind.ofCode (b : Byte) : Option QueryKind :=
  match b.toNat with
  | 1 => some .status | 2 => some .segment | 3 => some .result | 4 => some .health
  | 5 => some .peer | _ => none

/-- How many pages a query kind has; they are numbered from 1 (12.4). -/
def QueryKind.pages : QueryKind → Nat
  | .status => 4 | .segment => 2 | .result => 4 | .health => 2 | .peer => 5

/-- The argument lies in the kind's range (12.4). -/
def QueryKind.argOk (k : QueryKind) (arg : Byte) : Bool :=
  match k with
  | .segment => decide (arg.toNat < 32)
  | .peer => decide (arg.toNat < 16)
  | _ => true

/-! ### Classes and kinds of a header (12.1) -/

def classCode : FrameClass → BitVec 2
  | .urgent => 1 | .sample => 2 | .bulk => 3

/-- The class of a header; class 0 names none. -/
def classOfCode (c : BitVec 2) : Option FrameClass :=
  if c = 1 then some .urgent else if c = 2 then some .sample else if c = 3 then some .bulk else none

def MsgKind.cls : MsgKind → FrameClass
  | .halt => .urgent | .break_ => .urgent | .mark => .urgent | .sample => .sample
  | _ => .bulk

def MsgKind.code : MsgKind → BitVec 6
  | .halt => 1 | .break_ => 2 | .mark => 3 | .sample => 1
  | .command => 1 | .order => 2 | .segment => 3 | .query => 4 | .reply => 5 | .result => 6
  | .presence => 7 | .state => 8

/-- The kind of a header, where it is defined for its class (12.1). -/
def MsgKind.ofCode (c : BitVec 2) (k : BitVec 6) : Option MsgKind :=
  match classOfCode c, k.toNat with
  | some .urgent, 1 => some .halt
  | some .urgent, 2 => some .break_
  | some .urgent, 3 => some .mark
  | some .sample, 1 => some .sample
  | some .bulk, 1 => some .command
  | some .bulk, 2 => some .order
  | some .bulk, 3 => some .segment
  | some .bulk, 4 => some .query
  | some .bulk, 5 => some .reply
  | some .bulk, 6 => some .result
  | some .bulk, 7 => some .presence
  | some .bulk, 8 => some .state
  | _, _ => none

/-! ### Header and check value -/

def stationId (b : BitVec 4) : Fin 16 := ⟨b.toNat, b.isLt⟩

/-- The 8 header bytes (12.1). -/
def Header.bytes (h : Header) : List Byte :=
  [h.cls ++ h.kind,
   BitVec.ofNat 4 h.sender.val ++ BitVec.ofNat 4 h.target.val,
   BitVec.ofBool h.broadcast ++ (0 : BitVec 1) ++ BitVec.ofNat 6 h.len,
   h.seq] ++ be32 h.stamp

/-- The header that 8 characters spell (12.1). -/
def headerOf (cs : List Byte) : Header where
  cls := (byteAt cs 0).extractLsb' 6 2
  kind := (byteAt cs 0).extractLsb' 0 6
  sender := stationId ((byteAt cs 1).extractLsb' 4 4)
  target := stationId ((byteAt cs 1).extractLsb' 0 4)
  broadcast := (byteAt cs 2).getLsbD 7
  len := ((byteAt cs 2).extractLsb' 0 6).toNat
  seq := byteAt cs 3
  stamp := word32At cs 4

/-- One bit enters the check register (R64). -/
def crcBit (r : BitVec 16) (b : Bool) : BitVec 16 :=
  if b == r.getLsbD 15 then r <<< 1 else (r <<< 1) ^^^ 0x1021

/-- One byte enters the check register, most significant bit first (R64). -/
def crcByte (r : BitVec 16) (x : Byte) : BitVec 16 :=
  [7, 6, 5, 4, 3, 2, 1, 0].foldl (fun r i => crcBit r (x.getLsbD i)) r

/-- The check value of a run of bytes (R64). -/
def checkValue (bs : List Byte) : BitVec 16 := bs.foldl crcByte 0xFFFF

/-- The check value as two bytes, the upper eight bits first (R64). -/
def checkBytes (bs : List Byte) : List Byte := be16 (checkValue bs).toNat

/-- The characters of a frame: header, payload, check value. -/
def frameChars (h : Header) (payload : List Byte) : List Byte :=
  (h.bytes ++ payload) ++ checkBytes (h.bytes ++ payload)

/-- What a receiver judges of the characters of a frame (R63, R64, R65). -/
inductive Judged
  /-- A valid frame. -/
  | valid (h : Header) (payload : List Byte)
  /-- FRAMING: a payload length above 32. -/
  | lengthAbove32
  /-- FRAMING: the line went idle before the frame was complete. -/
  | short
  /-- CHECK. -/
  | check
deriving DecidableEq, Repr

/-- The characters as judged at the frame's last one; characters behind it belong to no frame (R63). -/
def judge (cs : List Byte) : Judged :=
  let h := headerOf cs
  if cs.length < 8 then .short
  else if 32 < h.len then .lengthAbove32
  else if cs.length < 10 + h.len then .short
  else if checkBytes (cs.take (8 + h.len)) = (cs.drop (8 + h.len)).take 2 then
    .valid h ((cs.drop 8).take h.len)
  else .check

/-! ### Payloads the node sends (12.2) -/

def haltPayload (cause : HaltCause) (originator : Fin 16) : List Byte :=
  [cause.code, byteOf originator.val]

def breakPayload (testId : Nat) : List Byte := be16 testId

def markPayload (index : Fin 32) (testId : Nat) (closeTime : Time) : List Byte :=
  byteOf index.val :: be16 testId ++ be32 closeTime

/-- The index and the test id of a MARK's payload. -/
def markIndex (p : List Byte) : Nat := natAt p 0
def markTest (p : List Byte) : Nat := nat16At p 1

end Sys2Proof.Machine
end

