-- ==== Sys2Proof/Machine/Flags.lean ====
section
/-! DEFINITION. The flag words: SAMPLE flags, the exception summary of a segment and the validity
causes of a result, bit by bit (12.1). -/
namespace Sys2Proof.Machine

/-- The flags of a SAMPLE as its two bytes carry them (12.1). -/
def SampleFlags.bytes (f : SampleFlags) : List Byte :=
  [bitsByte [f.derived, f.unplanned, f.detached],
   bitsByte [f.held, f.balancing, f.overrange, f.degraded, f.slip, f.singleArm, f.fault, f.releasing]]

/-- The flags that two bytes spell; bits no table names are not read (R193). -/
def SampleFlags.ofBytes (hi lo : Byte) : SampleFlags where
  held := lo.getLsbD 0
  balancing := lo.getLsbD 1
  overrange := lo.getLsbD 2
  degraded := lo.getLsbD 3
  slip := lo.getLsbD 4
  singleArm := lo.getLsbD 5
  fault := lo.getLsbD 6
  releasing := lo.getLsbD 7
  derived := hi.getLsbD 0
  unplanned := hi.getLsbD 1
  detached := hi.getLsbD 2

/-- The exception summary (12.1). -/
def Summary.byte (s : Summary) : Byte :=
  bitsByte [s.lockTimeout, s.fallback, s.starvedBefore, s.levelSaturated, s.heldPair]

/-- The validity causes (12.1). -/
def Causes.byte (c : Causes) : Byte :=
  bitsByte [c.degraded, c.heldPairing, c.strainFault, c.unplannedHandover, c.noFit, c.fitRejected]

/-- No validity cause stands (R172). -/
def Causes.isEmpty (c : Causes) : Bool :=
  !(c.degraded || c.heldPairing || c.strainFault || c.unplannedHandover || c.noFit || c.fitRejected)

/-- The SAMPLE payload: channel kind, flags, aux, sample time, value (R75, 12.2). -/
def samplePayload (ch : Channel) (flags : SampleFlags) (aux : Byte) (time : Time) (value : Int) :
    List Byte :=
  ch.code :: flags.bytes ++ [aux] ++ be32 time ++ i32 value

/-- The sample time, value and flags of a SAMPLE payload (12.2). -/
def sampleTimeAt (p : List Byte) : Time := word32At p 4
def sampleValueAt (p : List Byte) : Int := int32At p 8
def sampleFlagsAt (p : List Byte) : SampleFlags := SampleFlags.ofBytes (byteAt p 1) (byteAt p 2)

end Sys2Proof.Machine
end

