-- ==== Sys2Proof/Machine/Health.lean ====
section
/-! DEFINITION. The health monitor (Chapter 10): the seven scores, their updates, and the DEGRADED flag. -/
namespace Sys2Proof.Machine

def Hlm.get (h : Hlm) : HealthId → Score
  | .zeroDrift => h.zeroDrift
  | .balanceResidue => h.balanceResidue
  | .armDisagree => h.armDisagree
  | .slip => h.slip
  | .following => h.following
  | .level => h.level
  | .bus => h.bus

def Hlm.set (h : Hlm) (a : HealthId) (x : Score) : Hlm :=
  match a with
  | .zeroDrift => { h with zeroDrift := x }
  | .balanceResidue => { h with balanceResidue := x }
  | .armDisagree => { h with armDisagree := x }
  | .slip => { h with slip := x }
  | .following => { h with following := x }
  | .level => { h with level := x }
  | .bus => { h with bus := x }

/-- A count holds at 65,535 (R72, R176). -/
def countUp (m : Int) : Int := min (m + 1) 65535

/-- The measure after a number is handed: a peak, a count, or none for the first two scores (R176, R177). -/
def HealthId.measured (a : HealthId) (m x : Int) : Int :=
  match a with
  | .zeroDrift => m
  | .balanceResidue => m
  | .armDisagree => max m x
  | .following => max m x
  | .level => max m x
  | .slip => countUp m
  | .bus => countUp m

/-- 100 less the percentage of a number in its divisor, not below 0 (R178 to R180). -/
def percentLeft (x divisor : Int) : Int := max 0 (100 - roundDiv (100 * x) divisor)

/-- The value formed from the handed number, or from the measure where the score has one (R178 to R181). -/
def HealthId.scored (a : HealthId) (img : Image) (measure x : Int) : Int :=
  match a with
  | .zeroDrift => percentLeft x img.health.driftAllowance
  | .balanceResidue => percentLeft x img.load.balanceLimit
  | .armDisagree => percentLeft measure img.health.disagreeAllowance
  | .slip => max 0 (100 - 25 * measure)
  | .following => percentLeft measure img.drive.followLimit
  | .level => percentLeft measure img.drive.tiltLimit
  | .bus => max 0 (100 - 5 * measure)

/-- The first two scores judge each number on its own: an update that does not trip clears the flag
(R178); for the others it leaves the flag (R179 to R181). -/
def HealthId.onItsOwn : HealthId → Bool
  | .zeroDrift => true
  | .balanceResidue => true
  | _ => false

/-- One update of a score, in the order of R177. -/
def Score.updated (s : Score) (a : HealthId) (img : Image) (x : Int) : Score :=
  let m := a.measured s.measure x
  let v := a.scored img m x
  { value := v
    worst := min s.worst v
    threshold := s.threshold
    tripped := decide (v < s.threshold) || (s.tripped && !a.onItsOwn)
    measure := m }

/-- An update handed to the health monitor; it is taken while the node has a test state (R176). -/
def Node.health (n : Node) (a : HealthId) (x : Int) : Node :=
  if n.inService then n.setHlm (n.hlm.set a ((n.hlm.get a).updated a n.img x)) else n

/-- A score at START: measure 0, value 100, flag clear; the worst value is kept (R182). -/
def Score.cleaned (s : Score) : Score := { s with value := 100, tripped := false, measure := 0 }

/-- The health monitor's part of START (R182). -/
def Hlm.atStart (h : Hlm) : Hlm :=
  { h with armDisagree := h.armDisagree.cleaned, slip := h.slip.cleaned,
           following := h.following.cleaned, level := h.level.cleaned, bus := h.bus.cleaned }

def Score.measureZero (s : Score) : Score := { s with measure := 0 }

/-- The health monitor's part of FRAME-RESET (R185). -/
def Hlm.atFrameReset (h : Hlm) : Hlm :=
  { h with armDisagree := h.armDisagree.measureZero, slip := h.slip.measureZero,
           following := h.following.measureZero, level := h.level.measureZero,
           bus := h.bus.measureZero }

/-- The thresholds as the image gives them at entry to ACTIVE (R176). -/
def Hlm.withThresholds (h : Hlm) (t : Vector Nat 7) : Hlm where
  zeroDrift := { h.zeroDrift with threshold := t[0] }
  balanceResidue := { h.balanceResidue with threshold := t[1] }
  armDisagree := { h.armDisagree with threshold := t[2] }
  slip := { h.slip with threshold := t[3] }
  following := { h.following with threshold := t[4] }
  level := { h.level with threshold := t[5] }
  bus := { h.bus with threshold := t[6] }

/-- DEGRADED for a sample of a channel (R183). -/
def Hlm.degraded (h : Hlm) : Channel → Bool
  | .load => h.zeroDrift.tripped || h.balanceResidue.tripped || h.bus.tripped
  | .travel => h.following.tripped || h.level.tripped || h.bus.tripped
  | .strain => h.armDisagree.tripped || h.slip.tripped || h.bus.tripped

end Sys2Proof.Machine
end

