-- ==== Sys2Proof/Machine/Bus.lean ====
section
/-! DEFINITION. The frame bus controller's shared operations (Chapter 4): submissions to the transmit
slots and the bulk FIFO, the choice of the frame at a gap, the start and the end of an attempt. -/
namespace Sys2Proof.Machine

/-! ### Frames to be sent -/

/-- A broadcast frame before its first attempt. -/
def broadcastFrame (k : MsgKind) (payload : List Byte) : TxFrame :=
  { kind := k, target := 0, broadcast := true, payload := payload, seq := none, failed := 0 }

/-- A frame addressed to one station before its first attempt. -/
def directFrame (k : MsgKind) (target : Fin 16) (payload : List Byte) : TxFrame :=
  { kind := k, target := target, broadcast := false, payload := payload, seq := none, failed := 0 }

/-! ### The slots (R74, R75) -/

/-- A HALT submitted: a full slot keeps its frame (R74). -/
def Fbc.submitHalt (b : Fbc) (f : TxFrame) : Fbc :=
  match b.haltSlot with
  | none => { b with haltSlot := some f }
  | some _ => b

/-- A BREAK submitted, or returning from a failed attempt, replaces the frame there (R74). -/
def Fbc.submitBreak (b : Fbc) (f : TxFrame) : Fbc := { b with breakSlot := some f }

/-- A MARK submitted replaces the frame there, unless that one is of the same test with the higher
index (R74). -/
def Fbc.submitMark (b : Fbc) (f : TxFrame) : Fbc :=
  match b.markSlot with
  | none => { b with markSlot := some f }
  | some g =>
    if markTest g.payload = markTest f.payload ∧ markIndex f.payload < markIndex g.payload then b
    else { b with markSlot := some f }

/-- A MARK returning is judged in the same way, and one of the same test and index gives way to the
frame found in the slot (R74). -/
def Fbc.returnMark (b : Fbc) (f : TxFrame) : Fbc :=
  match b.markSlot with
  | none => { b with markSlot := some f }
  | some g =>
    if markTest g.payload = markTest f.payload ∧ markIndex f.payload ≤ markIndex g.payload then b
    else { b with markSlot := some f }

/-- A frame submitted to a slot of R75: it replaces the one there and keeps the fill time. -/
def refill (slot : Option Slot) (f : TxFrame) (now : Time) : Option Slot :=
  match slot with
  | none => some ⟨f, now⟩
  | some s => some ⟨f, s.fill⟩

/-- A frame returning to a slot of R75: it is dropped where the slot was filled meanwhile. -/
def comeBack (slot : Option Slot) (f : TxFrame) (now : Time) : Option Slot :=
  match slot with
  | none => some ⟨f, now⟩
  | some s => some s

def Fbc.submitSample (b : Fbc) (ch : Channel) (f : TxFrame) (now : Time) : Fbc :=
  match ch with
  | .load => { b with loadSlot := refill b.loadSlot f now }
  | .travel => { b with travelSlot := refill b.travelSlot f now }
  | .strain => { b with strainSlot := refill b.strainSlot f now }

def Fbc.submitState (b : Fbc) (f : TxFrame) (now : Time) : Fbc :=
  { b with stateSlot := refill b.stateSlot f now }

/-! ### The bulk transmit FIFO (R76) -/

/-- The FIFO holds at most 8 entries (R76). -/
def fifoCapacity : Nat := 8

/-- The judging that a removal from the FIFO owes a pending RESULT: it joins the back if its parts fit. -/
def Fbc.settlePending (b : Fbc) (now : Time) : Fbc :=
  if b.removal then
    match b.pendingResult with
    | none => { b with removal := false }
    | some parts =>
      if b.fifo.length + parts.length ≤ fifoCapacity then
        { b with fifo := b.fifo ++ parts.map (⟨·, now⟩), pendingResult := none, removal := false }
      else { b with removal := false }
  else b

/-- A REPLY or a PRESENCE: it joins the back where there is room, and is dropped otherwise (R76). -/
def Fbc.submitBulk (b : Fbc) (f : TxFrame) (now : Time) : Fbc :=
  let b := b.settlePending now
  if b.fifo.length < fifoCapacity then { b with fifo := b.fifo ++ [⟨f, now⟩] } else b

/-- A RESULT as its parts: they join together, or are held as the pending RESULT (R76). -/
def Fbc.submitResult (b : Fbc) (parts : List TxFrame) (now : Time) : Fbc :=
  let b := b.settlePending now
  match b.pendingResult with
  | some _ => { b with pendingResult := some parts }
  | none =>
    if b.fifo.length + parts.length ≤ fifoCapacity then
      { b with fifo := b.fifo ++ parts.map (⟨·, now⟩) }
    else { b with pendingResult := some parts }

/-! ### Submissions by the node's blocks (R77) -/

/-- The node is ACTIVE: its blocks submit frames (R77). -/
def Node.active (n : Node) : Bool := n.seq.op == .active

/-- PRESENCE and the REPLY to STATUS are submitted in CONFIG-FAULT too, where the bus is live (R77). -/
def Node.sendsBulk (n : Node) : Bool :=
  n.active || (n.seq.op == .configFault && n.fbcLive)

def Node.sendHalt (n : Node) (cause : HaltCause) : Node :=
  if n.active then n.setFbc (n.fbc.submitHalt (broadcastFrame .halt (haltPayload cause n.nodeId)))
  else n

def Node.sendBreak (n : Node) (testId : Nat) : Node :=
  if n.active then n.setFbc (n.fbc.submitBreak (broadcastFrame .break_ (breakPayload testId))) else n

def Node.sendMark (n : Node) (index : Fin 32) (testId : Nat) (close : Time) : Node :=
  if n.active then
    n.setFbc (n.fbc.submitMark (broadcastFrame .mark (markPayload index testId close)))
  else n

def Node.sendSample (n : Node) (ch : Channel) (payload : List Byte) : Node :=
  if n.active then n.setFbc (n.fbc.submitSample ch (broadcastFrame .sample payload) n.now) else n

/-- A STATE notice: a mark that a change has occurred; its contents are gathered at each attempt (R78). -/
def Node.notice (n : Node) : Node :=
  if n.active then n.setFbc (n.fbc.submitState (broadcastFrame .state []) n.now) else n

def Node.sendResult (n : Node) (parts : List (List Byte)) : Node :=
  if n.active then n.setFbc (n.fbc.submitResult (parts.map (broadcastFrame .result)) n.now) else n

def Node.sendReply (n : Node) (target : Fin 16) (payload : List Byte) : Node :=
  if n.sendsBulk then n.setFbc (n.fbc.submitBulk (directFrame .reply target payload) n.now) else n

/-- Configuration status and field number, 0 for OK (12.1). -/
def Node.configStatus (n : Node) : List Byte :=
  match n.sul.fault with
  | none => [0, 0]
  | some (c, field) => [c.code, byteOf field]

/-- The PRESENCE payload (12.2). -/
def Node.presencePayload (n : Node) : List Byte :=
  [byteOf n.nodeId.val, namedRoles n.img.roles, Config.partRevision] ++ n.configStatus

/-- The node enters a PRESENCE into the FIFO (R79). -/
def Node.sendPresence (n : Node) : Node :=
  if n.sendsBulk then
    n.setFbc (n.fbc.submitBulk (broadcastFrame .presence n.presencePayload) n.now)
  else n

/-! ### STATE contents (R78) -/

/-- The test id in force, 0 when none (R78): the id of the order held, complete or not (log 37). -/
def Node.testId (n : Node) : Nat :=
  match n.seq.order with
  | some o => o.testId
  | none => 0

/-- The halt record while it stands (R141). -/
def Node.standing (n : Node) : Option HaltRecord :=
  match n.hlt.record with
  | some r => if r.standing then some r else none
  | none => none

/-- The STATE payload as the node stands (R78, 12.2). -/
def Node.statePayload (n : Node) : List Byte :=
  let test := (n.seq.test.map TestState.code).getD 0
  let modes := if n.roles.drive then [n.cmu.requested.code, n.cmu.established.code, lockCode n.cmu.lock]
    else [0, 0, 0]
  let ext := if n.roles.ext then n.exh.st.code else ExtState.detached.code
  let halt := match n.standing with
    | some r => [r.cause.code, byteOf r.originator.val]
    | none => [0, 0]
  [test] ++ be16 n.testId ++ [byteOf n.seq.cursor.val] ++ modes ++ [ext] ++ halt

/-! ### Access by idle gap (R70, R71) -/

def baseGap : FrameClass → Nat
  | .urgent => 4
  | .sample => 40
  | .bulk => 76

/-- The node's gap of a class (R70). -/
def Node.gap (n : Node) (c : FrameClass) : Nat :=
  baseGap c + n.nodeId.val + if n.fbc.yields.get c then 16 else 0

/-- The top of a class's window of all gaps (R71). -/
def windowTop : FrameClass → Nat
  | .urgent => 35
  | .sample => 71
  | .bulk => 107

/-- The frame of the urgent slots to be taken: HALT, then BREAK, then MARK (R74). -/
def Fbc.readyUrgent (b : Fbc) : Option (Holder × TxFrame) :=
  match b.haltSlot, b.breakSlot, b.markSlot with
  | some f, _, _ => some (.haltSlot, f)
  | none, some f, _ => some (.breakSlot, f)
  | none, none, some f => some (.markSlot, f)
  | none, none, none => none

/-- Of two full slots, the one filled earlier; the first where they tie (R75, log 11). -/
def earlierSlot (a b : Option (Holder × Slot)) : Option (Holder × Slot) :=
  match a, b with
  | some x, some y => if later x.2.fill y.2.fill then some y else some x
  | some x, none => some x
  | none, y => y

def holding (h : Holder) (s : Option Slot) : Option (Holder × Slot) := s.map (h, ·)

/-- The frame of the sample slots to be taken: the earliest fill time (R75). -/
def Fbc.readySample (b : Fbc) : Option (Holder × TxFrame) :=
  (earlierSlot (earlierSlot (holding .loadSlot b.loadSlot) (holding .travelSlot b.travelSlot))
    (holding .strainSlot b.strainSlot)).map fun x => (x.1, x.2.frame)

/-- The bulk frame to be taken: the STATE notice if it was filled earlier than the front entry came
in, and the front entry otherwise (R76). -/
def Fbc.readyBulk (b : Fbc) : Option (Holder × TxFrame) :=
  match b.stateSlot, b.fifo with
  | none, [] => none
  | some s, [] => some (.stateSlot, s.frame)
  | none, e :: _ => some (.fifo, e.frame)
  | some s, e :: _ =>
    if later e.fill s.fill then some (.stateSlot, s.frame) else some (.fifo, e.frame)

/-- The frame ready in a class, with where it is taken from. -/
def Fbc.ready (b : Fbc) : FrameClass → Option (Holder × TxFrame)
  | .urgent => b.readyUrgent
  | .sample => b.readySample
  | .bulk => b.readyBulk

/-- The node contends in a class: its idle count stands at that class's gap and a frame is ready (R70). -/
def Node.contends (n : Node) (c : FrameClass) : Option (Holder × TxFrame) :=
  if n.fbc.idleCount = n.gap c then n.fbc.ready c else none

/-- The frame whose attempt starts now: the line is idle, the node sends nothing, and the idle count
has reached a gap with a frame ready; a SILENT node contends for nothing (R68, R70). -/
def Node.contender (n : Node) : Option (Holder × TxFrame) :=
  if n.fbcLive && n.seq.op != .silent && n.fbc.onLine.isNone && !n.fbc.lineBusy then
    ((n.contends .urgent).orElse fun _ => n.contends .sample).orElse fun _ => n.contends .bulk
  else none

/-! ### Attempts (R72, R73) -/

/-- A slot is emptied when its frame is taken; the FIFO's front entry stays (4.7). -/
def Fbc.take (b : Fbc) : Holder → Fbc
  | .haltSlot => { b with haltSlot := none }
  | .breakSlot => { b with breakSlot := none }
  | .markSlot => { b with markSlot := none }
  | .loadSlot => { b with loadSlot := none }
  | .travelSlot => { b with travelSlot := none }
  | .strainSlot => { b with strainSlot := none }
  | .stateSlot => { b with stateSlot := none }
  | .fifo => b

/-- The header of a frame at an attempt (4.2, R73). -/
def Node.txHeader (n : Node) (f : TxFrame) (seq : Byte) (len : Nat) : Header where
  cls := classCode f.kind.cls
  kind := f.kind.code
  sender := n.nodeId
  target := f.target
  broadcast := f.broadcast
  len := len
  seq := seq
  stamp := n.now

/-- The sequence counters after a frame's attempt starts: a first attempt advances its class's (R73). -/
def Fbc.seqsAfter (b : Fbc) (f : TxFrame) : PerClass Byte :=
  match f.seq with
  | some _ => b.seqs
  | none => b.seqs.set f.kind.cls (b.seqs.get f.kind.cls + 1)

/-- The attempt of a frame starts: sequence at the first attempt, stamp, STATE contents, check value
(R72, R73). The line is busy, and the receiver reads the node's own characters back. -/
def Node.startAttempt (n : Node) (h : Holder) (f : TxFrame) : Node :=
  let seq := f.seq.getD (n.fbc.seqs.get f.kind.cls)
  let payload := if f.kind = .state then n.statePayload else f.payload
  let sent := { f with seq := some seq, payload := payload }
  let b := n.fbc.take h
  n.setFbc { b with
    onLine := some ⟨sent, h, frameChars (n.txHeader f seq payload.length) payload, false⟩
    seqs := n.fbc.seqsAfter f
    receiver := .receiving
    rxStamp := n.now
    lineBusy := true }

/-- How an attempt ends by its read-back (R72): every character equal, one that differs, or one with a
framing error. -/
inductive ReadBack
  | equal | differs | framing
deriving DecidableEq, Repr

/-- The read-back judged: equal at the last character, failed at the first that differs or has a framing
error, and none while the attempt goes on (R72). -/
def readBackJudged : List Byte → List LineChar → Option ReadBack
  | [], _ => some .equal
  | _ :: _, [] => none
  | c :: cs, r :: rs =>
    if r = ⟨c, true⟩ then readBackJudged cs rs else some (if r.stopBit then .differs else .framing)

/-- The front entry leaves the FIFO (R76). -/
def Fbc.dropFront (b : Fbc) : Fbc := { b with fifo := b.fifo.drop 1, removal := true }

/-- The frame leaves its holder: a FIFO entry is removed, a slot was emptied at the start (R72). -/
def Fbc.letGo (b : Fbc) : Holder → Fbc
  | .fifo => b.dropFront
  | _ => b

/-- The frame is sent: its class's yield is set, and the run ends (R70, R71, R72). -/
def Fbc.sent (b : Fbc) (o : OnLine) : Fbc :=
  let b := b.letGo o.holder
  { b with onLine := none, yields := b.yields.set o.frame.kind.cls true, receiver := .hunting,
           lineBusy := false, idleCount := 0, bitPhase := 0 }

/-- A frame returns from a failed attempt to its holder (R72, R74, R75, R76). -/
def Fbc.giveBack (b : Fbc) (h : Holder) (f : TxFrame) (now : Time) : Fbc :=
  match h with
  | .haltSlot => { b with haltSlot := some f }
  | .breakSlot => b.submitBreak f
  | .markSlot => b.returnMark f
  | .loadSlot => { b with loadSlot := comeBack b.loadSlot f now }
  | .travelSlot => { b with travelSlot := comeBack b.travelSlot f now }
  | .strainSlot => { b with strainSlot := comeBack b.strainSlot f now }
  | .stateSlot => { b with stateSlot := comeBack b.stateSlot f now }
  | .fifo =>
    match b.fifo with
    | e :: rest => { b with fifo := ⟨f, e.fill⟩ :: rest }
    | [] => b

/-- An attempt has failed: the node stops driving and counts a collision (R72). The run goes on as any
station hears it: a framing error makes the receiver skip, and after a character that merely differs it goes
on receiving (R65, R68, log 21). -/
def Fbc.stopDriving (b : Fbc) (framing : Bool) : Fbc :=
  { b with onLine := none, ownRun := true, collisions := min (b.collisions + 1) 65535,
           receiver := if framing then .skipping else b.receiver, idleCount := 0, bitPhase := 0 }

/-- What becomes of a frame whose attempt has failed: dropped after a FRAME-RESET, discarded after the third
attempt with one BUS update, whatever its kind (R72, R181; what R195 says of a REPLY is log 39), given back
otherwise (R72). -/
def Node.attemptFailed (n : Node) (o : OnLine) (framing : Bool) : Node :=
  let b := n.fbc.stopDriving framing
  let f : TxFrame := { o.frame with failed := o.frame.failed + 1 }
  if o.noRetry then n.setFbc (b.letGo o.holder)
  else if 3 ≤ f.failed then (n.setFbc (b.letGo o.holder)).health .bus 1
  else n.setFbc (b.giveBack o.holder f n.now)

/-! ### FRAME-RESET and entry to SILENT (R80) -/

/-- The front entry is on the line. -/
def Fbc.frontOnLine (b : Fbc) : Bool :=
  match b.onLine with
  | some o => o.holder == .fifo
  | none => false

/-- The frame bus controller's part of FRAME-RESET (R72, R74, R76, R80). -/
def Fbc.atFrameReset (b : Fbc) : Fbc :=
  { b with
    haltSlot := none, breakSlot := none, markSlot := none, pendingResult := none
    removal := false
    fifo := if b.frontOnLine then b.fifo.take 1 else []
    onLine := b.onLine.map fun o => { o with noRetry := true } }

/-- The transmit holders are emptied and nothing contends (R68, R80). -/
def Fbc.atSilent (b : Fbc) : Fbc :=
  { b with
    haltSlot := none, breakSlot := none, markSlot := none, loadSlot := none, travelSlot := none
    strainSlot := none, stateSlot := none, fifo := [], pendingResult := none, removal := false
    onLine := none }

end Sys2Proof.Machine
end

