-- ==== Sys2Proof/Machine/Peers.lean ====
section
/-! DEFINITION. The peer table and time alignment (Chapter 5): header facts, the offset estimate,
notices of peers, the judging of a subscribed sample, and the timers. -/
namespace Sys2Proof.Machine

/-! ### Access -/

def Node.peer (n : Node) (i : Fin 16) : Peer := n.pta.peers[i]

def Node.setPeer (n : Node) (i : Fin 16) (p : Peer) : Node :=
  n.setPta { n.pta with peers := n.pta.peers.set i p }

def Node.setSub (n : Node) (i : Fin 4) (x : Sub) : Node :=
  n.setPta { n.pta with subs := n.pta.subs.set i x }

/-- Change every subscription to a peer. -/
def Node.mapSubsOf (n : Node) (peer : Fin 16) (f : Sub → Sub) : Node :=
  let g (i : Fin 4) : Sub :=
    match n.subCfg i with
    | some c => if c.peer = peer then f (n.sub i) else n.sub i
    | none => n.sub i
  n.setPta { n.pta with subs := #v[g 0, g 1, g 2, g 3] }

def Sub.emptied (x : Sub) : Sub := { x with hist := [] }

/-- The histories of every subscription to a peer are emptied (R85, R87, R89). -/
def Node.emptyHistsOf (n : Node) (peer : Fin 16) : Node := n.mapSubsOf peer Sub.emptied

/-! ### Header facts (R82 to R85) -/

/-- How a class's sequence moves: the receive sequence, what the missed count rises by, and whether a
skip sets the gap flags (R83). -/
def judgeSeq (r : Option Byte) (s : Byte) : Byte × Nat × Bool :=
  match r with
  | none => (s, 0, false)
  | some r =>
    let f := (s - r).toNat
    if f = 0 then (r, 0, false)
    else if f = 1 then (s, 0, false)
    else if f ≤ 127 then (s, f - 1, true)
    else if f ≤ 247 then (s, 0, false)
    else (r, 0, false)

/-- The bound between inlier and outlier, µs (R84). -/
def inlierBound : Int := 500

/-- What a sample offset does to the estimate (R84, R85). -/
inductive OffsetStep
  | seeded (o : Time)
  | inlier (estimate : Time)
  | outlier
  | reseeded (o : Time)
deriving DecidableEq, Repr

def Peer.judgeOffset (p : Peer) (o : Time) : OffsetStep :=
  match p.offset with
  | none => .seeded o
  | some e =>
    if p.offsetValid then
      if (tdiff o e).natAbs ≤ 500 then .inlier (e + BitVec.ofInt 32 (roundDiv (tdiff o e) 16))
      else if p.outliers + 1 = 4 then .reseeded o
      else .outlier
    else .seeded o

/-- The peer's offset after a header facts event (R84, R85); `rx` is the receive stamp. -/
def Peer.withOffset (p : Peer) (step : OffsetStep) (rx now : Time) : Peer :=
  match step with
  | .seeded o => { p with offset := some o, offsetValid := true, outliers := 0 }
  | .inlier e => { p with offset := some e, outliers := 0 }
  | .outlier => { p with outliers := p.outliers + 1 }
  | .reseeded o =>
    { p with offset := some o, outliers := 0, reseedStamp := some rx,
             reseedAt := some (after now longTime) }

/-- The peer's entry after the receive sequence of a class is judged (R83). -/
def Peer.withSeq (p : Peer) (c : FrameClass) (s : Byte) : Peer :=
  let j := judgeSeq (p.rxSeq.get c) s
  { p with rxSeq := p.rxSeq.set c (some j.1)
           missed := p.missed.set c (min (p.missed.get c + j.2.1) 65535) }

/-- The entry becomes present, its last frame time the receive stamp; the silence timer restarts (R82). -/
def Peer.heard (p : Peer) (rx now : Time) : Peer :=
  { p with present := true, lastFrame := some rx, silenceAt := some (after now longTime),
           longSilent := false }

/-- A skip in the SAMPLE class sets the gap flags of the peer (R83). -/
def Peer.skips (p : Peer) (c : Option FrameClass) (s : Byte) : Bool :=
  c == some .sample && (judgeSeq (p.rxSeq.get .sample) s).2.2

def Peer.withSeqOf (p : Peer) (c : Option FrameClass) (s : Byte) : Peer :=
  match c with
  | some c => p.withSeq c s
  | none => p

def OffsetStep.isReseed : OffsetStep → Bool
  | .reseeded _ => true
  | _ => false

/-- The header facts of a valid frame are taken, whole (R82). -/
def Node.takeFacts (n : Node) (f : HeaderFacts) : Node :=
  let p := n.peer f.sender
  let cls := classOfCode f.cls
  let step := p.judgeOffset (f.rxStamp - f.txStamp)
  let n' := n.setPeer f.sender
    (((p.heard f.rxStamp n.now).withOffset step f.rxStamp n.now).withSeqOf cls f.seq)
  let n' := if step.isReseed then n'.emptyHistsOf f.sender else n'
  if p.skips cls f.seq then n'.mapSubsOf f.sender fun x => { x with gap := true } else n'

/-! ### PRESENCE and STATE of a peer (R86) -/

def presenceOf (p : List Byte) : PeerPresence where
  roles := namedRoles (byteAt p 1)
  revision := byteAt p 2
  status := byteAt p 3
  field := byteAt p 4

def stateViewOf (p : List Byte) : StateView where
  test := byteAt p 0
  testId := nat16At p 1
  cursor := byteAt p 3
  requested := byteAt p 4
  established := byteAt p 5
  lock := byteAt p 6
  ext := byteAt p 7
  cause := byteAt p 8
  originator := byteAt p 9

/-- A PRESENCE arrives; one of the wrong length changes nothing (R86, R194). -/
def Node.takePresence (n : Node) (f : RxFrame) : Node :=
  if f.payload.length = 5 then
    n.setPeer f.header.sender
      { n.peer f.header.sender with presence := some (presenceOf f.payload) }
  else n

/-- A STATE arrives; one of the wrong length changes nothing (R86, R194). -/
def Node.takeState (n : Node) (f : RxFrame) : Node :=
  if f.payload.length = 10 then
    n.setPeer f.header.sender
      { n.peer f.header.sender with view := some (stateViewOf f.payload) }
  else n

/-! ### Arrival of a subscribed sample (R89) -/

/-- The stale time of the image in µs (R91). -/
def Node.staleUs (n : Node) : Nat := n.img.staleMs * 1000

/-- Steps 1 and 2: the offset to convert with, or none where the sample is dropped (R89). -/
def Peer.offsetFor (p : Peer) (rx : Time) : Option Time :=
  if p.offsetValid then
    match p.reseedStamp with
    | some r => if later r rx then none else p.offset
    | none => p.offset
  else none

/-- What steps 3 and 4 say of a sequence against the newest entry's (R89). -/
inductive SeqCase
  | drop | restart | go
deriving DecidableEq, Repr

def seqCase (h : List HistEntry) (s : Byte) : SeqCase :=
  match newest? h with
  | none => .go
  | some e =>
    let f := (s - e.seq).toNat
    if f = 0 ∨ 248 ≤ f then .drop else if 128 ≤ f then .restart else .go

/-- Step 5: the converted time is later than the newest entry's, where there is one (R89). -/
def inTimeOrder (h : List HistEntry) (t : Time) : Bool :=
  match newest? h with
  | none => true
  | some e => later t e.time

/-- Step 6: the sample joins the history, the stale flag is cleared and the timer restarts (R89, R91). -/
def Node.enterSample (n : Node) (i : Fin 4) (e : HistEntry) : Node :=
  let x := n.sub i
  n.setSub i { x with hist := pushHist x.hist e, lastArrival := some n.now,
                      staleAt := some (after n.now n.staleUs), stale := false }

/-- The entry a SAMPLE frame makes, with its converted time (R89). -/
def sampleEntry (f : RxFrame) (offset : Time) : HistEntry :=
  ⟨f.header.seq, sampleTimeAt f.payload + offset, sampleValueAt f.payload, sampleFlagsAt f.payload⟩

/-- The judging of an arrived sample (R89): the node after it, and the entry where it was entered. -/
def Node.judgeSample (n : Node) (i : Fin 4) (f : RxFrame) : Node × Option HistEntry :=
  if f.payload.length ≠ 12 then (n, none)
  else
    match (n.peer f.header.sender).offsetFor f.rxStamp with
    | none => (n, none)
    | some off =>
      let e := sampleEntry f off
      match seqCase (n.sub i).hist f.header.seq with
      | .drop => (n, none)
      | .restart => ((n.emptyHistsOf f.header.sender).enterSample i e, some e)
      | .go => if inTimeOrder (n.sub i).hist e.time then (n.enterSample i e, some e) else (n, none)

/-! ### Timers (R85, R87, R91) -/

/-- The re-seed stamp becomes absent (R85). -/
def Node.reseedExpires (n : Node) (i : Fin 16) : Node :=
  let p := n.peer i
  n.setPeer i { p with reseedStamp := none, reseedAt := none }

/-- A peer has been silent for 2³⁰ µs (R87). -/
def Node.silenceExpires (n : Node) (i : Fin 16) : Node :=
  let p := n.peer i
  (n.setPeer i { p with longSilent := true, offsetValid := false, silenceAt := none }).emptyHistsOf i

/-- The stale flag is set; the timer waits until it is restarted (R91). -/
def Node.goesStale (n : Node) (i : Fin 4) : Node :=
  let x := n.sub i
  n.setSub i { x with stale := true, staleAt := none }

/-! ### Entry to ACTIVE and FRAME-RESET (R91, R97) -/

/-- The staleness timers of the configured subscriptions start (R91). -/
def Node.startStaleness (n : Node) : Node :=
  let g (i : Fin 4) : Sub :=
    match n.subCfg i with
    | some _ => { n.sub i with staleAt := some (after n.now n.staleUs) }
    | none => n.sub i
  n.setPta { n.pta with subs := #v[g 0, g 1, g 2, g 3] }

/-- The peer table's part of FRAME-RESET: histories emptied, stale and gap flags cleared, staleness
timers restarted (R97). -/
def Node.ptaFrameReset (n : Node) : Node :=
  let g (x : Sub) : Sub := { x with hist := [], stale := false, gap := false }
  (n.setPta { n.pta with subs := Vector.map4 g n.pta.subs }).startStaleness

/-! ### The stale flag of a use -/

/-- The subscription of a use is stale. -/
def Node.staleUse (n : Node) (u : SubUse) : Bool :=
  match n.subOfUse u with
  | some i => (n.sub i).stale
  | none => false

end Sys2Proof.Machine
end

