-- ==== Sys2Proof/Machine/Travel.lean ====
section
/-! DEFINITION. The travel and step generator's shared operations (Chapter 2): positions, velocities,
the generator, datums and level; and the reports other blocks make to the open segment (R129). -/
namespace Sys2Proof.Machine

/-! ### Positions (R23) -/

def clampLength (x : Int) : Int := clamp (-lengthLimit) lengthLimit x

/-- Absolute position (R23). -/
def Node.absolutePos (n : Node) : Int := clampLength (n.tsg.count * n.img.drive.encScale)

/-- Commanded position (R23). -/
def Node.commandedPos (n : Node) : Int := clampLength (n.tsg.pulses * n.img.drive.step)

/-- Following error (R23). -/
def Node.followingError (n : Node) : Int := n.commandedPos - n.absolutePos

/-! ### The step generator (R30 to R33) -/

/-- A stop request reaches the generator (R33). -/
def Gen.requestStop (g : Gen) : Gen :=
  match g.st with
  | .running => { g with st := .stopping }
  | _ => g

/-- The period of an issued velocity, in oscillator counts (R30). -/
def periodOf (step v : Int) : Nat := (clamp 16 16777215 (roundDiv (16000000 * step) v.natAbs)).toNat

/-- The generator starts from STOPPED: one full period runs to the first pulse (R30, R31). -/
def Gen.startWith (g : Gen) (p : Nat) (pos : Bool) : Gen :=
  { g with st := .running, counter := p, period := p, dirPos := pos, runDown := false,
           runDownAt := none }

/-- A period reaches a generator that is not STOPPED: an early reload, which ends a pulse still high,
or the next underflow's reload; a stop request is withdrawn (R30, R32). -/
def Gen.applyPeriod (g : Gen) (p : Nat) (pos : Bool) : Gen :=
  if p < g.counter then
    { g with st := .running, counter := p, period := p, dirPos := pos, stepHigh := false,
             pulseLeft := 0 }
  else { g with st := .running, period := p, dirPos := pos }

/-- The generator runs: RUNNING or STOPPING (R24, R39). -/
def Gen.moving (g : Gen) : Bool := g.st != .stopped

/-- The time the run-down mark stands, µs (R24). -/
def runDownTime : Nat := 100000

/-- An underflow in STOPPING: no pulse, STOPPED, run-down mark set (R24, R33). -/
def Gen.stopped (g : Gen) (now : Time) : Gen :=
  { g with st := .stopped, counter := 0, runDown := true, runDownAt := some (after now runDownTime) }

/-- How long a pulse stays high, in oscillator counts (R31). -/
def pulseWidth (period widthCount : Nat) : Nat := min (period / 2) widthCount

/-- An underflow in RUNNING: DIR set, the pulse begun, the counter reloaded (R31). -/
def Gen.pulse (g : Gen) (widthCount : Nat) : Gen :=
  { g with counter := g.period, dirHigh := g.dirPos, stepHigh := true,
           pulseLeft := pulseWidth g.period widthCount }

/-! ### Velocities (R27, R36, R40) -/

/-- A new wanted velocity from the control mode unit, taken in RUNNING and PAUSED alone (R27). -/
def Node.setWanted (n : Node) (v : Int) : Node :=
  if n.testInProgress then n.setTsg { n.tsg with wanted := v } else n

/-- The direct stop (R27, R36). -/
def Node.directStop (n : Node) : Node :=
  if n.driveLive then
    n.setTsg { n.tsg with wanted := 0, commanded := 0, issued := 0, jog := .idle,
                          gen := n.tsg.gen.requestStop }
  else n

/-- At an assertion of drive enable the pulse count is resynchronised to the encoder (R40). -/
def Node.resync (n : Node) : Node :=
  if n.driveLive then n.setTsg { n.tsg with pulses := roundDiv n.absolutePos n.img.drive.step } else n

/-! ### Datums and level (R26, R37) -/

/-- The partner's TRAVEL subscription (2.7). -/
def Node.partner (n : Node) : Option (Fin 4) := n.subOfUse .partnerTravel

/-- The partner's position at a local time, extrapolated; none where no sample is held (R37, R95). -/
def Node.partnerAt (n : Node) (t : Time) : Option Int :=
  match n.partner with
  | some i => (answerExtrapolate (n.sub i).hist t).map (·.value)
  | none => none

/-- The level datum is captured afresh (R37). -/
def Node.captureLevel (n : Node) : Node :=
  if n.driveLive && n.partner.isSome then
    n.setTsg { n.tsg with level := (n.partnerAt n.now).map fun p => n.absolutePos - p }
  else n

/-- The subscription is of channel kind TRAVEL (R26). -/
def Node.isTravelSub (n : Node) (i : Fin 4) : Bool :=
  match n.subCfg i with
  | some c => c.channel == .travel
  | none => false

/-- The datum of a subscription at START: its newest value (R26). -/
def Node.subDatum (n : Node) (i : Fin 4) : Option Int :=
  if n.isTravelSub i then (newest? (n.sub i).hist).map (·.value) else none

/-- The travel datums are recorded at START; a source without a sample awaits its first (R26). -/
def Node.recordDatums (n : Node) : Node :=
  let await (i : Fin 4) : Bool := n.isTravelSub i && (n.sub i).hist.isEmpty
  n.setDatums
    { own := if n.roles.drive then some n.absolutePos else none
      subs := #v[n.subDatum 0, n.subDatum 1, n.subDatum 2, n.subDatum 3]
      awaiting := #v[await 0, await 1, await 2, await 3] }

/-- The first sample of an awaited travel source sets its datum (R26). -/
def Node.awaitedDatum (n : Node) (i : Fin 4) (value : Int) : Node :=
  if n.datums.awaiting[i] then
    n.setDatums { n.datums with subs := n.datums.subs.set i (some value),
                                awaiting := n.datums.awaiting.set i false }
  else n

/-! ### Reports to the open segment (R129) -/

/-- The segment entry at the cursor. -/
def Seq.cursorEntry (q : Seq) : Segment := q.segs[q.cursor]

def Seq.setEntry (q : Seq) (i : Fin 32) (e : Segment) : Seq := { q with segs := q.segs.set i e }

/-- The OPEN entry; it can only stand at the cursor (R120). -/
def Seq.openEntry (q : Seq) : Option Segment :=
  if q.cursorEntry.status == .opened then some q.cursorEntry else none

/-- A report for the open segment; it is discarded where no entry is OPEN (R129). -/
def Node.reportSeg (n : Node) (f : Segment → Segment) : Node :=
  match n.seq.openEntry with
  | some e => n.setSeq (n.seq.setEntry n.seq.cursor (f e))
  | none => n

/-- A flag is ORed into the exception summary of the open segment (R129). -/
def Node.reportFlag (n : Node) (f : Summary → Summary) : Node :=
  n.reportSeg fun e => { e with summary := f e.summary }

/-- The first lock time is written where none is yet written (R129). -/
def Node.reportLock (n : Node) (t : Time) : Node :=
  n.reportSeg fun e => { e with firstLock := e.firstLock.or (some t) }

end Sys2Proof.Machine
end

