-- ==== Sys2Proof/Machine/Control.lean ====
section
/-! DEFINITION. The control mode unit (Chapter 6): requests, establishing a mode, the rate estimate, the
lock, the rate law and the fallback. -/
namespace Sys2Proof.Machine

/-- A change of the requested mode, the established mode or the lock state brings a STATE notice (R98). -/
def Node.putCmu (n : Node) (c : Cmu) : Node :=
  let n' := n.setCmu c
  if n.cmu.requested = c.requested ∧ n.cmu.established = c.established ∧ n.cmu.lock = c.lock then n'
  else n'.notice

/-- The law stops (R103). -/
def Cmu.stopLaw (c : Cmu) : Cmu := { c with lock := none, inBand := 0, outBand := 0, lockAt := none }

/-- A new request replaces the previous one: an entry step is abandoned, a law stops (R99); an arrival at this
local time falls together with it (R108). -/
def Cmu.replaced (c : Cmu) (m : Mode) : Cmu :=
  { c.stopLaw with requested := m, entryStep := false, requestNow := true }

/-- The law of the requested mode runs: the lock state is present (R98, R103). -/
def Cmu.lawRuns (c : Cmu) : Bool := c.lock.isSome

def Mode.closed : Mode → Bool
  | .loadRate => true
  | .strainRate => true
  | _ => false

/-! ### Open modes (R100, R101) -/

/-- A request for HOLD (R100). -/
def Node.requestHold (n : Node) : Node := (n.setWanted 0).putCmu (n.cmu.replaced .hold)

/-- A request for CROSSHEAD-RATE at a velocity (R101). -/
def Node.requestCrosshead (n : Node) (v : Int) : Node :=
  (n.setWanted v).putCmu { n.cmu.replaced .crossheadRate with reqVel := v }

/-! ### The controlling source (R104) -/

/-- The newest entry carries DERIVED or FAULT. -/
def newestUnfit (h : List HistEntry) : Bool :=
  match newest? h with
  | some e => e.flags.derived || e.flags.fault
  | none => false

/-- The controlling source of a closed mode is unfit (R104). -/
def Node.sourceUnfit (n : Node) : Mode → Bool
  | .loadRate => !n.roles.load && n.staleUse .loadSource
  | .strainRate =>
    if n.roles.ext then newestUnfit n.strainHist
    else !n.hasStrainSource || n.staleUse .strainSource || newestUnfit n.strainHist
  | _ => false

/-- The controlling history of a closed mode (R104). -/
def Node.controlHist (n : Node) : Mode → List HistEntry
  | .loadRate => n.loadHist
  | .strainRate => n.strainHist
  | _ => []

/-- The subscription a staleness expiry must be of to end a closed mode (R111). -/
def Node.controlSub (n : Node) : Mode → Option (Fin 4)
  | .loadRate => if n.roles.load then none else n.subOfUse .loadSource
  | .strainRate => if n.roles.ext then none else n.subOfUse .strainSource
  | _ => none

/-! ### Fallback (R112) -/

/-- A fallback at a velocity: law stopped or entry step abandoned, mark set, CROSSHEAD-RATE requested,
FALLBACK reported (R112). -/
def Node.fallBack (n : Node) (v : Int) : Node :=
  let n' := n.requestCrosshead v
  (n'.setCmu { n'.cmu with fallback := true, fallbackVel := some v }).reportFlag
    fun s => { s with fallback := true }

/-! ### Closed modes (R102, R103, R107) -/

/-- The force rate of a stress rate on an area (R107). -/
def forceRate (stressRate area : Int) : Int :=
  clamp 1 2000000000 (roundDiv (stressRate * area) 10000)

/-- The area of the test order held (R107). -/
def Node.orderArea (n : Node) : Int :=
  match n.seq.order with
  | some o => match o.part1 with
    | some p => p.area
    | none => 0
  | none => 0

/-- Entry to a closed mode (R103). -/
def Node.enterClosed (n : Node) (m : Mode) : Node :=
  let target := if m = .loadRate then some (forceRate n.cmu.target n.orderArea) else n.cmu.forceTarget
  n.putCmu { n.cmu with
    established := m, entryStep := false, lock := some .acquiring, inBand := 0, outBand := 0
    lockAt := some (after n.now (n.img.control.lockTimeoutMs * 1000)), forceTarget := target }

/-- The direct path: on an advance, from an established motion, with the wanted velocity nonzero in
the direction (R102). -/
def Node.directPath (n : Node) (advance : Bool) (direction : Int) : Bool :=
  advance && n.cmu.established != .hold && n.tsg.wanted != 0 && signOf n.tsg.wanted == direction

/-- A request for a closed mode by way of the entry velocity (R102). -/
def Node.entryStepTo (n : Node) (m : Mode) : Node :=
  (n.setWanted n.cmu.entryVel).putCmu { n.cmu.replaced m with entryStep := true }

/-- The parameters of a closed mode (R98). -/
def Cmu.withClosed (c : Cmu) (f : SegFields) : Cmu :=
  { c with target := f.target, direction := signOf f.entryVel, entryVel := f.entryVel,
           window := f.window }

/-- A request for a closed mode (R102). -/
def Node.requestClosed (n : Node) (f : SegFields) (advance : Bool) : Node :=
  let direct := n.directPath advance (signOf f.entryVel)
  let n := n.setCmu (n.cmu.withClosed f)
  if n.sourceUnfit f.mode then n.fallBack (if direct then n.tsg.wanted else f.entryVel)
  else if direct then (n.putCmu (n.cmu.replaced f.mode)).enterClosed f.mode
  else n.entryStepTo f.mode

/-- The request of a segment (R99); `advance` tells an opening on advance from the re-entry path. -/
def Node.requestSegment (n : Node) (f : SegFields) (advance : Bool) : Node :=
  match f.mode with
  | .hold => n.requestHold
  | .crossheadRate => n.requestCrosshead f.target
  | .loadRate => n.requestClosed f advance
  | .strainRate => n.requestClosed f advance

/-! ### Deliveries from the sequencer (R99) -/

/-- The lock timer has run out in ACQUIRING and its expiry is not taken yet (R114). -/
def Cmu.timeoutDue (c : Cmu) (now : Time) : Bool := c.lock == some .acquiring && due now c.lockAt

/-- A segment opens: its marks are cleared (R110, R112); a LOCK-TIMEOUT that falls together with the close
before it is still to be reported (R114). -/
def Cmu.opened (c : Cmu) (now : Time) : Cmu :=
  { c with lockedInSeg := false, fallback := false, fallbackVel := none
           lateTimeout := c.lateTimeout || c.timeoutDue now }

/-- A segment is opened; under pause the request stays HOLD (R99, R127). -/
def Node.cmuOpen (n : Node) (f : SegFields) (advance underPause : Bool) : Node :=
  if n.driveLive then
    let n := n.setCmu (n.cmu.opened n.now)
    if underPause then n else n.requestSegment f advance
  else n

/-- PAUSE, STARVED, or the test state left for HALTED, ENDED or READY (R99). -/
def Node.cmuHold (n : Node) : Node := if n.driveLive then n.requestHold else n

/-- RESUME with an OPEN segment (R99, R112). -/
def Node.cmuResume (n : Node) (f : SegFields) : Node :=
  if n.driveLive then
    match n.cmu.fallback, n.cmu.fallbackVel with
    | true, some v => n.requestCrosshead v
    | _, _ => n.requestSegment f false
  else n

/-! ### The ramp report (R98, R100 to R102) -/

/-- The commanded velocity after the ramp is reported (R98): it may establish a mode, or complete an
entry step, which enters the closed mode in the same event (R102, log 16). -/
def Node.rampReport (n : Node) : Node :=
  if n.driveLive then
    match n.cmu.requested with
    | .hold => if n.tsg.commanded = 0 then n.putCmu { n.cmu with established := .hold } else n
    | .crossheadRate =>
      if n.tsg.commanded = n.cmu.reqVel then n.putCmu { n.cmu with established := .crossheadRate }
      else n
    | m =>
      if n.cmu.entryStep && n.tsg.commanded == n.cmu.entryVel then
        (n.putCmu { n.cmu with established := .crossheadRate }).enterClosed m
      else n
  else n

/-! ### The rate estimate, the lock and the law (R105, R106, R109, R110) -/

/-- The entries a window spans: its oldest and the newest; none where the history is too short. -/
def windowEnds (h : List HistEntry) (w : Nat) : Option (HistEntry × HistEntry) :=
  if h.length < w then none
  else match (h.drop (h.length - w)).head?, newest? h with
    | some o, some e => some (o, e)
    | _, _ => none

/-- The rate estimate (R105). -/
def rateEstimate (direction : Int) (o e : HistEntry) : Int :=
  direction * roundDiv ((e.value - o.value) * 1000000) (tdiff e.time o.time)

/-- The estimate formed at an arrival, if one is (R105). -/
def Node.estimate (n : Node) (m : Mode) : Option Int :=
  match windowEnds (n.controlHist m) n.cmu.window with
  | some (o, e) =>
    if o.flags.held || e.flags.held then none else some (rateEstimate n.cmu.direction o e)
  | none => none

/-- The target rate of the running law (R107). -/
def Cmu.rate (c : Cmu) : Int :=
  match c.requested with
  | .loadRate => c.forceTarget.getD c.target
  | _ => c.target

/-- In band (R109). -/
def withinBand (rm rt band : Int) : Bool := decide (((rm - rt).natAbs : Int) * 1000 ≤ rt * band)

/-- Outside twice the band (R109). -/
def outsideTwice (rm rt band : Int) : Bool := decide (2 * rt * band < ((rm - rt).natAbs : Int) * 1000)

/-- The lock update of an estimate (R109); the lock timer is cancelled at a change to LOCKED (R110). -/
def Cmu.updateLock (c : Cmu) (rm band : Int) (count : Nat) : Cmu :=
  match c.lock with
  | some .acquiring =>
    if withinBand rm c.rate band then
      if c.inBand + 1 = count then { c with lock := some .locked, inBand := 0, lockAt := none }
      else { c with inBand := c.inBand + 1 }
    else { c with inBand := 0 }
  | some .locked =>
    if outsideTwice rm c.rate band then
      if c.outBand + 1 = count then { c with lock := some .acquiring, outBand := 0 }
      else { c with outBand := c.outBand + 1 }
    else { c with outBand := 0 }
  | none => c

/-- The factor of one update, in 1/65536 (R106 steps 1 and 2). -/
def lawFactor (g rt rm : Int) : Int := clamp 32768 131072 (65536 + roundDiv (g * 256 * (rt - rm)) rt)

/-- The wanted velocity after an update (R106 steps 3 to 5). -/
def lawVelocity (vOld factor vMin vMax direction : Int) : Int :=
  direction * clamp vMin vMax (roundDiv (vOld * factor) 65536).natAbs

def Node.gain (n : Node) : Mode → Int
  | .loadRate => n.img.control.gainLoad
  | _ => n.img.control.gainStrain

/-- The first change to LOCKED in a segment hands the lock time (R110). -/
def Node.handLock (n : Node) (before : Option LockState) : Node :=
  if before = some .acquiring ∧ n.cmu.lock = some .locked ∧ n.cmu.lockedInSeg = false then
    (n.setCmu { n.cmu with lockedInSeg := true }).reportLock n.now
  else n

/-- An estimate of a running law: the lock is updated, then the wanted velocity is set (R103). -/
def Node.applyEstimate (n : Node) (m : Mode) (rm : Int) : Node :=
  let d := n.img.drive
  let c := { n.cmu.updateLock rm n.img.control.lockBand n.img.control.lockCount with rm := some rm }
  let n' := (n.putCmu c).handLock n.cmu.lock
  n'.setWanted
    (lawVelocity n.tsg.wanted (lawFactor (n.gain m) n.cmu.rate rm) d.vMin d.vMax n.cmu.direction)

/-- A sample arrives at the controlling history of a closed mode (R105, R111). One that falls together with a
request taken before it sets nothing (R108): the law it would have acted for has stopped, and the law of a direct
entry takes the arrivals after that local time (log 40). -/
def Node.cmuArrival (n : Node) (m : Mode) (e : HistEntry) : Node :=
  if n.driveLive && n.cmu.requested == m then
    if m == .strainRate && (e.flags.derived || e.flags.fault) then n.fallBack n.tsg.wanted
    else if n.cmu.lawRuns && !n.cmu.requestNow then
      match n.estimate m with
      | some rm => n.applyEstimate m rm
      | none => n
    else n
  else n

/-- A staleness expiry delivered to the control mode unit (R111). -/
def Node.cmuStale (n : Node) (i : Fin 4) : Node :=
  if n.driveLive && n.cmu.requested.closed && n.controlSub n.cmu.requested == some i then
    n.fallBack n.tsg.wanted
  else n

/-- The lock timer expires: LOCK-TIMEOUT is reported while ACQUIRING (R110). -/
def Node.lockTimeout (n : Node) : Node :=
  let n' := n.setCmu { n.cmu with lockAt := none }
  if n.cmu.lock = some .acquiring then n'.reportFlag fun s => { s with lockTimeout := true } else n'

/-- A LOCK-TIMEOUT that a close overtook is written into the segment opened after it, where there is one
(R114). -/
def Node.lateLockTimeout (n : Node) : Node :=
  (n.setCmu { n.cmu with lateTimeout := false }).reportFlag fun s => { s with lockTimeout := true }

/-- The control mode unit's part of FRAME-RESET (R115). -/
def Node.cmuFrameReset (n : Node) : Node :=
  if n.driveLive then
    let n := n.requestHold
    n.setCmu { n.cmu with lockedInSeg := false, fallback := false, fallbackVel := none
                          lateTimeout := false, rm := none, forceTarget := none }
  else n

end Sys2Proof.Machine
end

