-- ==== Sys2Proof/Machine/Evaluator.lean ====
section
/-! DEFINITION. The evaluator's record and trackers (Chapter 9): the stages of a pair operation, the
closing and the completion of the record, and the RESULT parts. Pairing is in Pairing.lean. -/
namespace Sys2Proof.Machine

/-! ### Modulus fit (R160, R161) -/

/-- A pair is accumulated (R160). -/
def Fit.add (f : Fit) (p : Pair) : Fit :=
  { f with n := f.n + 1, sE := f.sE + p.strain, sS := f.sS + p.stress,
           sEE := f.sEE + p.strain * p.strain, sES := f.sES + p.strain * p.stress }

/-- The denominator D (R161). -/
def Fit.den (f : Fit) : Int := f.n * f.sEE - f.sE * f.sE

/-- The numerator of the slope (R161). -/
def Fit.num (f : Fit) : Int := f.n * f.sES - f.sE * f.sS

/-- E = round(s × 10,000,000) (R161). -/
def Fit.modulus (f : Fit) : Int := roundDiv (f.num * 10000000) f.den

/-- ε_int = round(Σε/n − (Σσ/n)/s), over one denominator (R161). -/
def Fit.intercept (f : Fit) : Int := roundDiv (f.sE * f.num - f.sS * f.den) (f.n * f.num)

/-- A validity cause is set (R172). -/
def Evl.cause (e : Evl) (f : Causes → Causes) : Evl :=
  { e with record := { e.record with causes := f e.record.causes } }

def Evl.setValues (e : Evl) (f : ResultValues → ResultValues) : Evl :=
  { e with record := { e.record with values := f e.record.values } }

def Evl.fitState (e : Evl) (s : FitState) : Evl := { e with fit := { e.fit with st := s } }

/-- The close of the fit (R161). -/
def Evl.closeFit (e : Evl) (p : EvalParams) : Evl :=
  if e.fit.n < 16 ∨ e.fit.den = 0 then (e.fitState .noFit).cause fun c => { c with noFit := true }
  else if p.eMin ≤ e.fit.modulus ∧ e.fit.modulus ≤ p.eMax then
    (e.fitState .accepted).setValues fun v =>
      { v with e := some e.fit.modulus, epsInt := some e.fit.intercept }
  else
    ((e.fitState .rejected).setValues fun v => { v with e := some e.fit.modulus }).cause
      fun c => { c with fitRejected := true }

/-- A fit ACCEPTED at a closing pair starts the proof search (R162). -/
def Evl.startSearch (e : Evl) : Evl :=
  if e.fit.st = .accepted then { e with proof := { st := .searching, prev := none } } else e

/-- The fit stage of a pair (R160). -/
def Evl.fitStage (e : Evl) (p : EvalParams) (x : Pair) : Evl :=
  if e.fit.st = .fitOpen then
    if p.sigmaHi < x.stress then (e.closeFit p).startSearch
    else if p.sigmaLo ≤ x.stress then { e with fit := e.fit.add x }
    else e
  else e

/-! ### Proof strength (R162) -/

/-- The offset line at a strain (R162). -/
def offsetLine (modulus epsInt offset strain : Int) : Int :=
  roundDiv (modulus * (strain - epsInt - offset)) 10000000

/-- The crossing between two judged pairs: a + f × (b − a) with f = d_prev / (d_prev − d), rounded (R162). -/
def crossing (dPrev d a b : Int) : Int := roundDiv (a * (dPrev - d) + dPrev * (b - a)) (dPrev - d)

/-- A pair judged while SEARCHING, at distance `d` (R162). -/
def Evl.judgeProof (e : Evl) (offset d : Int) (x : Pair) : Evl :=
  match e.proof.prev with
  | some (dp, sp, ep) =>
    if d ≤ 0 ∧ 0 < dp then
      { (e.setValues fun v =>
          { v with ps := some (crossing dp d sp x.stress, crossing dp d ep x.strain, offset) }) with
        proof := { e.proof with st := .found } }
    else { e with proof := { e.proof with prev := some (d, x.stress, x.strain) } }
  | none => { e with proof := { e.proof with prev := some (d, x.stress, x.strain) } }

/-- The proof stage of a pair (R162). -/
def Evl.proofStage (e : Evl) (p : EvalParams) (x : Pair) : Evl :=
  if e.proof.st = .searching then
    let line := offsetLine (e.record.values.e.getD 0) (e.record.values.epsInt.getD 0) p.offset x.strain
    e.judgeProof p.offset (x.stress - line) x
  else e

/-! ### Yield point and plateau (R163, R164) -/

/-- The yield stage in SEEKING (R163). -/
def Evl.seekYield (e : Evl) (p : EvalParams) (x : Pair) : Evl :=
  match e.yield.peak with
  | none => { e with yield := { e.yield with peak := some (x.stress, x.strain) } }
  | some (peak, at_) =>
    if peak < x.stress then { e with yield := { e.yield with peak := some (x.stress, x.strain) } }
    else if x.stress ≤ peak - p.yieldDrop then
      { (e.setValues fun v => { v with uys := some (peak, at_) }) with
        yield := { e.yield with st := .plateau } }
    else e

/-- The lower yield strength takes a candidate (R164). -/
def lowerOf (lys : Option Int) (x : Int) : Option Int :=
  match lys with
  | none => some x
  | some l => some (min l x)

/-- The yield stage in PLATEAU (R164). -/
def Evl.plateau (e : Evl) (p : EvalParams) (x : Pair) : Evl :=
  match e.record.values.uys with
  | none => e
  | some (uys, at_) =>
    if uys < x.stress then
      { (e.setValues fun v => { v with ype := some (x.strain - at_) }) with
        yield := { e.yield with st := .closed } }
    else if at_ + p.transientSpan < x.strain then
      e.setValues fun v => { v with lys := lowerOf v.lys x.stress }
    else e

/-- The yield stage of a pair (R163, R164). -/
def Evl.yieldStage (e : Evl) (p : EvalParams) (x : Pair) : Evl :=
  match e.yield.st with
  | .seeking => e.seekYield p x
  | .plateau => e.plateau p x
  | .closed => e

/-! ### Maximum and break-scan (R166, R167) -/

/-- The maximum stage of a pair (R166). -/
def Evl.maxStage (e : Evl) (x : Pair) : Evl :=
  match e.record.values.ts with
  | some (ts, _, _) =>
    if ts < x.stress then e.setValues fun v => { v with ts := some (x.stress, x.force, x.strain) } else e
  | none => e.setValues fun v => { v with ts := some (x.stress, x.force, x.strain) }

/-- The break-scan stage of a pair: the queue keeps the 16 most recent pairs (R167). -/
def Evl.scanStage (e : Evl) (x : Pair) : Evl :=
  { e with scan := pushBounded 16 e.scan ⟨x.stress, x.strain, x.derived⟩ }

/-! ### The pair operation (R159) -/

/-- A pair is formed from a load entry and a strain answer (R159). -/
def pairOf (area : Int) (l : LoadEntry) (a : Answer) : Pair where
  time := l.time
  force := l.force
  stress := roundDiv (l.force * 10000) area
  strain := a.value
  degraded := l.flags.degraded || a.flags.degraded
  held := a.held
  derived := a.flags.derived
  unplanned := a.flags.unplanned

/-- The marks stage of a pair, its causes, and its place in the pair count (R156, R157, R159). -/
def Evl.markStage (e : Evl) (x : Pair) : Evl :=
  let e := { e with record := { e.record with pairCount := e.record.pairCount + 1 } }
  e.cause fun c => { c with degraded := c.degraded || x.degraded, heldPairing := c.heldPairing || x.held }

/-- Stages 1 to 3 of a pair operation: marks, maximum, yield (R159). -/
def Evl.earlyStages (e : Evl) (p : EvalParams) (x : Pair) : Evl := ((e.markStage x).maxStage x).yieldStage p x

/-- Stages 4 and 5 of a pair operation: fit, proof (R159). -/
def Evl.lineStages (e : Evl) (p : EvalParams) (x : Pair) : Evl := (e.fitStage p x).proofStage p x

/-- Yield has been found by either tracker (R165). -/
def Evl.yieldFound (e : Evl) : Bool := e.record.values.uys.isSome || e.record.values.ps.isSome

/-! ### Start of a record (R154) -/

/-- The parameters copied from the order (R154). -/
def evalParams (o : Order) : Option EvalParams :=
  match o.part1, o.part2 with
  | some a, some b =>
    some { area := a.area, sigmaLo := b.sigmaLo, sigmaHi := b.sigmaHi, eMin := b.eMin, eMax := b.eMax,
           offset := b.proofOffset, yieldDrop := b.yieldDrop, transientSpan := b.transientSpan }
  | _, _ => none

/-- A new record at START (R154). -/
def newEvl (o : Order) : Evl :=
  { record := { st := .collecting, testId := o.testId }, params := evalParams o }

def Node.evalStart (n : Node) : Node :=
  if n.evalLive then
    match n.seq.order with
    | some o => n.setEvl (newEvl o)
    | none => n
  else n

/-- The evaluator's part of FRAME-RESET (R175). -/
def Node.evalFrameReset (n : Node) : Node := if n.evalLive then n.setEvl {} else n

/-! ### Completion (R166, R168, R171, R172) -/

/-- The strain less its elastic part (R166, R168). -/
def plasticStrain (strain stress modulus : Int) : Int :=
  strain - roundDiv (stress * 10000000) modulus

/-- The fit is ACCEPTED: its modulus (R161). -/
def Evl.acceptedModulus (e : Evl) : Option Int :=
  if e.fit.st = .accepted then e.record.values.e else none

/-- Uniform elongation (R166). -/
def Evl.uniform (e : Evl) : Option Int :=
  match e.acceptedModulus, e.record.values.ts with
  | some m, some (ts, _, at_) => some (plasticStrain at_ ts m)
  | _, _ => none

/-- The larger drop of two, the earlier one where they are equal (R168). -/
def betterDrop (best : Option (ScanPoint × Int)) (p : ScanPoint) (drop : Int) :
    Option (ScanPoint × Int) :=
  match best with
  | some (b, d) => if d < drop then some (p, drop) else some (b, d)
  | none => if 0 < drop then some (p, drop) else none

/-- The fracture scan from a pair on, with the best drop so far (R168). -/
def scanFrom (best : Option (ScanPoint × Int)) (p : ScanPoint) :
    List ScanPoint → Option (ScanPoint × Int)
  | [] => best
  | q :: rest => scanFrom (betterDrop best p (p.stress - q.stress)) q rest

/-- The fracture pair (R168). -/
def fracturePair : List ScanPoint → Option ScanPoint
  | [] => none
  | p :: rest => (scanFrom none p rest).map (·.1)

/-- Elongation at fracture, with whether its source is DERIVED (R168). -/
def Evl.fracture (e : Evl) : Option (Int × Bool) :=
  if e.record.endCause = some .byBreak then
    match e.acceptedModulus, fracturePair e.scan with
    | some m, some p => some (plasticStrain p.strain p.stress m, p.derived)
    | _, _ => none
  else none

/-- A fit still OPEN is closed, without a closing pair (R161, R171). -/
def Evl.closeOpenFit (e : Evl) : Evl :=
  match e.params with
  | some p => if e.fit.st = .fitOpen then e.closeFit p else e
  | none => e

/-- The record after its completion, RESULT apart (R171). -/
def Evl.completed (e : Evl) : Evl :=
  let e := e.closeOpenFit
  let e := e.setValues fun v => { v with ue := e.uniform, fe := e.fracture }
  { e with
    record := { e.record with
      st := .final
      validity := some (if e.record.causes.isEmpty then .valid else .suspect) }
    closing := none, drainAt := none }

/-! ### The RESULT parts (R173, 12.3) -/

def FitState.code : FitState → Byte
  | .fitOpen => 0 | .accepted => 1 | .rejected => 2 | .noFit => 3

def validityCode : Option Validity → Byte
  | none => 0 | some .valid => 1 | some .suspect => 2

/-- The presence byte of a part (12.3). -/
def ResultValues.presence (v : ResultValues) : Nat → Byte
  | 1 => bitsByte [v.e.isSome, v.epsInt.isSome]
  | 2 => bitsByte [v.uys.isSome, v.lys.isSome, v.ype.isSome, v.ps.isSome]
  | _ => bitsByte [v.ts.isSome, v.ue.isSome, v.fe.isSome]

/-- The fields of part 1 from byte 4 (12.3); the layouts have no field for the fit's count n (log 38). -/
def Evl.part1 (e : Evl) : List Byte :=
  [endCauseCode e.record.endCause, validityCode e.record.validity, e.record.causes.byte] ++
    u32 e.record.pairCount ++ [e.fit.st.code] ++ optI32 e.record.values.e ++
    optI32 e.record.values.epsInt

/-- UYS, ε_UYS, LYS and YPE (12.3). -/
def ResultValues.yieldFields (v : ResultValues) : List Byte :=
  optI32 (v.uys.map (·.1)) ++ optI32 (v.uys.map (·.2)) ++ optI32 v.lys ++ optI32 v.ype

/-- PS, ε_PS and the offset used (12.3). -/
def ResultValues.proofFields (v : ResultValues) : List Byte :=
  optI32 (v.ps.map (·.1)) ++ optI32 (v.ps.map (·.2.1)) ++ optI32 (v.ps.map (·.2.2))

def feSource : Option (Int × Bool) → Byte
  | none => 0 | some (_, false) => 1 | some (_, true) => 2

/-- The fields of part 3 from byte 4 (12.3). -/
def ResultValues.maxFields (v : ResultValues) : List Byte :=
  optI32 (v.ts.map (·.1)) ++ optI32 (v.ts.map (·.2.1)) ++ optI32 (v.ts.map (·.2.2)) ++
    optI32 v.ue ++ optI32 (v.fe.map (·.1)) ++ [feSource v.fe]

/-- The head of a RESULT part (12.3). -/
def Evl.partHead (e : Evl) (part : Nat) : List Byte :=
  byteOf part :: be16 e.record.testId ++ [e.record.values.presence part]

/-- The three RESULT parts (R173, 12.3). -/
def Evl.resultParts (e : Evl) : List (List Byte) :=
  [e.partHead 1 ++ e.part1,
   e.partHead 2 ++ e.record.values.yieldFields ++ e.record.values.proofFields,
   e.partHead 3 ++ e.record.values.maxFields]

/-! ### Closing (R169, R170) -/

/-- The record is completed and its RESULT submitted (R171, R173). -/
def Node.completeRecord (n : Node) : Node :=
  (n.setEvl n.evl.completed).sendResult n.evl.completed.resultParts

/-- The drain ends where the queue is empty while the closing mark is set (R170). -/
def Node.endDrain (n : Node) : Node :=
  if n.evl.closing.isSome && n.evl.queue.isEmpty then n.completeRecord else n

/-- The record is COLLECTING (R154). -/
def Node.collecting (n : Node) : Bool := n.evalLive && n.evl.record.st == .collecting

/-- An ending event reaches the evaluator (R169). -/
def Node.evalEnding (n : Node) (cause : EndCause) : Node :=
  if n.collecting && n.evl.closing.isNone then
    (n.setEvl { n.evl with
      record := { n.evl.record with endCause := some cause }
      closing := some n.now
      drainAt := some (after n.now n.staleUs) }).endDrain
  else n

/-- The drain limit expires: the entries still queued are removed without a pair (R170). -/
def Node.drainLimit (n : Node) : Node := (n.setEvl { n.evl with queue := [] }).completeRecord

end Sys2Proof.Machine
end

