-- ==== Sys2Proof/Machine/Extensometer.lean ====
section
/-! DEFINITION. The extensometer handler's shared operations (Chapter 3): elongation and strain, the
states, slip, the handover ratio, release, derived strain, and the STRAIN sample. -/
namespace Sys2Proof.Machine

/-! ### State changes -/

/-- A change of the extensometer state is handed to the sequencer, which sends a STATE notice (3.3). -/
def Node.putExh (n : Node) (x : Exh) : Node :=
  let n' := n.setExh x
  if n.exh.st = x.st then n' else n'.notice

/-- The arm-closed pair is closed: both true (3.3). -/
def Node.pairClosed (n : Node) : Bool := n.pins.arm1Closed && n.pins.arm2Closed

/-- The arm-closed pair is open: both false (3.3). -/
def Node.pairOpen (n : Node) : Bool := !n.pins.arm1Closed && !n.pins.arm2Closed

/-! ### Elongation and strain (R44, R45) -/

/-- The reference is set to the arm's count and its fault flag cleared (R47). -/
def ArmState.zeroed (a : ArmState) : ArmState := { a with ref := a.count, fault := false }

/-- An arm's elongation (R44). -/
def ArmState.elongation (a : ArmState) (scale : Int) : Int := clampLength ((a.count - a.ref) * scale)

/-- A reading of the two arms as they stand (R43). -/
def Exh.reading (x : Exh) (scale : Int) : Reading :=
  ⟨x.arm1.elongation scale, x.arm2.elongation scale, !x.arm1.fault, !x.arm2.fault⟩

/-- The measured elongation of a reading (R44). -/
def Reading.measured (r : Reading) : Option Int :=
  match r.good1, r.good2 with
  | true, true => some (roundDiv (r.elA + r.elB) 2)
  | true, false => some r.elA
  | false, true => some r.elB
  | false, false => none

/-- SINGLE-ARM: one arm is good and one faulted (R44). -/
def Reading.singleArm (r : Reading) : Bool := r.good1 != r.good2

/-- Strain of an elongation (R45). -/
def strainOf (elong gauge : Int) : Int := clampLength (roundDiv (elong * 1000000000) gauge)

/-! ### The order's part 3 -/

def Node.part3 (n : Node) : Option OrderPart3 := n.seq.order.bind (·.part3)

/-- The compliance C of the order held, 0 where it has no part 3: a derived strain after CLEAR has dropped the
order uses it so too (R53, R59, log 36). -/
def Node.compliance (n : Node) : Int :=
  match n.part3 with
  | some p => p.compliance
  | none => 0

/-! ### Slip (R51) -/

/-- Arm `s` has slipped against arm `o`: its reference is set so that its elongation equals the other's. -/
def ArmState.slippedTo (s o : ArmState) : ArmState := { s with ref := s.count - (o.count - o.ref) }

/-- A slip between two readings, both with both arms good (R51): true tells that arm 1 slipped. -/
def slipOf (prev now : Reading) (threshold : Int) : Option Bool :=
  let dA := now.elA - prev.elA
  let dB := now.elB - prev.elB
  if prev.good1 && prev.good2 && now.good1 && now.good2 && decide (threshold < (dA - dB).natAbs) then
    some (decide (dB.natAbs < dA.natAbs))
  else none

/-- The slipped arm is re-referenced and the pending SLIP mark set (R51). -/
def Exh.corrected (x : Exh) (arm1 : Bool) : Exh :=
  if arm1 then { x with arm1 := x.arm1.slippedTo x.arm2, slip := true }
  else { x with arm2 := x.arm2.slippedTo x.arm1, slip := true }

/-- The slip found at this reading in ATTACHED, if any (R51). -/
def Node.slipNow (n : Node) : Option Bool :=
  match n.exh.st, n.exh.prev with
  | .attached, some prev => slipOf prev (n.exh.reading n.img.drive.armScale) n.img.control.slipThreshold
  | _, _ => none

/-- The reading as it now stands is kept as the newest one. -/
def Node.keepReading (n : Node) : Node :=
  n.setExh { n.exh with prev := some (n.exh.reading n.img.drive.armScale) }

/-- The slip stage of a reading (R43, R51); the reading after it, corrected, is kept. -/
def Node.slipStage (n : Node) : Node :=
  match n.slipNow with
  | some arm1 => ((n.setExh (n.exh.corrected arm1)).health .slip 1).keepReading
  | none => n.keepReading

/-! ### Derived strain (R59) -/

/-- The derived elongation; none where a part is absent (R59). -/
def Node.derivedElong (n : Node) : Option Int :=
  match n.exh.snap.elong, n.exh.snap.travel, n.exh.snap.force, n.exh.k, n.travelNow, n.latestForce with
  | some e, some t, some f, some k, some t', some f' =>
    some (clampLength
      (e + roundDiv (k * ((t' - t) - roundDiv (n.compliance * (f' - f)) 1024)) 65536))
  | _, _, _, _, _, _ => none

/-! ### The sample (R46) -/

/-- The elongation a sample formed now would carry; none where no value can be formed (R46). -/
def Node.sampleElong (n : Node) (r : Reading) : Option Int :=
  match n.exh.st with
  | .released => n.derivedElong
  | _ => r.measured

/-- The flags of a STRAIN sample (R46). -/
def Node.strainFlags (n : Node) (r : Reading) : SampleFlags where
  detached := n.exh.st == .detached
  releasing := n.exh.st == .releasing
  derived := n.exh.st == .released
  unplanned := n.exh.st == .released && n.exh.unplanned
  singleArm := n.exh.st != .released && r.singleArm
  fault := (n.sampleElong r).isNone
  slip := n.exh.slip
  degraded := n.hlm.degraded .strain

/-- The STRAIN sample of a reading, with the elongation behind its value (R46). -/
def Node.strainSample (n : Node) (r : Reading) : StrainEntry :=
  let elong := (n.sampleElong r).getD n.exh.lastElong
  let value := match n.sampleElong r with
    | some e => strainOf e n.exh.gauge
    | none => n.exh.lastValue
  ⟨⟨n.exh.prod, n.now, value, n.strainFlags r⟩, elong⟩

/-- The sample joins the own history; the pending SLIP mark is cleared at it (R46, R51). -/
def Exh.published (x : Exh) (e : StrainEntry) : Exh :=
  { x with hist := pushBounded 8 x.hist e, prod := x.prod + 1, slip := false,
           lastValue := e.entry.value, lastElong := e.elong }

/-- The disagreement bound (R46, log 23). -/
def Node.disagreeBound (n : Node) : Int :=
  match n.part3 with
  | some p => if p.releaseStrain = 0 then 5000000 else p.releaseStrain
  | none => 5000000

/-- |A − B| is handed to the health monitor in ATTACHED below the bound (R46). -/
def Node.handDisagree (n : Node) (r : Reading) (e : StrainEntry) : Node :=
  if n.exh.st == .attached && r.good1 && r.good2 && decide (e.entry.value < n.disagreeBound) then
    n.health .armDisagree (r.elA - r.elB).natAbs
  else n

/-! ### Learning (R53) -/

/-- An entry that learning does not use (R53). -/
def SampleFlags.notLearned (f : SampleFlags) : Bool := f.fault || f.detached || f.releasing || f.derived

/-- The handover ratio from the three differences, where it lies in its range (R53). -/
def learnedRatio (dElong dTravel dForce compliance : Int) : Option Int :=
  let den := dTravel - roundDiv (compliance * dForce) 1024
  if 0 < den then
    let k := roundDiv (65536 * dElong) den
    if 4096 ≤ k ∧ k ≤ 65536 then some k else none
  else none

/-- The ratio learned between two entries, where travel and force bracket both times (R53). -/
def Node.learnBetween (n : Node) (a b : StrainEntry) : Option Int :=
  match n.travelBracketed a.entry.time, n.travelBracketed b.entry.time,
      answerBracketed n.loadHist a.entry.time, answerBracketed n.loadHist b.entry.time with
  | some ta, some tb, some fa, some fb =>
    learnedRatio (b.elong - a.elong) (tb - ta) (fb - fa) n.compliance
  | _, _, _, _ => none

/-- The learning stage (R53). -/
def Node.learnStage (n : Node) : Node :=
  if n.exh.st == .attached && n.seq.test == some .running && n.exh.hist.length == 8 then
    match n.exh.hist.head?, n.exh.hist.getLast? with
    | some a, some b =>
      if a.entry.flags.notLearned || b.entry.flags.notLearned then n
      else match n.learnBetween a b with
        | some k => n.setExh { n.exh with k := some k }
        | none => n
    | _, _ => n
  else n

/-! ### Release (R54 to R58) -/

/-- The elongation of a release snapshot: with both arms faulted at the command the one kept with the newest
history entry, and otherwise the measured one of the newest reading (R56). -/
def Exh.releaseElong (x : Exh) : Option Int :=
  if x.arm1.fault && x.arm2.fault then x.hist.getLast?.map (·.elong) else x.prev.bind Reading.measured

/-- A release command (R56). -/
def Node.release (n : Node) : Node :=
  n.putExh { n.exh with
    snap := { elong := n.exh.releaseElong, travel := n.travelNow, force := n.latestForce }
    st := .releasing, releaseOut := true
    releaseAt := some (after n.now (n.img.control.releaseTimeoutMs * 1000)) }

/-- The force criterion of a planned release (R54). -/
def Node.forceCriterion (n : Node) (p : OrderPart3) : Bool :=
  p.releaseDrop != 0 && decide (p.breakMinimum ≤ n.exh.forceMax) &&
    match n.latestForce with
    | some f => decide (f ≤ roundDiv (n.exh.forceMax * (1000 - p.releaseDrop)) 1000)
    | none => false

/-- The strain criterion of a planned release (R54). -/
def strainCriterion (p : OrderPart3) (e : HistEntry) : Bool :=
  p.releaseStrain != 0 && !e.flags.fault && decide (p.releaseStrain ≤ e.value)

/-- The open segment carries RELEASE-ALLOWED (R54). -/
def Node.releaseAllowed (n : Node) : Bool :=
  match n.seq.openEntry with
  | some e => e.fields.releaseAllowed
  | none => false

/-- The release stage, with the sample just formed (R54). -/
def Node.releaseStage (n : Node) (e : HistEntry) : Node :=
  match n.part3 with
  | some p =>
    if n.exh.st == .attached && n.testInProgress && n.releaseAllowed &&
        (strainCriterion p e || n.forceCriterion p) then n.release
    else n
  | none => n

/-- A BREAK delivered: the protective release in ATTACHED (R55). -/
def Node.exhBreak (n : Node) : Node :=
  if n.extLive && n.exh.st == .attached then n.release else n

/-- The pair is judged at an input event or a reading: where it is open, ARM-RELEASE falls and RELEASING
becomes RELEASED (R57, R58). -/
def Node.judgeOpen (n : Node) : Node :=
  if n.pairOpen then
    if n.exh.st = .releasing then
      n.putExh { n.exh with st := .released, releaseAt := none, releaseOut := false }
    else n.setExh { n.exh with releaseOut := false }
  else n

/-! ### The state and the inputs (R48, R49, R60) -/

/-- The entry an unplanned opening takes its snapshot from: the newest with neither FAULT nor DERIVED (R49). -/
def Exh.lastMeasured (x : Exh) : Option StrainEntry :=
  x.hist.reverse.find? fun e => !e.entry.flags.fault && !e.entry.flags.derived

/-- The snapshot of an unplanned opening (R49). -/
def Node.openingSnapshot (n : Node) : Snapshot :=
  match n.exh.lastMeasured with
  | some e =>
    { elong := some e.elong, travel := n.travelAt e.entry.time,
      force := (answerNewest n.loadHist e.entry.time).map (·.value) }
  | none => {}

/-- An unplanned opening (R49). -/
def Node.unplannedOpening (n : Node) : Node :=
  n.putExh { n.exh with st := .released, snap := n.openingSnapshot, unplanned := true }

/-- The state follows the inputs at a change of them (R48, R49); RELEASING is judged by `judgeOpen`. -/
def Node.followInputs (n : Node) : Node :=
  if n.testInProgress then
    if n.exh.st == .attached && n.pairOpen then n.unplannedOpening else n
  else if n.exh.st == .detached && n.pairClosed then n.putExh { n.exh with st := .attached }
  else if n.exh.st == .attached && !n.pairClosed then n.putExh { n.exh with st := .detached }
  else n

/-- At a change of the test state to one that is not RUNNING or PAUSED: ATTACHED with a pair that is
not closed becomes DETACHED (R48). -/
def Node.exhRejudge (n : Node) : Node :=
  if n.extLive && !n.testInProgress && n.exh.st == .attached && !n.pairClosed then
    n.putExh { n.exh with st := .detached }
  else n

/-- The state taken from the inputs (R48, R50, R60). -/
def Node.stateOfInputs (n : Node) : ExtState := if n.pairClosed then .attached else .detached

/-! ### START, ZERO, FRAME-RESET (R47, R50, R60) -/

/-- The extensometer's check at START (R50). -/
def Node.exhReady (n : Node) : Bool := n.pairClosed && !n.exh.releaseOut

/-- The references are set and the fault flags cleared (R47). -/
def Node.zeroArms (n : Node) : Node :=
  if n.extLive then n.setExh { n.exh with arm1 := n.exh.arm1.zeroed, arm2 := n.exh.arm2.zeroed } else n

/-- The effects of a START whose check passes (R50). -/
def Node.exhStart (n : Node) : Node :=
  if n.extLive then
    n.putExh { n.exh with
      st := .attached, arm1 := n.exh.arm1.zeroed, arm2 := n.exh.arm2.zeroed
      k := n.part3.map (·.initialK), snap := {}, unplanned := false, releaseAt := none, forceMax := 0 }
  else n

/-- A START whose check fails: in RELEASING nothing, else the state is set from the inputs (R50). -/
def Node.exhStartFails (n : Node) : Node :=
  if n.exh.st = .releasing then n else n.putExh { n.exh with st := n.stateOfInputs }

/-- The extensometer's part of FRAME-RESET (R60, R61). -/
def Node.exhFrameReset (n : Node) : Node :=
  if n.extLive then
    n.putExh { n.exh with
      st := n.stateOfInputs, arm1 := { n.exh.arm1 with fault := false }
      arm2 := { n.exh.arm2 with fault := false }, releaseAt := none, k := none, snap := {}
      unplanned := false, slip := false, forceMax := 0, hist := [] }
  else n

/-- A sample of the load source arrives at the extensometer handler (R52). -/
def Node.exhForce (n : Node) (e : HistEntry) : Node :=
  if n.extLive && n.testInProgress && !e.flags.held then
    n.setExh { n.exh with forceMax := max n.exh.forceMax e.value }
  else n

end Sys2Proof.Machine
end

