-- ==== Sys2Proof/Machine/Sequencer.lean ====
section
/-! DEFINITION. The sequencer's shared operations (Chapter 7): changes of the test state, opening, closing
and advancing segments, end conditions, marks, and entry to ENDED and HALTED. -/
namespace Sys2Proof.Machine

/-! ### Test state (R116) -/

/-- The test state is left for one that requests HOLD of the control mode unit (R99). -/
def TestState.holds : TestState → Bool
  | .halted => true
  | .ended => true
  | .ready => true
  | _ => false

/-- A change of the test state: STATE notice, delivery to the CMU and to the EXH (R116). -/
def Node.setTest (n : Node) (t : TestState) : Node :=
  let n := (n.setSeq { n.seq with test := some t }).notice
  let n := if t.holds then n.cmuHold else n
  n.exhRejudge

/-- STARVED: the test is in progress and the cursor entry is CLOSED (R132). -/
def Node.starved (n : Node) : Bool := n.testInProgress && n.seq.cursorEntry.status == .closed

/-- A refusal of a command, an ORDER part or a SEGMENT (R139). -/
def Node.refuse (n : Node) (c : RefusalCode) : Node := n.setSeq { n.seq with refusal := some c }

/-! ### Closing (R130) -/

/-- The outcome of an entry that closes at a time (R130). -/
def Node.outcomeAt (n : Node) (e : Segment) (cause : CloseCause) (t : Time) : Outcome where
  cause := cause
  openTime := e.openTime
  closeTime := t
  elapsed := e.elapsed
  strain := (answerNewest n.strainHist t).map (·.value)
  force := (answerNewest n.loadHist t).map (·.value)
  travel := n.travelAt t

/-- The OPEN entry closes; without one nothing closes (R130). -/
def Node.closeOpen (n : Node) (cause : CloseCause) (t : Time) : Node :=
  match n.seq.openEntry with
  | some e =>
    n.setSeq (n.seq.setEntry n.seq.cursor
      { e with status := .closed, outcome := some (n.outcomeAt e cause t) })
  | none => n

/-- The outcome of a SKIPPED entry (R130). -/
def skippedOutcome (t : Time) : Outcome := ⟨.skipped, t, t, 0, none, none, none⟩

/-- An entry is closed with SKIPPED, and the cursor moves onto it (R134). -/
def Node.skipTo (n : Node) (i : Fin 32) : Node :=
  let e : Segment := { n.seq.segs[i] with
    status := .closed, openTime := n.now, elapsed := 0, firstLock := none, summary := {}
    outcome := some (skippedOutcome n.now) }
  (n.setSeq { n.seq.setEntry i e with cursor := i }).notice

/-! ### Entry to ENDED and to HALTED (R136 to R138) -/

/-- Entry to ENDED: the OPEN entry closes with a cause, the drive stops directly, the evaluator
finalises (R138). -/
def Node.enterEnded (n : Node) (cause : EndCause) (close : CloseCause) : Node :=
  let n := n.closeOpen close n.now
  let n := n.setSeq { n.seq with endCause := some cause }
  ((n.setTest .ended).directStop).evalEnding cause

/-- The test end cause at an entry to HALTED: HALT where the test has none yet (R136, log 17). -/
def Node.haltEndCause (n : Node) : Option EndCause :=
  if n.testInProgress then n.seq.endCause.or (some .byHalt) else n.seq.endCause

/-- The sequencer's part of an entry to HALTED (R137). -/
def Node.enterHalted (n : Node) : Node :=
  let cause := n.haltEndCause
  let n := n.closeOpen .byHalt n.now
  let n := n.setSeq { n.seq with endCause := cause }
  ((n.setTest .halted).directStop).evalEnding .byHalt

/-! ### Opening and advancing (R127, R131) -/

/-- A segment is opened (R127): `starved` tells that the opening ends a starvation, `advance` that it
comes on advance from a previous segment (R99, R102). -/
def Node.openAt (n : Node) (i : Fin 32) (starved advance : Bool) : Node :=
  let e : Segment := { n.seq.segs[i] with
    status := .opened, openTime := n.now, elapsed := 0, firstLock := none
    summary := { starvedBefore := starved }, outcome := none }
  let n := n.setSeq { n.seq.setEntry i e with cursor := i }
  (n.cmuOpen e.fields advance (n.seq.test == some .paused)).notice

/-- The end condition of the OPEN entry is judged in RUNNING (R128). -/
def Node.meets (n : Node) (met : SegFields → Bool) : Bool :=
  n.seq.test == some .running &&
    match n.seq.openEntry with
    | some e => met e.fields
    | none => false

/-- A YIELD-SEEN entry is met (R128). -/
def Node.yieldMet (n : Node) : Bool :=
  n.meets fun f => f.endKind == .yieldSeen && n.seq.yieldSeen && n.roles.eval

/-- A close with cause CONDITION, with its MARK (R130, R133). -/
def Node.closeByCondition (n : Node) : Node :=
  (n.closeOpen .condition n.now).sendMark n.seq.cursor n.testId n.now

/-- The entry after the cursor, where it is LOADED (R131). -/
def Node.nextLoaded (n : Node) : Option (Fin 32) :=
  match nextIndex n.seq.cursor with
  | some i => if n.seq.segs[i].status == .loaded then some i else none
  | none => none

/-- After a close with CONDITION or PEER-MARK: ENDED at LAST, an advance, or STARVED (R131).
A YIELD-SEEN entry that is already met closes at its opening (R128) and the sequencer goes on from it;
each opening moves the cursor up, so 32 rounds are enough. -/
def Node.goOn : Nat → Bool → Node → Node
  | 0, _, n => n
  | fuel + 1, starved, n =>
    if n.seq.cursorEntry.fields.last then n.enterEnded .lastSegment .condition
    else match n.nextLoaded with
      | some i =>
        let n := n.openAt i starved (!starved)
        if n.yieldMet then Node.goOn fuel false n.closeByCondition else n
      | none => n.cmuHold

/-- The rounds of `goOn`. -/
def goOnRounds : Nat := 32

/-- The open segment closes with CONDITION, and the sequencer goes on (R130, R131). -/
def Node.closeAndGoOn (n : Node) : Node := n.closeByCondition.goOn goOnRounds false

/-- An entry is opened, and a YIELD-SEEN condition is judged at its opening (R127, R128). -/
def Node.openAndJudge (n : Node) (i : Fin 32) (starved : Bool) : Node :=
  let n := n.openAt i starved false
  if n.yieldMet then n.closeAndGoOn else n

/-! ### End conditions (R128) -/

def Node.judgeEnd (n : Node) (met : SegFields → Bool) : Node :=
  if n.meets met then n.closeAndGoOn else n

/-- A strain sample is judged (R128). -/
def Node.watchStrain (n : Node) (e : HistEntry) : Node :=
  n.judgeEnd fun f => f.endKind == .strainAtLeast && !e.flags.fault && decide (f.endValue ≤ e.value)

/-- The force maximum for FORCE-DROP (R128). -/
def Node.dropMaximum (n : Node) : Int := if n.roles.load then n.lc.fmax else n.seq.forceMax

/-- FORCE-DROP is met by a force (7.5). -/
def Node.dropMet (n : Node) (perMille force : Int) : Bool :=
  match n.part3 with
  | some p =>
    decide (p.breakMinimum ≤ n.dropMaximum) &&
      decide (force ≤ roundDiv (n.dropMaximum * (1000 - perMille)) 1000)
  | none => false

/-- A force sample is judged (R128). -/
def Node.watchForce (n : Node) (e : HistEntry) : Node :=
  n.judgeEnd fun f => !e.flags.held &&
    match f.endKind with
    | .forceAtLeast => decide (f.endValue ≤ e.value)
    | .forceDrop => n.dropMet f.endValue e.value
    | _ => false

/-- The crosshead test travel is judged by newest values (R128). -/
def Node.watchTravel (n : Node) : Node :=
  n.judgeEnd fun f => f.endKind == .travelAtLeast &&
    match n.travelNow with
    | some t => decide (f.endValue ≤ t)
    | none => false

/-- TIME-AT-LEAST is judged at a segment clock expiry (R128). -/
def Node.watchTime (n : Node) : Node :=
  n.judgeEnd fun f => f.endKind == .timeAtLeast &&
    match n.seq.openEntry with
    | some e => decide (f.endValue ≤ e.elapsed)
    | none => false

/-- The evaluator's report of yield seen (R128, R165). -/
def Node.yieldReport (n : Node) : Node :=
  let n := n.setSeq { n.seq with yieldSeen := true }
  if n.yieldMet then n.closeAndGoOn else n

/-- The sequencer's own force maximum, in a node without LOAD (R128). -/
def Node.seqForce (n : Node) (e : HistEntry) : Node :=
  if !n.roles.load && n.testInProgress && !e.flags.held then
    n.setSeq { n.seq with forceMax := max n.seq.forceMax e.value }
  else n

/-! ### Marks (R134, R135) -/

/-- The close time of a MARK in local time (R135). -/
def Node.markTime (n : Node) (sender : Fin 16) (t : Time) : Time :=
  match (n.peer sender).offsetValid, (n.peer sender).offset with
  | true, some o => t + o
  | _, _ => n.now

/-- The walk over the entries a MARK ahead skips: true tells that it stopped at a LAST entry (R134). -/
def Node.walk : Nat → Node → Node × Bool
  | 0, n => (n, false)
  | k + 1, n =>
    match nextIndex n.seq.cursor with
    | none => (n, false)
    | some i =>
      let n := n.skipTo i
      if n.seq.cursorEntry.fields.last then (n, true) else n.walk k

/-- The walk, and what follows it (R134). -/
def Node.walkAndGoOn (n : Node) (k : Nat) (starved : Bool) : Node :=
  match n.walk k with
  | (n, true) => n.enterEnded .lastSegment .skipped
  | (n, false) => n.goOn goOnRounds starved

/-- A MARK ahead of the cursor (R134). -/
def Node.markAhead (n : Node) (k : Nat) (t : Time) : Node :=
  let starved := n.starved
  let n := n.closeOpen .peerMark t
  if !starved && n.seq.cursorEntry.fields.last then n.enterEnded .lastSegment .peerMark
  else n.walkAndGoOn k starved

/-- A MARK judged against the cursor (R134). -/
def Node.judgeMark (n : Node) (j : Nat) (t : Time) : Node :=
  if j < n.seq.cursor.val then n
  else if j = n.seq.cursor.val then
    if n.seq.openEntry.isSome then (n.closeOpen .peerMark t).goOn goOnRounds false else n
  else n.markAhead (j - n.seq.cursor.val) t

/-- A MARK frame delivered to the sequencer; one of the wrong length has no effect (R134, R194). -/
def Node.takeMark (n : Node) (f : RxFrame) : Node :=
  if f.payload.length = 7 ∧ n.testInProgress = true ∧ markTest f.payload = n.testId ∧
      markIndex f.payload ≤ 31 then
    n.judgeMark (markIndex f.payload) (n.markTime f.header.sender (word32At f.payload 3))
  else n

/-! ### A BREAK at the sequencer (R138) -/

def Node.seqBreak (n : Node) : Node :=
  if n.testInProgress then n.enterEnded .byBreak .byBreak else n

end Sys2Proof.Machine
end

