-- ==== Sys2Proof/Machine/Halts.lean ====
section
/-! DEFINITION. The halt unit (Chapter 8): local and received causes, BREAK, and the entry to SILENT of
a duplicate identity (R68). -/
namespace Sys2Proof.Machine

/-- A halt record set at this event (R141). -/
def Node.setRecord (n : Node) (cause : HaltCause) (originator : Fin 16) (standing : Bool) : Node :=
  n.setHlt { n.hlt with record := some ⟨cause, originator, n.now, standing⟩ }

/-- A local cause reaches the halt unit (R142, R144); without a test state it has no effect (R141). -/
def Node.localCause (n : Node) (cause : HaltCause) : Node :=
  match n.seq.test with
  | none => n
  | some .halted => n
  | some _ =>
    let n := (n.setRecord cause n.nodeId true).enterHalted
    if cause = .duplicateId then n else n.sendHalt cause

/-- A jog in progress ends by a direct stop (R143). -/
def Node.stopJogging (n : Node) : Node := if n.tsg.jog = .idle then n else n.directStop

/-- A received cause (R143). -/
def Node.receivedCause (n : Node) (cause : HaltCause) (originator : Fin 16) : Node :=
  match n.seq.test with
  | none => n
  | some .halted => n
  | some .ended =>
    match n.hlt.record with
    | some _ => n
    | none => (n.setRecord cause originator false).stopJogging
  | some _ => (n.setRecord cause originator true).enterHalted

/-- The cause and originator of a HALT frame; one that cannot be read is OPERATOR from its sender
(R143, R194, log 18). -/
def haltOf (f : RxFrame) : HaltCause × Fin 16 :=
  if h : f.payload.length = 2 ∧ 1 ≤ natAt f.payload 0 ∧ natAt f.payload 0 ≤ 13 ∧
      natAt f.payload 1 < 16 then
    (HaltCause.ofCode (byteAt f.payload 0), ⟨natAt f.payload 1, h.2.2.2⟩)
  else (.operator, f.header.sender)

/-- A HALT frame delivered to the halt unit (R143). -/
def Node.takeHalt (n : Node) (f : RxFrame) : Node := n.receivedCause (haltOf f).1 (haltOf f).2

/-! ### BREAK (R148 to R150) -/

/-- A BREAK is taken: the break record is set, and the BREAK is delivered to the extensometer handler,
the sequencer and the evaluator (R149, R150; their order is log 7). -/
def Node.deliverBreak (n : Node) : Node :=
  ((n.exhBreak).seqBreak).evalEnding .byBreak

def Node.setBreak (n : Node) (originator : Fin 16) : Node :=
  n.setHlt { n.hlt with breakRecord := some ⟨originator, n.now⟩ }

/-- The load channel raises BREAK (R149); a further BREAK has no effect (R148). -/
def Node.raiseBreak (n : Node) : Node :=
  if n.hlt.breakRecord.isNone && n.testInProgress then
    ((n.setBreak n.nodeId).sendBreak n.testId).deliverBreak
  else n

/-- The test state takes a BREAK frame (R150). -/
def TestState.takesBreak : TestState → Bool
  | .ready => false
  | .armed => false
  | _ => true

/-- A BREAK frame delivered to the halt unit (R150); one of the wrong length has no effect (R194). -/
def Node.takeBreak (n : Node) (f : RxFrame) : Node :=
  let live := match n.seq.test with
    | some t => t.takesBreak
    | none => false
  if f.payload.length = 2 ∧ live = true ∧ n.seq.order.isSome = true ∧ nat16At f.payload 0 = n.testId ∧
      n.hlt.breakRecord.isNone = true then
    (n.setBreak f.header.sender).deliverBreak
  else n

/-! ### STOP (R146) -/

/-- A sample of the STOP input (R146). -/
def Node.sampleStop (n : Node) (asserted : Bool) : Node :=
  let rises := asserted && !n.hlt.stopPrev
  let n := if rises then n.localCause .stopInput else n
  n.setHlt { n.hlt with stopPrev := asserted, stopFound := asserted }

/-! ### Lost load (R145) -/

/-- LOAD-LOST is raised in a DRIVE node whose LOAD-SOURCE is stale in a test (R145). -/
def Node.loadLost (n : Node) : Node :=
  if n.driveLive && n.testInProgress && n.staleUse .loadSource then n.localCause .loadLost else n

/-! ### Duplicate identity (R68) -/

/-- The node goes SILENT (R68): its transmit holders are emptied, and a node that was ACTIVE takes
DUPLICATE-ID. -/
def Node.enterSilent (n : Node) : Node :=
  let n' := (n.setFbc n.fbc.atSilent).setSeq { n.seq with op := .silent }
  if n.seq.op = .active then n'.localCause .duplicateId else n'

end Sys2Proof.Machine
end

