-- ==== Sys2Proof/Machine/Pairing.lean ====
section
/-! DEFINITION. Pairing (9.2), and what the node's consumers make of a LOAD, STRAIN or TRAVEL sample,
their own or a subscribed one (R6, R25, R46, R89; their order is log 6). -/
namespace Sys2Proof.Machine

/-! ### Pairs (R156 to R159) -/

/-- Yield found for the first time in the test is reported to the sequencer (R165). -/
def Node.reportYield (n : Node) : Node :=
  if n.evl.yieldFound && !n.evl.yieldReported then
    (n.setEvl { n.evl with yieldReported := true }).yieldReport
  else n

/-- A held pair is reported for the open segment (R159). -/
def Node.reportHeld (n : Node) (held : Bool) : Node :=
  if held then n.reportFlag fun s => { s with heldPair := true } else n

/-- A pair passes through the six stages of its pair operation, the yield-seen report judged after stages 3
and 5 (R159, R165). -/
def Node.passPair (n : Node) (p : EvalParams) (x : Pair) : Node :=
  let n := ((n.setEvl (n.evl.earlyStages p x)).reportHeld x.held).reportYield
  let n := (n.setEvl (n.evl.lineStages p x)).reportYield
  n.setEvl (n.evl.scanStage x)

/-- A pair is formed (R159). -/
def Node.formPair (n : Node) (l : LoadEntry) (a : Answer) : Node :=
  match n.evl.params with
  | some p => n.passPair p (pairOf p.area l a)
  | none => n

/-- An answer for the front entry: no pair where it carries FAULT, and a pair otherwise (R156, R157). -/
def Node.pairWith (n : Node) (l : LoadEntry) (a : Answer) : Node :=
  if a.flags.fault then n.setEvl (n.evl.cause fun c => { c with strainFault := true }) else n.formPair l a

/-- The front entry leaves the queue. -/
def Node.popLoad (n : Node) : Node := n.setEvl { n.evl with queue := n.evl.queue.drop 1 }

/-- One round of a pairing attempt on the front entry; none where the answer tells it to wait (R156). The
entry is in the queue until its pair has passed its stages, so that a test which the pair's own yield report
ends is not taken for a drained one: the drain ends at the end of the attempt (R159, R165, R170, log 8). -/
def Node.pairFront (n : Node) (l : LoadEntry) : Option Node :=
  ((locate n.strainHist l.time).inside l.time).map fun a => (n.pairWith l a).popLoad

/-- The rounds of a pairing attempt (R156); each removes an entry, so as many as there are entries. -/
def Node.pairRounds : Nat → Node → Node
  | 0, n => n
  | k + 1, n =>
    match n.evl.queue with
    | [] => n
    | l :: _ =>
      if n.collecting then
        match n.pairFront l with
        | some n' => Node.pairRounds k n'
        | none => n
      else n

/-- A pairing attempt; while the closing mark is set the drain ends with an empty queue (R156, R170). -/
def Node.pairingAttempt (n : Node) : Node :=
  let n := n.pairRounds n.evl.queue.length
  if n.collecting then n.endDrain else n

/-- The pairing queue holds at most 16 entries (9.2). -/
def pairingCapacity : Nat := 16

/-- The front entry is removed from a full queue (R157). -/
def Node.overflow (n : Node) : Node :=
  match n.evl.queue with
  | [] => n
  | l :: _ =>
    match newest? n.strainHist with
    | some e => (n.pairWith l { e.answer with held := true }).popLoad
    | none => n.popLoad.setEvl (n.popLoad.evl.cause fun c => { c with heldPairing := true })

/-- A load sample is taken into the pairing queue (R155). -/
def Node.takesLoad (n : Node) (e : HistEntry) : Bool :=
  n.collecting && !e.flags.held &&
    (match n.evl.closing with
      | some t => !later e.time t
      | none => true) &&
    (match n.evl.queue.getLast? with
      | some l => later e.time l.time
      | none => true)

/-- A load sample joins the back of the queue. -/
def Node.pushLoad (n : Node) (e : HistEntry) : Node :=
  n.setEvl { n.evl with queue := n.evl.queue ++ [⟨e.time, e.value, e.flags⟩] }

/-- A load sample is offered to the evaluator (R155, R157). -/
def Node.evalLoad (n : Node) (e : HistEntry) : Node :=
  if n.takesLoad e then
    let n := if n.evl.queue.length < pairingCapacity then n else n.overflow
    (n.pushLoad e).pairingAttempt
  else n

/-- A strain sample is offered to the evaluator (R158). -/
def Node.evalStrain (n : Node) (e : HistEntry) : Node :=
  if n.collecting then
    (n.setEvl (n.evl.cause fun c =>
      { c with strainFault := c.strainFault || e.flags.fault
               unplannedHandover := c.unplannedHandover || e.flags.unplanned })).pairingAttempt
  else n

/-! ### Consumers -/

/-- A sample of the node's strain source (R46, R89): control mode unit, evaluator, end conditions. The control
mode unit takes the arrival before the consumers that may bring it a request (R108). -/
def Node.consumeStrain (n : Node) (e : HistEntry) : Node :=
  ((n.cmuArrival .strainRate e).evalStrain e).watchStrain e

/-- A sample entered into the LOAD-SOURCE history of a node without LOAD (R52, R89, R108, R128). -/
def Node.consumeForce (n : Node) (e : HistEntry) : Node :=
  ((((n.exhForce e).seqForce e).cmuArrival .loadRate e).evalLoad e).watchForce e

/-- An entered sample is offered to the node's consumers of its channel, by the use of its subscription
(R89); a subscription beside the node's own source of that quantity has no consumer (3.5, R104, 9.1). -/
def Node.consumeSub (n : Node) (i : Fin 4) (e : HistEntry) : Node :=
  match n.subCfg i with
  | some c =>
    match c.use with
    | .loadSource => if n.roles.load then n else n.consumeForce e
    | .strainSource => if n.roles.ext then n else n.consumeStrain e
    | .partnerTravel => (n.awaitedDatum i e.value).watchTravel
    | .otherTravel => (n.awaitedDatum i e.value).watchTravel
  | none => n

end Sys2Proof.Machine
end

