-- ==== Sys2Proof/Machine/LoadChannel.lean ====
section
/-! DEFINITION. The load channel (Chapter 1): a conversion, autorange, zero, balance, calibration,
publishing and the three checks of 1.7. -/
namespace Sys2Proof.Machine

/-! ### Codes and calibration (R2, R3) -/

/-- The multiplier 64/g of a range (1.1). -/
def multiplier (r : Fin 4) : Int :=
  match r.val with
  | 0 => 1 | 1 => 4 | 2 => 16 | _ => 64

/-- Raw full scale (1.1). -/
def fullScale : Int := 8388607

/-- The force of a code on the line through two calibration points (R3). -/
def segmentForce (a b : CalPoint) (n : Int) : Int :=
  a.force + roundDiv ((n - a.code) * (b.force - a.force)) (b.code - a.code)

/-- The force by the segment of a code, from a point on (R3): the first segment whose right point lies
above the code, and the last segment above the last but one point. -/
def tableForceFrom (n : Int) (a : CalPoint) : List CalPoint → Int
  | [] => a.force
  | [b] => segmentForce a b n
  | b :: c :: rest => if n < b.code then segmentForce a b n else tableForceFrom n b (c :: rest)

def tableForce (t : List CalPoint) (n : Int) : Int :=
  match t with
  | [] => 0
  | a :: rest => tableForceFrom n a rest

/-- The published force, and whether the clamp changed it (R3). -/
def publishedForce (t : List CalPoint) (n : Int) : Int × Bool :=
  let f := tableForce t n
  let c := clamp (-forceLimit) forceLimit f
  (c, c != f)

/-! ### Range changes (R8) -/

def emptyAcc (a : LoadAcc) : LoadAcc := { a with sum := 0, count := 0, fullScale := false }

/-- A zero in flight loses its codes (R8, R11). -/
def ZeroOp.restart (_ : ZeroOp) : ZeroOp := ⟨0, 0⟩

/-- The settle that follows a change of gain (R8). -/
def settleConversions : Nat := 4

/-- A range change (R8). -/
def Lc.changeRange (l : Lc) (r : Fin 4) : Lc :=
  { l with range := r, acc := emptyAcc l.acc, down := 0, settle := settleConversions,
           zero := l.zero.map ZeroOp.restart }

/-! ### The accepted path (R2, R7, R9, R11) -/

/-- The pre-tare normalised code (R2); the multiplier is a whole number. -/
def Lc.pretare (l : Lc) (c : Int) : Int := c * multiplier l.range

/-- The code joins the accumulator (R2). -/
def Lc.accumulate (l : Lc) (c : Int) (now : Time) : Lc :=
  { l with acc :=
    { sum := l.acc.sum + (l.pretare c - l.tare)
      count := l.acc.count + 1
      newest := now
      fullScale := l.acc.fullScale || (l.range == 3 && (c == fullScale || c == -fullScale)) } }

/-- A zero in flight collects the pre-tare code (R11). -/
def Lc.collect (l : Lc) (c : Int) : Lc :=
  { l with zero := l.zero.map fun z => ⟨z.count + 1, z.sum + l.pretare c⟩ }

/-- 90 % of raw full scale (R7), 15 % of it (R9). -/
def upThreshold : Int := 7549746
def downThreshold : Int := 1258291

/-- The next range up, where there is one (R7). -/
def rangeUp (r : Fin 4) : Option (Fin 4) :=
  match r.val with
  | 0 => some 1 | 1 => some 2 | 2 => some 3 | _ => none

/-- The next range down, where there is one (R9). -/
def rangeDown (r : Fin 4) : Option (Fin 4) :=
  match r.val with
  | 1 => some 0 | 2 => some 1 | 3 => some 2 | _ => none

/-- The test state lets the range step down (R9). -/
def TestState.beforeTest : TestState → Bool
  | .ready => true
  | .armed => true
  | _ => false

def Node.beforeTest (n : Node) : Bool :=
  match n.seq.test with
  | some t => t.beforeTest
  | none => false

/-- The downward count after an accepted conversion (R9). -/
def Lc.countDown (l : Lc) (c : Int) (before : Bool) : Nat :=
  if before && l.range != 0 && decide ((c.natAbs : Int) < downThreshold) then l.down + 1 else 0

/-- The count at which the range steps down (R9). -/
def downSteps : Nat := 64

/-- A step down, where the count has reached 64 (R9). -/
def Lc.stepDown (l : Lc) (down : Nat) : Lc :=
  match decide (down = downSteps), rangeDown l.range with
  | true, some r => l.changeRange r
  | _, _ => { l with down := down }

/-- Autorange on an accepted conversion (R7, R9). -/
def Lc.autorange (l : Lc) (c : Int) (before : Bool) : Lc :=
  match decide (upThreshold < (c.natAbs : Int)), rangeUp l.range with
  | true, some r => l.changeRange r
  | _, _ => l.stepDown (l.countDown c before)

/-! ### Zero (R12) -/

/-- The sixteen codes are collected (R11). -/
def zeroCodes : Nat := 16

/-- The new tare, where a zero holds its sixteen codes (R12). -/
def Lc.newTare (l : Lc) : Option Int :=
  match l.zero with
  | some z => if z.count = zeroCodes then some (roundDiv z.sum 16) else none
  | none => none

/-- An accepted zero: the tare is set and the accumulator rebased (R12). -/
def Lc.setTare (l : Lc) (z : Int) : Lc :=
  { l with tare := z, zero := none
           acc := { l.acc with sum := l.acc.sum - l.acc.count * (z - l.tare) } }

/-- The completion of the zero (R12). -/
def Node.zeroStage (n : Node) : Node :=
  match n.lc.newTare with
  | some z =>
    if n.img.load.zeroLimit < (z.natAbs : Int) then
      (n.setLc { n.lc with zero := none }).refuse .zeroLimit
    else (n.setLc (n.lc.setTare z)).health .zeroDrift (z - n.lc.tare).natAbs
  | none => n

/-- An accepted conversion: accumulator, zero, autorange (R2, R7, R9, R11; the zero completes before a
range change empties its codes, log 24). -/
def Node.acceptConversion (n : Node) (c : Int) : Node :=
  let n := n.setLc ((n.lc.accumulate c n.now).collect c)
  let n := n.zeroStage
  match n.img.load.fixedRange with
  | some _ => n
  | none => n.setLc (n.lc.autorange c n.beforeTest)

/-! ### Balance (R14, R15) -/

/-- The conversions of a trial, and how many of them settle (R14). -/
def trialConversions : Nat := 12
def trialSettle : Nat := 4

def bitMask (b : Nat) : BitVec 9 := BitVec.ofNat 9 (2 ^ b)

/-- BALANCE is accepted (R14). -/
def Lc.startBalance (l : Lc) : Lc :=
  { l with
    balance := some { heldTrim := l.trim, heldRange := l.range, phase := .trial 8 0 0 }
    acc := emptyAcc l.acc, down := 0, range := 0, trim := bitMask 8
    settle := if l.range = 0 then l.settle else settleConversions }

/-- The trim after the trial of a bit whose averaged codes sum to `s` (R14). -/
def judgedTrim (t : BitVec 9) (b : Nat) (s : Int) : BitVec 9 :=
  if 0 < s then t else t &&& ~~~(bitMask b)

/-- The end of the trial of a bit (R14, R15): the next bit's trial, or after bit 0 the restore settle. -/
def Lc.endTrial (l : Lc) (bal : Balance) (b : Nat) (s : Int) : Lc :=
  match b with
  | 0 =>
    { l with trim := judgedTrim l.trim 0 s, range := bal.heldRange, settle := settleConversions
             balance := some { bal with phase := .restore (roundDiv s 8) } }
  | b + 1 =>
    { l with trim := judgedTrim l.trim (b + 1) s ||| bitMask b
             balance := some { bal with phase := .trial b 0 0 } }

/-- One conversion of a trial (R14). -/
def Lc.trialStep (l : Lc) (bal : Balance) (b done : Nat) (sum c : Int) : Lc :=
  let sum := if done < trialSettle then sum else sum + c
  if done + 1 = trialConversions then l.endTrial bal b sum
  else { l with balance := some { bal with phase := .trial b (done + 1) sum } }

/-- The balance ends (R15). -/
def Node.endBalance (n : Node) (residue : Int) : Node :=
  let outcome := if n.img.load.balanceLimit < (residue.natAbs : Int) then BalanceOutcome.failed else .done
  (n.setLc { n.lc with balance := none, lastBalance := some ⟨outcome, some residue⟩ }).health
    .balanceResidue residue.natAbs

/-- A settle count that runs is lowered by the completion (R8). -/
def Lc.settleOne (l : Lc) : Lc := { l with settle := l.settle - 1 }

/-- What a conversion does to a balance in flight; the ending is told apart (R14, R15): the residue where
this completion is the last of the restore settle. -/
def Lc.balanceStep (l : Lc) (bal : Balance) (c : Int) : Lc × Option Int :=
  match bal.phase with
  | .trial b done sum => (l.settleOne.trialStep bal b done sum c, none)
  | .restore residue => (l.settleOne, if l.settle ≤ 1 then some residue else none)

/-! ### Publishing (R4 to R6) -/

/-- Conversions from publish point to publish point (R4). -/
def Node.loadEvery (n : Node) : Nat := 2000 / n.img.loadRate

/-- The LOAD sample of a publish point (R4, R5). -/
def Node.loadSample (n : Node) : HistEntry :=
  let l := n.lc
  let degraded := n.hlm.degraded .load
  if l.acc.count = 0 ∨ l.balance.isSome then
    ⟨l.prod, n.now, l.lastGood, { held := true, balancing := l.balance.isSome, degraded := degraded }⟩
  else
    let f := publishedForce n.img.load.tables[l.range] (roundDiv l.acc.sum l.acc.count)
    ⟨l.prod, l.acc.newest, f.1, { overrange := f.2 || l.acc.fullScale, degraded := degraded }⟩

/-- The load channel after a sample: history, production number, last good force, accumulator (R4 to R6). -/
def Lc.published (l : Lc) (e : HistEntry) : Lc :=
  { l with hist := pushHist l.hist e, prod := l.prod + 1, decim := 0, acc := emptyAcc l.acc
           lastGood := if e.flags.held then l.lastGood else e.value }

/-! ### Force maximum, break, overload (R17 to R19) -/

/-- The running force maximum (R18). -/
def Node.updateFmax (n : Node) (e : HistEntry) : Node :=
  if n.testInProgress && !e.flags.held then n.setLc { n.lc with fmax := max n.lc.fmax e.value } else n

/-- The two conditions of break detection (R19). -/
def breakMet (p : OrderPart3) (fmax f : Int) : Bool :=
  decide (p.breakMinimum ≤ fmax) && decide (f ≤ roundDiv (fmax * p.breakFraction) 1000)

/-- Break detection (R19). -/
def Node.detectBreak (n : Node) (e : HistEntry) : Node :=
  match n.part3 with
  | some p =>
    if n.testInProgress && !e.flags.held && n.lc.breakArmed && breakMet p n.lc.fmax e.value then
      (n.setLc { n.lc with breakArmed := false }).raiseBreak
    else n
  | none => n

/-- The overload check (R17). -/
def Node.checkOverload (n : Node) (e : HistEntry) : Node :=
  if !e.flags.held && (decide (n.img.load.overloadLimit < (e.value.natAbs : Int)) || e.flags.overrange) then
    n.localCause .overload
  else n

/-- The consumers of an own LOAD sample (R6; their order is log 6, that of the checks is 1.7's). The control
mode unit takes the arrival before any consumer that may bring it a request (R108). -/
def Node.consumeLoad (n : Node) (e : HistEntry) : Node :=
  let n := ((n.exhForce e).updateFmax e).cmuArrival .loadRate e
  (((n.evalLoad e).detectBreak e).checkOverload e).watchForce e

/-- A LOAD sample is formed and goes its three ways (R4 to R6). -/
def Node.publishLoad (n : Node) : Node :=
  let e := n.loadSample
  let aux := byteOf n.lc.range.val
  ((n.sendSample .load (samplePayload .load e.flags aux e.time e.value)).setLc
    (n.lc.published e)).consumeLoad e

/-- The decimation count, and the sample at a publish point (R4). -/
def Node.publishStage (n : Node) : Node :=
  if n.lc.decim + 1 = n.loadEvery then n.publishLoad
  else n.setLc { n.lc with decim := n.lc.decim + 1 }

/-- The measuring path of a conversion: balance, settle or accepted (R1, R8, R14). -/
def Node.measure (n : Node) (c : Int) : Node × Option Int :=
  match n.lc.balance with
  | some bal => (n.setLc (n.lc.balanceStep bal c).1, (n.lc.balanceStep bal c).2)
  | none =>
    if n.lc.settle = 0 then (n.acceptConversion c, none) else (n.setLc n.lc.settleOne, none)

/-- A conversion completes (R1): measuring path, publish point, and the end of a balance, whose own
publish point still carries BALANCING (R15, log 24). -/
def Node.convert (n : Node) (c : Int) : Node :=
  let m := n.measure c
  let n := m.1.publishStage
  match m.2 with
  | some residue => n.endBalance residue
  | none => n

/-! ### FRAME-RESET (R16, R20) -/

/-- A balance in flight is cancelled (R16). -/
def Lc.cancelBalance (l : Lc) : Lc :=
  match l.balance with
  | some bal =>
    { (l.changeRange bal.heldRange) with
      trim := bal.heldTrim, balance := none, lastBalance := some ⟨.cancelled, none⟩ }
  | none => l

/-- The load channel's part of FRAME-RESET (R11, R16, R20). -/
def Node.lcFrameReset (n : Node) : Node :=
  if n.lcLive then
    n.setLc { n.lc.cancelBalance with zero := none, hist := [], fmax := 0, breakArmed := false }
  else n

end Sys2Proof.Machine
end

