-- ==== Sys2Proof/Machine/Drive.lean ====
section
/-! DEFINITION. The travel and step generator's events (Chapter 2): encoder, pacer with its stages,
underflow, pulse end, run-down timer, and the jog commands. -/
namespace Sys2Proof.Machine

/-! ### Quadrature (R21, R22, R42) -/

/-- The place of an accepted pair (A, B) in the cycle 00, 10, 11, 01 (2.1). -/
def pairPlace (a b : Bool) : Nat :=
  match a, b with
  | false, false => 0
  | true, false => 1
  | true, true => 2
  | false, true => 3

/-- What a change of an accepted pair tells (R21). -/
inductive QuadStep
  | unchanged | up | down | error
deriving DecidableEq, Repr

def quadStep (a b a' b' : Bool) : QuadStep :=
  match (pairPlace a' b' + 4 - pairPlace a b) % 4 with
  | 0 => .unchanged
  | 1 => .up
  | 2 => .error
  | _ => .down

/-- An accepted pair is reported: a line whose accepted level changes has it accepted and times nothing; the
other line's filter runs on (R21). -/
def LineFilter.accept (f : LineFilter) (level : Bool) : LineFilter :=
  if level = f.accepted then f else ⟨level, 0⟩

/-- The raw level of a line after an accepted pair is reported: a level newly accepted is the raw one
(log 4). -/
def LineFilter.raw (f : LineFilter) (pin level : Bool) : Bool := if level = f.accepted then pin else level

/-- The drive encoder's new accepted pair (R21). -/
def Node.acceptEncoder (n : Node) (a b : Bool) : Node :=
  let f := n.filters
  (n.setPins { n.pins with encA := f.encA.raw n.pins.encA a, encB := f.encB.raw n.pins.encB b }).setFilters
    { f with encA := f.encA.accept a, encB := f.encB.accept b }

/-- An encoder error (R22). -/
def Node.encoderError (n : Node) : Node :=
  (n.setTsg { n.tsg with encFault := true }).localCause .encoderFault

/-- An encoder event (R21, R22). -/
def Node.encoderStep (n : Node) (s : QuadStep) : Node :=
  match s with
  | .unchanged => n
  | .up => n.setTsg { n.tsg with count := n.tsg.count + 1 }
  | .down => n.setTsg { n.tsg with count := n.tsg.count - 1 }
  | .error => n.encoderError

/-! ### Ramp (R28, R36) -/

/-- One ramp step (R28). -/
def ramp (wanted commanded a : Int) : Int :=
  if ((wanted - commanded).natAbs : Int) ≤ a then wanted
  else if commanded < wanted then commanded + a else commanded - a

/-- A jog in ENDING ends at the expiry at which the commanded velocity is 0 (R36). -/
def jogAfter (j : JogState) (commanded : Int) : JogState :=
  match j with
  | .ending => if commanded = 0 then .idle else .ending
  | j => j

/-- The ramp stage, with its report to the control mode unit (R28, R98, log 6). -/
def Node.rampStage (n : Node) : Node :=
  let c := ramp n.tsg.wanted n.tsg.commanded n.img.drive.accel
  (n.setTsg { n.tsg with commanded := c, jog := jogAfter n.tsg.jog c }).rampReport

/-! ### Level and issue (R29, R38, R39) -/

/-- The level error at this expiry, in DATUM with a partner sample held (R38). -/
def Node.levelError (n : Node) : Option Int :=
  match n.tsg.level, n.partnerAt n.now with
  | some d, some p => some ((n.absolutePos - p) - d)
  | _, _ => none

/-- The level error is handed to the health monitor, and tilt is checked (R38, R39). -/
def Node.levelStage (n : Node) : Node :=
  match n.levelError with
  | some e =>
    let n := n.health .level e.natAbs
    if n.img.drive.tiltLimit < (e.natAbs : Int) then n.localCause .tilt else n
  | none => n

/-- The raw trim, in 1/65536 (R38). -/
def rawTrim (e commanded span : Int) : Int := roundDiv (e * signOf commanded * 65536) span

/-- The bound of the applied trim (R38). -/
def trimBound : Int := 8192

/-- The velocity after the level trim (R38). -/
def trimmed (commanded raw : Int) : Int :=
  roundDiv (commanded * (65536 - clamp (-trimBound) trimBound raw)) 65536

/-- The issue stage (R29, R38), with the level error of this expiry. -/
def Node.issueStage (n : Node) (e : Option Int) : Node :=
  let c := n.tsg.commanded
  let vMax := n.img.drive.vMax
  match e with
  | some e =>
    let raw := rawTrim e c n.img.drive.levelSpan
    let n := n.setTsg { n.tsg with issued := clamp (-vMax) vMax (trimmed c raw) }
    if trimBound < (raw.natAbs : Int) then n.reportFlag fun s => { s with levelSaturated := true } else n
  | none => n.setTsg { n.tsg with issued := clamp (-vMax) vMax c }

/-! ### Period (R30, R39) -/

def Node.setGen (n : Node) (g : Gen) : Node := n.setTsg { n.tsg with gen := g }

/-- The stop request stands: HALTED, or not ACTIVE (R27). -/
def Node.stopStands (n : Node) : Bool := n.seq.op != .active || n.seq.test == some .halted

/-- A nonzero issued velocity reaches the generator (R30); a start with a stale partner raises
PARTNER-LOST (R39). -/
def Node.runGenerator (n : Node) (v : Int) : Node :=
  let p := periodOf n.img.drive.step v
  let pos := decide (0 < v)
  match n.tsg.gen.st with
  | .stopped =>
    let n := n.setGen (n.tsg.gen.startWith p pos)
    if n.staleUse .partnerTravel then n.localCause .partnerLost else n
  | _ => n.setGen (n.tsg.gen.applyPeriod p pos)

/-- The period stage (R30). -/
def Node.periodStage (n : Node) : Node :=
  if n.tsg.issued = 0 ∨ n.stopStands = true then n.setGen n.tsg.gen.requestStop
  else n.runGenerator n.tsg.issued

/-! ### Checks (R24, R34) -/

/-- The low and the high side are violated (R34). -/
def Node.lowViolated (n : Node) : Bool :=
  decide (n.absolutePos ≤ n.img.drive.travelMin) || n.pins.limLo
def Node.highViolated (n : Node) : Bool :=
  decide (n.img.drive.travelMax ≤ n.absolutePos) || n.pins.limHi

/-- A violated side raises the cause: newly violated, or approached (R34). -/
def sideRaises (violated before toward : Bool) : Bool := violated && (!before || toward)

/-- The travel limits are judged (R34). -/
def Node.limitStage (n : Node) : Node :=
  let low := n.lowViolated
  let high := n.highViolated
  let raises := sideRaises low n.tsg.violLo (decide (n.tsg.issued < 0)) ||
    sideRaises high n.tsg.violHi (decide (0 < n.tsg.issued))
  let n := n.setTsg { n.tsg with violLo := low, violHi := high }
  if raises then n.localCause .travelLimit else n

/-- The following error is handed to the health monitor while the generator moves (R24). -/
def Node.handFollowing (n : Node) : Node :=
  if n.tsg.gen.moving then n.health .following n.followingError.natAbs else n

/-- The following error is checked (R24). -/
def Node.followStage (n : Node) : Node :=
  let exceeds := decide (n.img.drive.followLimit < (n.followingError.natAbs : Int))
  let judged := n.tsg.gen.moving || n.tsg.gen.runDown
  let n := n.handFollowing
  if judged && exceeds then n.localCause .following else n

/-! ### TRAVEL samples (R25) -/

/-- Pacer expiries from publish point to publish point (R25). -/
def Node.travelEvery (n : Node) : Nat := 1000 / n.img.travelRate

/-- The TRAVEL sample of a publish point (R25). -/
def Node.travelSample (n : Node) : HistEntry :=
  ⟨n.tsg.prod, n.now, n.absolutePos,
    { fault := n.tsg.encFault, degraded := n.hlm.degraded .travel }⟩

/-- A TRAVEL sample is formed and goes its three ways (R25). -/
def Node.publishTravel (n : Node) : Node :=
  let e := n.travelSample
  let n := n.sendSample .travel (samplePayload .travel e.flags n.cmu.established.code e.time e.value)
  (n.setTsg { n.tsg with hist := pushHist n.tsg.hist e, prod := n.tsg.prod + 1, pubCount := 0 }).watchTravel

/-- The publish stage (R25, R28). -/
def Node.travelStage (n : Node) : Node :=
  if n.tsg.pubCount + 1 = n.travelEvery then n.publishTravel
  else n.setTsg { n.tsg with pubCount := n.tsg.pubCount + 1 }

/-- The six stages of a pacer expiry (R28). -/
def Node.pacer (n : Node) : Node :=
  let n := n.rampStage
  let e := n.levelError
  let n := (n.levelStage.issueStage e).periodStage
  (n.limitStage.followStage).travelStage

/-- The limit inputs as sampled at a pacer expiry (R34). -/
def Node.sampleLimits (n : Node) (lo hi : Bool) : Node :=
  n.setPins { n.pins with limLo := lo, limHi := hi }

/-! ### The generator's events (R24, R31, R33) -/

/-- The pulse count changes by one in the direction in force (R23, R31). -/
def Tsg.emit (t : Tsg) (widthCount : Nat) : Tsg :=
  { t with pulses := if t.gen.dirPos then t.pulses + 1 else t.pulses - 1, gen := t.gen.pulse widthCount }

/-- An underflow (R31, R33). -/
def Node.underflow (n : Node) : Node :=
  match n.tsg.gen.st with
  | .running => n.setTsg (n.tsg.emit n.img.drive.pulseWidth)
  | .stopping => n.setGen (n.tsg.gen.stopped n.now)
  | .stopped => n

/-- The pulse falls (R31). -/
def Node.pulseEnds (n : Node) : Node := n.setGen { n.tsg.gen with stepHigh := false, pulseLeft := 0 }

/-- The run-down window has passed (R24). -/
def Node.runDownEnds (n : Node) : Node := n.setGen { n.tsg.gen with runDown := false, runDownAt := none }

/-! ### FRAME-RESET (R22, R41) -/

/-- The travel and step generator's own items at FRAME-RESET, the direct stop apart (R22, R26, R41). -/
def Node.tsgFrameReset (n : Node) : Node :=
  if n.driveLive then n.setTsg { n.tsg with encFault := false, level := none, hist := [] } else n

/-- ENCODER-FAULT is cleared by an accepted CLEAR (R22). -/
def Node.clearEncFault (n : Node) : Node :=
  if n.driveLive then n.setTsg { n.tsg with encFault := false } else n

end Sys2Proof.Machine
end

