-- ==== Sys2Proof/Machine/StartUp.lean ====
section
/-! DEFINITION. The start-up loader (Chapter 11): the image's fields and ranges (11.3, 12.5), the
consistency checks (R188), and entry to ACTIVE or CONFIG-FAULT (R189, R190). -/
namespace Sys2Proof.Machine

/-! ### The bytes of the image (R187, 12.5) -/

/-- The bytes as clocked in: 1,024, and a byte the memory does not supply reads as all ones (R187, log 26). -/
def clockedIn (bytes : List Byte) : List Byte := (bytes ++ List.replicate 1024 0xFF).take 1024

/-- Step 1 of R187: bytes 1,022 and 1,023 hold the check value of the bytes before them. -/
def imageCheckOk (b : List Byte) : Bool := checkBytes (b.take 1022) == (b.drop 1022).take 2

def inRange (lo hi x : Nat) : Bool := decide (lo ≤ x) && decide (x ≤ hi)

def within (bound x : Int) : Bool := decide (-bound ≤ x) && decide (x ≤ bound)

/-! ### Subscriptions -/

def subAddr (i : Nat) : Nat := 8 + 4 * i

/-- A subscription field is in range (fields 8 to 11). -/
def subRangeOk (b : List Byte) (i : Nat) : Bool :=
  let a := subAddr i
  byteAt b a == 0 ||
    (byteAt b a == 1 && decide (natAt b (a + 1) < 16) && (Channel.ofCode (byteAt b (a + 2))).isSome &&
      (SubUse.ofCode (byteAt b (a + 3))).isSome)

/-- A subscription of the image; one marked absent is not read (11.3). -/
def subAt (b : List Byte) (i : Nat) : Option SubCfg :=
  let a := subAddr i
  if byteAt b a = 1 then
    match Channel.ofCode (byteAt b (a + 2)), SubUse.ofCode (byteAt b (a + 3)) with
    | some c, some u => some ⟨stationId ((byteAt b (a + 1)).extractLsb' 0 4), c, u⟩
    | _, _ => none
  else none

/-! ### Calibration tables -/

def tableAddr (r : Nat) : Nat := 108 + 97 * r

/-- A point of a table as its bytes stand. -/
def pointAt (b : List Byte) (r k : Nat) : CalPoint :=
  ⟨int32At b (tableAddr r + 1 + 8 * k), int32At b (tableAddr r + 5 + 8 * k)⟩

/-- The points of a table; those beyond its point count are not read (11.3). -/
def tableAt (b : List Byte) (r : Nat) : List CalPoint :=
  (List.range (natAt b (tableAddr r))).map (pointAt b r)

/-- A calibration table is in range (fields 26 to 29). -/
def tableRangeOk (b : List Byte) (r : Nat) : Bool :=
  inRange 2 12 (natAt b (tableAddr r)) &&
    (tableAt b r).all fun p => within lengthLimit p.code && within forceLimit p.force

/-- The normalised codes strictly increase (R188 check 4). -/
def strictlyRising : List CalPoint → Bool
  | [] => true
  | [_] => true
  | a :: b :: rest => decide (a.code < b.code) && strictlyRising (b :: rest)

/-! ### Ranges (R187 steps 2 and 3) -/

/-- Fields 1 and 2 (R187 step 2). -/
def identityRanges (b : List Byte) : List (Nat × Bool) :=
  [(1, decide (natAt b 0 < 16)), (2, natAt b 1 == 1 || natAt b 1 == 2 || natAt b 1 == 4)]

/-- Fields 3 to 12. -/
def trafficRanges (b : List Byte) : List (Nat × Bool) :=
  [(3, inRange 1 15 (natAt b 2)), (4, inRange 0 3 (natAt b 3)), (5, inRange 0 2 (natAt b 4)),
   (6, inRange 0 3 (natAt b 5)), (7, inRange 5 200 (natAt b 6)),
   (8, subRangeOk b 0), (9, subRangeOk b 1), (10, subRangeOk b 2), (11, subRangeOk b 3),
   (12, inRange 0 3 (natAt b 24))]

/-- Fields 13 to 24. -/
def driveRanges (b : List Byte) : List (Nat × Bool) :=
  [(13, inRange 1 65535 (nat16At b 26)), (14, inRange 1 65535 (nat16At b 28)),
   (15, inRange 1 65535 (nat16At b 30)), (16, inRange 1 65535 (nat16At b 32)),
   (17, inRange 1 3999999 (nat32At b 34)), (18, inRange 2 4000000 (nat32At b 38)),
   (19, inRange 1 4000000 (nat32At b 42)), (20, inRange 1 2000000000 (nat32At b 46)),
   (21, within lengthLimit (int32At b 50)), (22, within lengthLimit (int32At b 54)),
   (23, inRange 1 2000000000 (nat32At b 58)), (24, inRange 1 2000000000 (nat32At b 62))]

/-- Fields 25 to 32. -/
def loadRanges (b : List Byte) : List (Nat × Bool) :=
  [(25, natAt b 25 == 255 || inRange 0 3 (natAt b 25)),
   (26, tableRangeOk b 0), (27, tableRangeOk b 1), (28, tableRangeOk b 2), (29, tableRangeOk b 3),
   (30, inRange 1 30000000 (nat32At b 66)), (31, inRange 0 536870848 (nat32At b 70)),
   (32, inRange 1 8388607 (nat32At b 74))]

/-- Fields 33 to 39. -/
def controlRanges (b : List Byte) : List (Nat × Bool) :=
  [(33, inRange 50 2000 (nat16At b 78)), (34, inRange 1 2000000000 (nat32At b 80)),
   (35, inRange 1 255 (natAt b 84)), (36, inRange 1 255 (natAt b 85)),
   (37, inRange 1 1000 (nat16At b 86)), (38, inRange 1 32 (natAt b 88)),
   (39, inRange 1 600000 (nat32At b 89))]

/-- Fields 40 to 48. -/
def healthRanges (b : List Byte) : List (Nat × Bool) :=
  [(40, inRange 0 100 (natAt b 93)), (41, inRange 0 100 (natAt b 94)), (42, inRange 0 100 (natAt b 95)),
   (43, inRange 0 100 (natAt b 96)), (44, inRange 0 100 (natAt b 97)), (45, inRange 0 100 (natAt b 98)),
   (46, inRange 0 100 (natAt b 99)), (47, inRange 1 536870848 (nat32At b 100)),
   (48, inRange 1 2000000000 (nat32At b 104))]

/-- The fields of step 3, in field number order (R187). -/
def fieldRanges (b : List Byte) : List (Nat × Bool) :=
  trafficRanges b ++ driveRanges b ++ loadRanges b ++ controlRanges b ++ healthRanges b

/-- The number of the first field out of range. -/
def firstOut (l : List (Nat × Bool)) : Option Nat := (l.find? fun x => !x.2).map (·.1)

/-! ### The image's values (11.3, 12.5) -/

/-- Samples per second of a rate code (12.5). -/
def rateOf (b : Byte) : Nat := 250 * 2 ^ b.toNat

def driveImageOf (b : List Byte) : DriveImage where
  filterCounts := 4 * 2 ^ natAt b 24
  encScale := nat16At b 26
  step := nat16At b 28
  pulseWidth := nat16At b 30
  armScale := nat16At b 32
  vMin := nat32At b 34
  vMax := nat32At b 38
  accel := nat32At b 42
  followLimit := nat32At b 46
  travelMin := int32At b 50
  travelMax := int32At b 54
  levelSpan := nat32At b 58
  tiltLimit := nat32At b 62

/-- The fixed range, where the image names one (12.5). -/
def fixedRangeOf (b : Byte) : Option (Fin 4) :=
  if h : b.toNat < 4 then some ⟨b.toNat, h⟩ else none

def loadImageOf (b : List Byte) : LoadImage where
  fixedRange := fixedRangeOf (byteAt b 25)
  tables := #v[tableAt b 0, tableAt b 1, tableAt b 2, tableAt b 3]
  overloadLimit := nat32At b 66
  zeroLimit := nat32At b 70
  balanceLimit := nat32At b 74

def controlImageOf (b : List Byte) : ControlImage where
  releaseTimeoutMs := nat16At b 78
  slipThreshold := nat32At b 80
  gainLoad := natAt b 84
  gainStrain := natAt b 85
  lockBand := nat16At b 86
  lockCount := natAt b 88
  lockTimeoutMs := nat32At b 89

def healthImageOf (b : List Byte) : HealthImage where
  thresholds := #v[natAt b 93, natAt b 94, natAt b 95, natAt b 96, natAt b 97, natAt b 98, natAt b 99]
  driftAllowance := nat32At b 100
  disagreeAllowance := nat32At b 104

/-- The identity of an image, with the roles as read: what CONFIG-FAULT keeps (R189). -/
def identityOf (b : List Byte) : Image where
  nodeId := stationId ((byteAt b 0).extractLsb' 0 4)
  lineRate := natAt b 1
  roles := byteAt b 2

/-- The values of an image. -/
def imageOf (b : List Byte) : Image :=
  { identityOf b with
    loadRate := rateOf (byteAt b 3)
    travelRate := rateOf (byteAt b 4)
    strainRate := rateOf (byteAt b 5)
    staleMs := natAt b 6
    subs := #v[subAt b 0, subAt b 1, subAt b 2, subAt b 3]
    drive := driveImageOf b
    load := loadImageOf b
    control := controlImageOf b
    health := healthImageOf b }

/-! ### Consistency (R188) -/

/-- A check of R188: whether it holds, its code, and the field it reports. -/
structure Check where
  ok : Bool
  code : FaultCode
  field : Nat
deriving DecidableEq, Repr

/-- One check made of each subscription in turn; the first that fails reports its field. -/
def eachSub (img : Image) (ok : Fin 4 → SubCfg → Bool) : List Check :=
  allSubs.map fun i =>
    ⟨match img.subs[i] with
      | some c => ok i c
      | none => true, .subscription, 8 + i.val⟩

/-- The use agrees with the channel kind (R188 check 6). -/
def SubUse.channel : SubUse → Channel
  | .loadSource => .load
  | .strainSource => .strain
  | .partnerTravel => .travel
  | .otherTravel => .travel

/-- No earlier subscription is like this one in the sense of `same`. -/
def noEarlier (img : Image) (i : Fin 4) (c : SubCfg) (same : SubCfg → SubCfg → Bool) : Bool :=
  allSubs.all fun j => !decide (j < i) ||
    match img.subs[j] with
    | some d => !same d c
    | none => true

/-- The image has a subscription of a use. -/
def Image.hasUse (img : Image) (u : SubUse) : Bool :=
  allSubs.any fun i => match img.subs[i] with
    | some c => c.use == u
    | none => false

/-- Check 9 of R188 for one subscription. -/
def useFitsRoles (r : Roles) : SubUse → Bool
  | .loadSource => !r.load
  | .strainSource => !r.ext
  | .partnerTravel => r.drive
  | .otherTravel => true

def hasForce (img : Image) : Bool := (rolesOf img.roles).load || img.hasUse .loadSource
def hasStrain (img : Image) : Bool := (rolesOf img.roles).ext || img.hasUse .strainSource
def hasTravel (img : Image) : Bool :=
  (rolesOf img.roles).drive || img.hasUse .partnerTravel || img.hasUse .otherTravel

/-- Checks 1 to 4 of R188. -/
def limitChecks (img : Image) : List Check :=
  [⟨decide (img.drive.vMin < img.drive.vMax), .limits, 17⟩,
   ⟨decide (img.drive.vMax ≤ 1000000 * img.drive.step), .limits, 18⟩,
   ⟨decide (img.drive.travelMin < img.drive.travelMax), .limits, 21⟩,
   ⟨strictlyRising img.load.tables[0], .calibration, 26⟩,
   ⟨strictlyRising img.load.tables[1], .calibration, 27⟩,
   ⟨strictlyRising img.load.tables[2], .calibration, 28⟩,
   ⟨strictlyRising img.load.tables[3], .calibration, 29⟩]

/-- Checks 5 to 9 of R188. Where several pairs fail check 7, several uses (or a third subscription of one) fail
check 8, or several subscriptions fail check 9, the one with the lowest number is reported: of checks 7 and 8 the
first that has an earlier match (log 31). -/
def subChecks (img : Image) : List Check :=
  eachSub img (fun _ c => c.peer != img.nodeId) ++
  eachSub img (fun _ c => c.channel == c.use.channel) ++
  eachSub img (fun i c => noEarlier img i c fun d c => d.peer == c.peer && d.channel == c.channel) ++
  eachSub img (fun i c => c.use == .otherTravel || noEarlier img i c fun d c => d.use == c.use) ++
  eachSub img (fun _ c => useFitsRoles (rolesOf img.roles) c.use)

/-- Checks 10 to 12 of R188. -/
def sourceChecks (img : Image) : List Check :=
  let r := rolesOf img.roles
  [⟨!r.drive || hasForce img, .source, 3⟩,
   ⟨!r.eval || (hasForce img && hasStrain img), .source, 3⟩,
   ⟨!r.ext || (hasForce img && hasTravel img), .source, 3⟩]

def consistencyChecks (img : Image) : List Check := limitChecks img ++ subChecks img ++ sourceChecks img

/-- The first check that fails (R188). -/
def firstFailing (l : List Check) : Option (FaultCode × Nat) :=
  (l.find? fun x => !x.ok).map fun x => (x.code, x.field)

/-! ### The judging of an image (R187) -/

/-- What the loader makes of the bytes. -/
inductive Loaded
  /-- Every check passes. -/
  | accepted (img : Image)
  /-- The fault code and field number, and what the node keeps of the image. -/
  | faulty (code : FaultCode) (field : Nat) (kept : Image)
deriving DecidableEq, Repr

/-- Steps 3 and 4, of an image whose identity is good (R187). -/
def judgeFields (b : List Byte) : Loaded :=
  match firstOut (fieldRanges b) with
  | some field => .faulty .field field (identityOf b)
  | none =>
    match firstFailing (consistencyChecks (imageOf b)) with
    | some (code, field) => .faulty code field (identityOf b)
    | none => .accepted (imageOf b)

/-- The judging of an image, stopping at the first check that fails (R187). -/
def judgeImage (b : List Byte) : Loaded :=
  if imageCheckOk b then
    match firstOut (identityRanges b) with
    | some field => .faulty .identity field {}
    | none => judgeFields b
  else .faulty .check 0 {}

/-! ### Entry to CONFIG-FAULT and to ACTIVE (R189, R190) -/

/-- Entry to CONFIG-FAULT (R189); the PRESENCE goes out where the bus is live (R79). -/
def Node.enterConfigFault (n : Node) (code : FaultCode) (field : Nat) (kept : Image) : Node :=
  ((n.setSul { reading := false, image := kept, fault := some (code, field) }).setSeq
    { n.seq with op := .configFault }).sendPresence

/-- The load channel starts at its range (R10, R190). -/
def Node.startLoad (n : Node) : Node :=
  if n.roles.load then n.setLc { n.lc with range := n.img.load.fixedRange.getD 3 } else n

/-- The input filters start from the lines' levels (log 5). -/
def Pins.filters (p : Pins) : Filters where
  encA := ⟨p.encA, 0⟩
  encB := ⟨p.encB, 0⟩
  arm1A := ⟨p.arm1A, 0⟩
  arm1B := ⟨p.arm1B, 0⟩
  arm2A := ⟨p.arm2A, 0⟩
  arm2B := ⟨p.arm2B, 0⟩

/-- The paces of the node's blocks start at entry to ACTIVE (R1, R28, R43, R127, R146). -/
def Clock.started (c : Clock) : Clock :=
  { c with conv := 0, pacer := 0, reading := 0, segment := 0, stop := 0 }

/-- The extensometer state is judged from the inputs (R48, R190). -/
def Node.startExt (n : Node) : Node :=
  if n.extLive then n.putExh { n.exh with st := n.stateOfInputs } else n

/-- Each block goes live (R190). -/
def Node.goLive (n : Node) : Node :=
  let n := (n.startLoad.setHlm (n.hlm.withThresholds n.img.health.thresholds)).setClk n.clk.started
  let n := (n.setFilters n.pins.filters).setHlt { n.hlt with stopPrev := false, stopFound := false }
  ((n.startStaleness.startExt).resync.notice).sendPresence

/-- Entry to ACTIVE with test state READY (R190). -/
def Node.enterActive (n : Node) (img : Image) : Node :=
  ((n.setSul { reading := false, image := img, fault := none }).setSeq
    { n.seq with op := .active, test := some .ready }).goLive

/-- The completion of the image transfer (R187). -/
def Node.imageRead (n : Node) (bytes : List Byte) : Node :=
  match judgeImage (clockedIn bytes) with
  | .accepted img => n.enterActive img
  | .faulty code field kept => n.enterConfigFault code field kept

/-! ### Starts (R186) -/

/-- Every block at its power-on values, with the outside lines as they are; `reading` tells that the
image read has begun (R186). -/
def startValues (p : Pins) (reading : Bool) : Node := { pins := p, sul := { reading := reading } }

end Sys2Proof.Machine
end

