-- ==== Sys2Proof/Machine/Arrivals.lean ====
section
/-! DEFINITION. Dispatch from the receive queues (R67): which frame is next, what its delivery is, and its
removal from its queue. -/
namespace Sys2Proof.Machine

/-- What the delivery of a frame is, one for each delivery row of the command table. -/
inductive Arrival
  | sample | presence | state
  | command (c : CommandCode) | unknownCommand
  | order | segment
  | query (k : QueryKind) | queryRefused
  | silentDiscard
  | mark | halt | break_
deriving DecidableEq, Repr

/-- A COMMAND by its code and its length (R121, 12.2). -/
def commandArrival (p : List Byte) : Arrival :=
  match p with
  | [] => .unknownCommand
  | b :: _ =>
    match CommandCode.ofCode b with
    | some c => if p.length = c.length then .command c else .unknownCommand
    | none => .unknownCommand

/-- A QUERY by its kind, argument and page (R194, R195). -/
def queryArrival (p : List Byte) : Arrival :=
  match QueryKind.ofCode (byteAt p 0) with
  | some k =>
    if p.length = 3 ∧ k.argOk (byteAt p 1) = true ∧ 1 ≤ natAt p 2 ∧ natAt p 2 ≤ k.pages then .query k
    else .queryRefused
  | none => .queryRefused

/-- The delivery of a frame whose kind a SILENT node still takes, or of any in another state (R67). -/
def arrivalOf (k : MsgKind) (p : List Byte) : Option Arrival :=
  match k with
  | .halt => some .halt
  | .break_ => some .break_
  | .mark => some .mark
  | .sample => some .sample
  | .presence => some .presence
  | .state => some .state
  | .command => some (commandArrival p)
  | .order => some .order
  | .segment => some .segment
  | .query => some (queryArrival p)
  | .reply => none
  | .result => none

/-- COMMAND, ORDER, SEGMENT and QUERY are delivered to no block in SILENT (R67). -/
def MsgKind.silenced : MsgKind → Bool
  | .command => true
  | .order => true
  | .segment => true
  | .query => true
  | _ => false

/-- What the delivery of a queued frame is. -/
def Node.arrival (n : Node) (f : RxFrame) : Option Arrival :=
  match MsgKind.ofCode f.header.cls f.header.kind with
  | some k => if n.seq.op = .silent ∧ k.silenced = true then some .silentDiscard else arrivalOf k f.payload
  | none => none

/-- The frame dispatched next: the front of the urgent queue, else of the normal queue (R67). -/
def Fbc.front (b : Fbc) : Option RxFrame :=
  match b.urgentQ with
  | f :: _ => some f
  | [] => b.normalQ.head?

/-- The dispatch removes the frame from its queue (R67). -/
def Fbc.popFront (b : Fbc) : Fbc :=
  match b.urgentQ with
  | _ :: rest => { b with urgentQ := rest }
  | [] => { b with normalQ := b.normalQ.drop 1 }

/-- The delivery of the frame at the front, where it is of this kind; a command that names another
delivery than the one that is next has no effect (R67, log 3). -/
def Node.deliver (n : Node) (a : Arrival) (take : Node → RxFrame → Node) : Node :=
  match n.fbc.front with
  | some f =>
    if n.fbcLive = true ∧ n.arrival f = some a then take (n.setFbc n.fbc.popFront) f else n
  | none => n

end Sys2Proof.Machine
end

