-- ==== Sys2Proof/Machine/TestCommands.lean ====
section
/-! DEFINITION. The sequencer's own commands (7.4): START, PAUSE, RESUME, ABORT, CLEAR, FRAME-RESET; and
UNKNOWN_COMMAND. -/
namespace Sys2Proof.Machine

/-- The order and every segment are dropped, and the cursor is 0 (R125, R126). -/
def Seq.dropOrder (q : Seq) : Seq :=
  { q with order := none, segs := Vector.replicate 32 {}, cursor := 0 }

/-- The test order is complete: all three parts are present (R118). -/
def Order.complete (o : Order) : Bool := o.part1.isSome && o.part2.isSome && o.part3.isSome

/-! ### START (R122, R123) -/

/-- Check 1 (R122). -/
def Node.orderMatches (n : Node) (testId : Nat) : Bool :=
  match n.seq.order with
  | some o => o.testId == testId && o.complete
  | none => false

/-- The load channel has a balance or a zero in flight (R11, R13, R122 check 3). -/
def Node.lcBusy (n : Node) : Bool := n.roles.load && (n.lc.balance.isSome || n.lc.zero.isSome)

/-- The velocity whose sign tells where an entry moves (R122 check 5). -/
def SegFields.motion (f : SegFields) : Int :=
  match f.mode with
  | .hold => 0
  | .crossheadRate => f.target
  | .loadRate => f.entryVel
  | .strainRate => f.entryVel

/-- A velocity points toward a violated side (R34). -/
def Tsg.towardViolated (t : Tsg) (v : Int) : Bool :=
  (t.violLo && decide (v < 0)) || (t.violHi && decide (0 < v))

/-- The entry at index 0. -/
def Seq.entry0 (q : Seq) : Segment := q.segs[0]

/-- Checks 1 to 5 of R122; STOP is judged by the level the last sample found (R146, log 13). -/
def Node.startChecks (n : Node) (testId : Nat) : Bool :=
  n.orderMatches testId && n.seq.entry0.status == .loaded && !n.lcBusy && !n.hlt.stopFound &&
    !(n.roles.drive && n.tsg.towardViolated n.seq.entry0.fields.motion)

/-- The sequencer's own part of a taken START (R123). -/
def Node.seqStart (n : Node) : Node :=
  (n.setSeq { n.seq with cursor := 0, yieldSeen := false, forceMax := 0, pauseTime := 0,
                         endCause := none }).setTest .running

/-- The load channel's part of START (R18, R19). -/
def Node.lcStart (n : Node) : Node :=
  if n.lcLive then n.setLc { n.lc with fmax := 0, breakArmed := true } else n

/-- A jog in progress ends at START, without a direct stop (R36). -/
def Node.endJog (n : Node) : Node :=
  if n.tsg.jog = .idle then n else n.setTsg { n.tsg with jog := .idle, wanted := 0 }

/-- The effects of a taken START (R123; their order is log 7), and the LOAD-LOST check (R145). -/
def Node.takenStart (n : Node) : Node :=
  let n := ((n.seqStart.recordDatums).captureLevel.exhStart).lcStart.endJog
  let n := (n.setHlm n.hlm.atStart).evalStart
  let n := n.setHlt { n.hlt with breakRecord := none }
  (n.openAndJudge 0 false).loadLost

/-- A START in ARMED (R122). -/
def Node.judgeStart (n : Node) (testId : Nat) : Node :=
  if n.startChecks testId then
    if n.roles.ext && !n.exhReady then n.exhStartFails.localCause .extNotClosed else n.takenStart
  else n.localCause .notReady

/-- START by the test state (R121). -/
def Node.takeStart (n : Node) (f : RxFrame) : Node :=
  if n.active then
    match n.seq.test with
    | some .ready => n.localCause .notReady
    | some .armed => n.judgeStart (nat16At f.payload 1)
    | some .running => n
    | some .paused => n
    | _ => n.refuse .notAllowed
  else n

/-! ### PAUSE and RESUME (R124) -/

def Node.takePause (n : Node) (_ : RxFrame) : Node :=
  if n.active then
    match n.seq.test with
    | some .running => (n.setTest .paused).cmuHold
    | some .paused => n
    | _ => n.refuse .notAllowed
  else n

/-- The re-entry request of the OPEN segment; while STARVED the request stays HOLD (R99, R124). -/
def Node.resumeRequest (n : Node) : Node :=
  match n.seq.openEntry with
  | some e => n.cmuResume e.fields
  | none => n

/-- A YIELD-SEEN entry opened under pause after yield was seen is judged at the RESUME (R124, R128, log 14). -/
def Node.resumed (n : Node) : Node :=
  let n := (n.setTest .running).resumeRequest
  if n.yieldMet then n.closeAndGoOn else n

def Node.takeResume (n : Node) (_ : RxFrame) : Node :=
  if n.active then
    match n.seq.test with
    | some .paused => n.resumed
    | some .running => n
    | _ => n.refuse .notAllowed
  else n

/-! ### ABORT and CLEAR (R125) -/

/-- ABORT in ARMED (R125). -/
def Node.abortArmed (n : Node) : Node := ((n.setSeq n.seq.dropOrder).setTest .ready).directStop

/-- The standing halt becomes NOTED (R147). -/
def Hlt.noted (h : Hlt) : Hlt := { h with record := h.record.map fun r => { r with standing := false } }

/-- ABORT in HALTED: ENDED with end cause ABORT, the record NOTED, drive enable asserted (R125, R147). -/
def Node.abortHalted (n : Node) : Node :=
  ((n.setHlt n.hlt.noted).enterEnded .byAbort .byAbort).resync

def Node.takeAbort (n : Node) (_ : RxFrame) : Node :=
  if n.active then
    match n.seq.test with
    | some .armed => n.abortArmed
    | some .running => n.enterEnded .byAbort .byAbort
    | some .paused => n.enterEnded .byAbort .byAbort
    | some .halted => n.abortHalted
    | some .ended => n
    | _ => n.refuse .notAllowed
  else n

/-- CLEAR taken: READY, order and segments dropped, halt record and stop watch cleared, ENCODER-FAULT
cleared, break detector disarmed (R19, R22, R125, R146, R147). -/
def Node.cleared (n : Node) : Node :=
  let n := n.setHlt { n.hlt with record := none, stopPrev := false }
  let n := n.setLc { n.lc with breakArmed := false }
  ((n.setSeq n.seq.dropOrder).setTest .ready).clearEncFault

def Node.takeClear (n : Node) (_ : RxFrame) : Node :=
  if n.active then
    match n.seq.test with
    | some .halted => n.cleared.resync
    | some .ended => n.cleared
    | some .ready => n
    | some .armed => n
    | _ => n.refuse .notAllowed
  else n

/-! ### FRAME-RESET (R126) -/

/-- The sequencer's part of FRAME-RESET (R126, R140). -/
def Seq.atFrameReset (q : Seq) : Seq :=
  { q.dropOrder with pauseTime := 0, yieldSeen := false, forceMax := 0, endCause := none }

/-- The test state becomes READY, where it is not (R116, R126). -/
def Node.toReady (n : Node) : Node := if n.seq.test = some .ready then n else n.setTest .ready

/-- The blocks' own parts of FRAME-RESET (R126). -/
def Node.blocksReset (n : Node) : Node :=
  let n := ((n.directStop.lcFrameReset).tsgFrameReset.setDatums {}).exhFrameReset
  let n := ((n.ptaFrameReset).cmuFrameReset).evalFrameReset
  (n.setHlm n.hlm.atFrameReset).setHlt { stopFound := n.hlt.stopFound }

/-- FRAME-RESET taken (R126): transmit holders, sequencer, blocks, and the PRESENCE (R79); drive enable
that rises brings the resynchronisation (R40). -/
def Node.frameReset (n : Node) : Node :=
  let rises := n.seq.test == some .halted
  let n := (n.setFbc n.fbc.atFrameReset).setSeq n.seq.atFrameReset
  let n := n.toReady.blocksReset
  let n := if rises then n.resync else n
  n.sendPresence

def Node.takeFrameReset (n : Node) (_ : RxFrame) : Node := if n.active then n.frameReset else n

/-- An unknown command or a wrong length (R121). -/
def Node.takeUnknown (n : Node) (_ : RxFrame) : Node := if n.active then n.refuse .badField else n

/-! ### The commands -/

/-- START (R122). -/
def execStart (s : State) : Host.Outcome State Fault Refusal :=
  s.ran (s.node.deliver (.command .start) Node.takeStart)

/-- PAUSE (R124). -/
def execPause (s : State) : Host.Outcome State Fault Refusal :=
  s.ran (s.node.deliver (.command .pause) Node.takePause)

/-- RESUME (R124). -/
def execResume (s : State) : Host.Outcome State Fault Refusal :=
  s.ran (s.node.deliver (.command .resume) Node.takeResume)

/-- ABORT (R125). -/
def execAbort (s : State) : Host.Outcome State Fault Refusal :=
  s.ran (s.node.deliver (.command .abort) Node.takeAbort)

/-- CLEAR (R125). -/
def execClear (s : State) : Host.Outcome State Fault Refusal :=
  s.ran (s.node.deliver (.command .clear) Node.takeClear)

/-- FRAME_RESET (R126). -/
def execFrameReset (s : State) : Host.Outcome State Fault Refusal :=
  s.ran (s.node.deliver (.command .frameReset) Node.takeFrameReset)

/-- UNKNOWN_COMMAND (R121). -/
def execUnknownCommand (s : State) : Host.Outcome State Fault Refusal :=
  s.ran (s.node.deliver .unknownCommand Node.takeUnknown)

end Sys2Proof.Machine
end

