-- ==== Sys2Proof/Machine/Orders.lean ====
section
/-! DEFINITION. ORDER and SEGMENT frames: their payloads, their checks and their effects (7.2, 7.3). -/
namespace Sys2Proof.Machine

/-! ### ORDER parts (R117) -/

/-- An accepted part of a test order (7.2). -/
inductive OrderPart
  | one (p : OrderPart1)
  | two (p : OrderPart2)
  | three (p : OrderPart3)
deriving DecidableEq, Repr

def part1Of (p : List Byte) : OrderPart1 where
  area := nat32At p 3
  gauge := nat32At p 7

def part2Of (p : List Byte) : OrderPart2 where
  sigmaLo := nat32At p 3
  sigmaHi := nat32At p 7
  eMin := nat32At p 11
  eMax := nat32At p 15
  proofOffset := nat32At p 19
  yieldDrop := nat32At p 23
  transientSpan := nat32At p 27

def part3Of (p : List Byte) : OrderPart3 where
  breakFraction := nat16At p 3
  breakMinimum := nat32At p 5
  releaseStrain := nat32At p 9
  releaseDrop := nat16At p 13
  compliance := nat32At p 15
  initialK := nat32At p 19

/-- The ranges of part 1 (7.2). -/
def OrderPart1.ok (p : OrderPart1) : Bool :=
  decide (1 ≤ p.area ∧ p.area ≤ 100000000 ∧ 10000000 ≤ p.gauge ∧ p.gauge ≤ 1000000000)

/-- The ranges of part 2 (7.2). -/
def OrderPart2.ok (p : OrderPart2) : Bool :=
  decide (0 ≤ p.sigmaLo ∧ p.sigmaLo < p.sigmaHi ∧ p.sigmaHi ≤ 10000000) &&
  decide (1 ≤ p.eMin ∧ p.eMin ≤ p.eMax ∧ p.eMax ≤ 1000000) &&
  decide (100000 ≤ p.proofOffset ∧ p.proofOffset ≤ 10000000) &&
  decide (1 ≤ p.yieldDrop ∧ p.yieldDrop ≤ 100000) &&
  decide (0 ≤ p.transientSpan ∧ p.transientSpan ≤ 100000000)

/-- The ranges of part 3 (7.2). -/
def OrderPart3.ok (p : OrderPart3) : Bool :=
  decide (50 ≤ p.breakFraction ∧ p.breakFraction ≤ 900) &&
  decide (1 ≤ p.breakMinimum ∧ p.breakMinimum ≤ 30000000) &&
  decide (0 ≤ p.releaseStrain ∧ p.releaseStrain ≤ 2000000000) &&
  decide (0 ≤ p.releaseDrop ∧ p.releaseDrop ≤ 999) &&
  decide (0 ≤ p.compliance ∧ p.compliance ≤ 1000000) &&
  decide (4096 ≤ p.initialK ∧ p.initialK ≤ 65536)

/-- The part a payload spells, where its length, its part number and its fields are in range (R117). -/
def orderPartOf (p : List Byte) : Option OrderPart :=
  match natAt p 0, p.length with
  | 1, 11 => if (part1Of p).ok then some (.one (part1Of p)) else none
  | 2, 31 => if (part2Of p).ok then some (.two (part2Of p)) else none
  | 3, 23 => if (part3Of p).ok then some (.three (part3Of p)) else none
  | _, _ => none

/-- A part fills its place (R118). -/
def Order.put (o : Order) : OrderPart → Order
  | .one p => { o with part1 := some p }
  | .two p => { o with part2 := some p }
  | .three p => { o with part3 := some p }

/-- The order a part is taken into: the one held where it has the test id, and a new one otherwise (R118). -/
def Node.orderFor (n : Node) (testId : Nat) : Order :=
  match n.seq.order with
  | some o => if o.testId = testId then o else ⟨testId, none, none, none⟩
  | none => ⟨testId, none, none, none⟩

/-- The order held is of another test (R118). -/
def Node.otherOrder (n : Node) (testId : Nat) : Bool :=
  match n.seq.order with
  | some o => o.testId != testId
  | none => false

/-- A part of another test discards the order held; in ARMED the segments go with it and the test state
becomes READY (R118). -/
def Node.dropOther (n : Node) (testId : Nat) : Node :=
  if n.otherOrder testId && n.seq.test == some .armed then (n.setSeq n.seq.dropOrder).setTest .ready else n

def OrderPart.isOne : OrderPart → Bool
  | .one _ => true
  | _ => false

/-- The gauge length in force follows a complete order (R45, R118). -/
def Node.setGauge (n : Node) (o : Order) : Node :=
  match o.part1 with
  | some p => if n.extLive then n.setExh { n.exh with gauge := p.gauge } else n
  | none => n

/-- An accepted part is taken into the order (R118). -/
def Node.putPart (n : Node) (testId : Nat) (x : OrderPart) : Node :=
  let old := n.orderFor testId
  let o := old.put x
  let n := n.setSeq { n.seq with order := some o }
  let n := if o.complete && (!old.complete || x.isOne) then n.setGauge o else n
  if o.complete && n.seq.test == some .ready then n.setTest .armed else n

/-- The test state refuses an ORDER part (R117 check 1). -/
def Node.orderOpen (n : Node) : Bool := n.beforeTest

/-- An ORDER frame delivered to the sequencer (R117). -/
def Node.takeOrder (n : Node) (f : RxFrame) : Node :=
  if n.active then
    if n.orderOpen then
      let testId := nat16At f.payload 1
      match orderPartOf f.payload with
      | some x => if testId = 0 then n.refuse .badField else (n.dropOther testId).putPart testId x
      | none => n.refuse .badField
    else n.refuse .notAllowed
  else n

/-! ### SEGMENT frames (R119) -/

/-- Largest jog and segment velocity of the image's range, nm/s (7.3). -/
def velocityLimit : Int := 4000000

/-- The target and the entry velocity suit the mode (7.3). -/
def motionOk (m : Mode) (target entryVel : Int) : Bool :=
  match m with
  | .hold => true
  | .crossheadRate => within velocityLimit target
  | _ => decide (1 ≤ target ∧ target ≤ 2000000000) && entryVel != 0 && within velocityLimit entryVel

/-- The end value lies in the range of its end kind (7.5). -/
def endValueOk (k : EndKind) (v : Int) : Bool :=
  match k with
  | .strainAtLeast => within lengthLimit v
  | .forceAtLeast => within forceLimit v
  | .travelAtLeast => within lengthLimit v
  | .timeAtLeast => decide (1 ≤ v ∧ v ≤ 86400000)
  | .yieldSeen => true
  | .forceDrop => decide (1 ≤ v ∧ v ≤ 999)
  | .breakOnly => true

/-- The fields of a SEGMENT with its mode and end kind. -/
def segFieldsOf (p : List Byte) (m : Mode) (k : EndKind) : SegFields where
  mode := m
  target := int32At p 4
  entryVel := int32At p 8
  window := natAt p 12
  endKind := k
  endValue := int32At p 14
  last := (byteAt p 18).getLsbD 0
  releaseAllowed := (byteAt p 18).getLsbD 1

/-- The fields lie in the ranges of 7.3 for an entry at an index (R119 check 3). -/
def SegFields.ok (f : SegFields) (index : Nat) : Bool :=
  motionOk f.mode f.target f.entryVel && inRange 2 8 f.window && endValueOk f.endKind f.endValue &&
    (decide (index < 31) || f.last)

/-- The entry a SEGMENT payload spells, where every field is in range (R119 check 3). -/
def segmentOf (p : List Byte) : Option (Fin 32 × SegFields) :=
  match Mode.ofCode (byteAt p 3), EndKind.ofCode (byteAt p 13) with
  | some m, some k =>
    if h : natAt p 2 < 32 then
      if (segFieldsOf p m k).ok (natAt p 2) then some (⟨natAt p 2, h⟩, segFieldsOf p m k) else none
    else none
  | _, _ => none

/-- An accepted SEGMENT makes its entry LOADED; at cursor + 1 it ends a starvation (R119, R132). -/
def Node.loadSegment (n : Node) (i : Fin 32) (f : SegFields) : Node :=
  let starved := n.starved
  let n := n.setSeq (n.seq.setEntry i { status := .loaded, fields := f })
  if starved && nextIndex n.seq.cursor == some i then n.openAndJudge i true else n

/-- A SEGMENT's fields and index are judged (R119 checks 3 and 4). -/
def Node.judgeSegment (n : Node) (p : List Byte) : Node :=
  match segmentOf p with
  | some (i, f) =>
    if n.testInProgress && decide (i ≤ n.seq.cursor) then n.refuse .notAllowed else n.loadSegment i f
  | none => n.refuse .badField

/-- The test state takes SEGMENTs (R119 check 1). -/
def TestState.takesSegment : TestState → Bool
  | .armed => true
  | .running => true
  | .paused => true
  | _ => false

/-- A SEGMENT frame delivered to the sequencer (R119; the place of the length check is log 19). -/
def Node.takeSegment (n : Node) (f : RxFrame) : Node :=
  if n.active then
    if (n.seq.test.map TestState.takesSegment).getD false then
      if f.payload.length ≠ 19 then n.refuse .badField
      else if nat16At f.payload 0 ≠ n.testId then n.refuse .wrongTest
      else n.judgeSegment f.payload
    else n.refuse .notAllowed
  else n

/-! ### The commands -/

/-- ORDER (R117). -/
def execOrder (s : State) : Host.Outcome State Fault Refusal := s.ran (s.node.deliver .order Node.takeOrder)

/-- SEGMENT (R119). -/
def execSegment (s : State) : Host.Outcome State Fault Refusal :=
  s.ran (s.node.deliver .segment Node.takeSegment)

end Sys2Proof.Machine
end

