-- ==== Sys2Proof/Machine/BlockCommands.lean ====
section
/-! DEFINITION. The commands that carry their own checks (7.4): ZERO (R11, R47), BALANCE (R13), JOG (R35)
and STOP-JOG (R36). -/
namespace Sys2Proof.Machine

/-! ### ZERO (R11, R47) -/

/-- An accepted ZERO starts the load channel's zero and sets the arm references (R11, R47). -/
def Node.startZero (n : Node) : Node :=
  let n := if n.roles.load then n.setLc { n.lc with zero := some ⟨0, 0⟩ } else n
  n.zeroArms

def Node.takeZero (n : Node) (_ : RxFrame) : Node :=
  if n.active then
    if !n.roles.load && !n.roles.ext then n.refuse .noRole
    else if !n.beforeTest then n.refuse .notAllowed
    else if n.lcBusy then n.refuse .busy
    else n.startZero
  else n

/-! ### BALANCE (R13) -/

def Node.takeBalance (n : Node) (_ : RxFrame) : Node :=
  if n.active then
    if !n.roles.load then n.refuse .noRole
    else if !n.beforeTest then n.refuse .notAllowed
    else if n.lcBusy then n.refuse .busy
    else n.setLc n.lc.startBalance
  else n

/-! ### JOG and STOP-JOG (R35, R36) -/

/-- The test state takes a jog (R35 check 2). -/
def TestState.takesJog : TestState → Bool
  | .ready => true
  | .armed => true
  | .ended => true
  | _ => false

/-- An accepted JOG (R35): a jog start captures the level datum; a jog in progress keeps it. -/
def Node.startJog (n : Node) (v : Int) : Node :=
  let n' := n.setTsg { n.tsg with jog := .jogging, wanted := v }
  if n.tsg.jog = .idle then n'.captureLevel else n'

/-- The checks of a JOG (R35). -/
def Node.judgeJog (n : Node) (v : Int) : Node :=
  if !n.roles.drive then n.refuse .noRole
  else if !(n.seq.test.map TestState.takesJog).getD false then n.refuse .notAllowed
  else if v = 0 ∨ n.img.drive.vMax < (v.natAbs : Int) then n.refuse .badField
  else if n.tsg.towardViolated v then n.refuse .limit
  else n.startJog v

def Node.takeJog (n : Node) (f : RxFrame) : Node :=
  if n.active then n.judgeJog (int32At f.payload 1) else n

/-- STOP-JOG (R36). -/
def Node.takeStopJog (n : Node) (_ : RxFrame) : Node :=
  if n.active then
    if !n.roles.drive then n.refuse .noRole
    else match n.tsg.jog with
      | .jogging => n.setTsg { n.tsg with wanted := 0, jog := .ending }
      | _ => n
  else n

/-! ### The commands -/

/-- ZERO (R11). -/
def execZero (s : State) : Host.Outcome State Fault Refusal :=
  s.ran (s.node.deliver (.command .zero) Node.takeZero)

/-- BALANCE (R13). -/
def execBalance (s : State) : Host.Outcome State Fault Refusal :=
  s.ran (s.node.deliver (.command .balance) Node.takeBalance)

/-- JOG (R35). -/
def execJog (s : State) : Host.Outcome State Fault Refusal :=
  s.ran (s.node.deliver (.command .jog) Node.takeJog)

/-- STOP_JOG (R36). -/
def execStopJog (s : State) : Host.Outcome State Fault Refusal :=
  s.ran (s.node.deliver (.command .stopJog) Node.takeStopJog)

end Sys2Proof.Machine
end

