-- ==== Sys2Proof/Machine/Queries.lean ====
section
/-! DEFINITION. Queries and replies (12.4): the contents of every page, and the REPLY submitted (R195). -/
namespace Sys2Proof.Machine

/-! ### STATUS (R196) -/

/-- Halt record: status, cause, originator, time (R196). -/
def haltBytes : Option HaltRecord → List Byte
  | none => [0, 0, 0] ++ be32 0
  | some r => [if r.standing then 1 else 2, r.cause.code, byteOf r.originator.val] ++ be32 r.time

/-- Break record: present, originator, time (R196). -/
def breakBytes : Option BreakRecord → List Byte
  | none => [0, 0] ++ be32 0
  | some r => [1, byteOf r.originator.val] ++ be32 r.time

/-- STATUS page 1: sequencer and halt unit (R196). -/
def Node.statusPage1 (n : Node) : List Byte :=
  [n.seq.op.code, (n.seq.test.map TestState.code).getD 0] ++ be16 n.testId ++
    [byteOf n.seq.cursor.val, boolByte n.starved, refusalCode n.seq.refusal, endCauseCode n.seq.endCause] ++
    haltBytes n.hlt.record ++ breakBytes n.hlt.breakRecord ++ u32 n.seq.pauseTime ++ n.configStatus ++
    [namedRoles n.img.roles, Config.partRevision]

/-- Last balance record and its residue (R196). -/
def balanceBytes : Option BalanceRecord → List Byte
  | none => 0 :: i32 0
  | some r =>
    (match r.outcome with
      | .done => (1 : Byte)
      | .failed => 2
      | .cancelled => 3) :: optI32 r.residue

/-- Operation in flight (R196). -/
def Lc.inFlight (l : Lc) : Byte :=
  if l.balance.isSome then 1 else if l.zero.isSome then 2 else 0

/-- STATUS page 2: load channel (R196). -/
def Node.statusPage2 (n : Node) : List Byte :=
  let l := n.lc
  [byteOf l.range.val, byteOf l.settle] ++ be16 l.trim.toNat ++ i32 l.tare ++ balanceBytes l.lastBalance ++
    [l.inFlight] ++ i32 l.lastGood ++ i32 l.fmax ++ [boolByte l.breakArmed, byteOf l.down]

def GenState.code : GenState → Byte
  | .stopped => 0 | .running => 1 | .stopping => 2

def JogState.code : JogState → Byte
  | .idle => 0 | .jogging => 1 | .ending => 2

/-- STATUS page 3: travel (R196). -/
def Node.statusPage3 (n : Node) : List Byte :=
  let t := n.tsg
  i32 n.absolutePos ++ i32 n.commandedPos ++ i32 n.followingError ++
    [t.gen.st.code, t.jog.code, bitsByte [t.violLo, t.violHi], boolByte t.encFault,
     boolByte t.level.isSome] ++ optI32 t.level ++ i32 t.wanted ++ i32 t.commanded

/-- STATUS page 4: extensometer and control (R196). -/
def Node.statusPage4 (n : Node) : List Byte :=
  let x := n.exh
  let c := n.cmu
  [x.st.code] ++ optI32 x.k ++ optI32 x.snap.elong ++ optI32 x.snap.travel ++ optI32 x.snap.force ++
    [bitsByte [x.snap.elong.isSome, x.snap.travel.isSome, x.snap.force.isSome, c.rm.isSome],
     bitsByte [x.unplanned, c.entryStep, c.fallback, x.releaseOut]] ++
    optI32 c.rm ++ [lockCode c.lock] ++ optI32 c.fallbackVel

def Node.statusPage (n : Node) : Nat → List Byte
  | 1 => n.statusPage1
  | 2 => n.statusPage2
  | 3 => n.statusPage3
  | _ => n.statusPage4

/-! ### SEGMENT (R197) -/

def SegStatus.code : SegStatus → Byte
  | .empty => 0 | .loaded => 1 | .opened => 2 | .closed => 3

/-- The loaded fields; an entry that was never loaded has window 0 and reports 0 (R193, log 32). -/
def SegFields.bytes (f : SegFields) : List Byte :=
  if f.window = 0 then List.replicate 16 0
  else [f.mode.code] ++ i32 f.target ++ i32 f.entryVel ++ [byteOf f.window, f.endKind.code] ++
    i32 f.endValue ++ [bitsByte [f.last, f.releaseAllowed]]

/-- SEGMENT page 1 (R197). -/
def Segment.page1 (e : Segment) : List Byte :=
  [e.status.code] ++ e.fields.bytes ++ optTime e.firstLock ++ [e.summary.byte]

/-- SEGMENT page 2 of an outcome (R197). -/
def Outcome.page2 (o : Outcome) (lock : Bool) : List Byte :=
  [bitsByte [true, o.strain.isSome, o.force.isSome, o.travel.isSome, lock], o.cause.code] ++
    be32 o.openTime ++ be32 o.closeTime ++ u32 o.elapsed ++ optI32 o.strain ++ optI32 o.force ++
    optI32 o.travel

/-- SEGMENT page 2; presence 0 for an entry not CLOSED (R197). -/
def Segment.page2 (e : Segment) : List Byte :=
  match e.status, e.outcome with
  | .closed, some o => o.page2 e.firstLock.isSome
  | _, _ => List.replicate 26 0

/-- The entry a query's argument names (R197). -/
def Node.segmentPage (n : Node) (arg page : Nat) : List Byte :=
  if h : arg < 32 then
    let e := n.seq.segs[arg]
    if page = 1 then e.page1 else e.page2
  else []

/-! ### RESULT (R174, R197) -/

def RecordState.code : RecordState → Byte
  | .none_ => 0 | .collecting => 1 | .final => 2

/-- The part a RESULT page draws on (R197). -/
def resultPart : Nat → Nat
  | 1 => 1 | 2 => 2 | 3 => 2 | _ => 3

/-- The five bytes each RESULT page begins with (R197). -/
def Evl.pageHead (e : Evl) (page : Nat) : List Byte :=
  [e.record.st.code] ++ be16 e.record.testId ++
    [boolByte e.closing.isSome, e.record.values.presence (resultPart page)]

def Evl.pageFields (e : Evl) : Nat → List Byte
  | 1 => e.part1
  | 2 => e.record.values.yieldFields
  | 3 => e.record.values.proofFields
  | _ => e.record.values.maxFields

def Node.resultPage (n : Node) (page : Nat) : List Byte := n.evl.pageHead page ++ n.evl.pageFields page

/-! ### HEALTH (R184, R198) -/

def Hlm.all (h : Hlm) : List Score :=
  [h.zeroDrift, h.balanceResidue, h.armDisagree, h.slip, h.following, h.level, h.bus]

/-- Value, worst value and threshold of a score (R198). -/
def Score.bytes (s : Score) : List Byte := [byteOf s.value.toNat, byteOf s.worst.toNat, byteOf s.threshold]

/-- HEALTH page 1 (R198). -/
def Node.healthPage1 (n : Node) : List Byte :=
  n.hlm.all.flatMap Score.bytes ++ [bitsByte (n.hlm.all.map (·.tripped))] ++ be16 n.fbc.collisions

/-- HEALTH page 2 (R198); the peaks are magnitudes (R176). -/
def Node.healthPage2 (n : Node) : List Byte :=
  let h := n.hlm
  u32 h.armDisagree.measure.toNat ++ be16 h.slip.measure.toNat ++ u32 h.following.measure.toNat ++
    u32 h.level.measure.toNat ++ be16 h.bus.measure.toNat

def Node.healthPage (n : Node) (page : Nat) : List Byte :=
  if page = 1 then n.healthPage1 else n.healthPage2

/-! ### PEER (R96, R198) -/

/-- The age of a peer's last frame in ms, rounded down; the largest value when long-silent (R96). -/
def Peer.age (p : Peer) (now : Time) : BitVec 32 :=
  if p.longSilent then 0xFFFFFFFF
  else match p.lastFrame with
    | some t => BitVec.ofNat 32 ((now - t).toNat / 1000)
    | none => 0

/-- PEER page 1 of an entry that is present (R198). -/
def Peer.page1 (p : Peer) (now : Time) : List Byte :=
  let pr := p.presence.getD ⟨0, 0, 0, 0⟩
  [bitsByte [p.present, p.longSilent, p.offsetValid, p.reseedStamp.isSome, p.presence.isSome, p.view.isSome],
   bitsByte [p.rxSeq.urgent.isSome, p.rxSeq.sample.isSome, p.rxSeq.bulk.isSome]] ++
    be32 (p.age now) ++ optTime p.offset ++ [byteOf p.outliers] ++ optTime p.reseedStamp ++
    [p.rxSeq.urgent.getD 0, p.rxSeq.sample.getD 0, p.rxSeq.bulk.getD 0] ++
    be16 p.missed.urgent ++ be16 p.missed.sample ++ be16 p.missed.bulk ++
    [pr.roles, pr.revision, pr.status, pr.field]

/-- The state view in the order of the STATE payload (R198). -/
def StateView.bytes (v : StateView) : List Byte :=
  [v.test] ++ be16 v.testId ++
    [v.cursor, v.requested, v.established, v.lock, v.ext, v.cause, v.originator]

/-- PEER page 2 (R198). -/
def Peer.page2 (p : Peer) : List Byte :=
  match p.view with
  | some v => v.bytes
  | none => List.replicate 10 0

/-- The channel kind of PEER pages 3, 4 and 5 (R198). -/
def pageChannel : Nat → Channel
  | 3 => .load
  | 4 => .travel
  | _ => .strain

/-- A subscription's page (R198). -/
def Sub.page (x : Sub) (use : SubUse) : List Byte :=
  let e := newest? x.hist
  [bitsByte [true, x.stale, x.gap, e.isSome, x.lastArrival.isSome], use.code, byteOf x.hist.length,
   (e.map (·.seq)).getD 0] ++ optTime (e.map (·.time)) ++ optI32 (e.map (·.value)) ++
    optTime x.lastArrival

/-- PEER pages 3 to 5, where the subscription is `i`; without one every field is 0 (R198). -/
def Node.subPage (n : Node) (i : Option (Fin 4)) : List Byte :=
  match i with
  | some i => match n.subCfg i with
    | some c => (n.sub i).page c.use
    | none => List.replicate 16 0
  | none => List.replicate 16 0

/-- The page of a peer (R96, R198); an entry that is not present reports nothing. -/
def Node.peerPage (n : Node) (id : Fin 16) (page : Nat) : List Byte :=
  match page with
  | 1 => if (n.peer id).present then (n.peer id).page1 n.now else List.replicate 28 0
  | 2 => if (n.peer id).present then (n.peer id).page2 else List.replicate 10 0
  | p => n.subPage (n.matchSub id (pageChannel p))

/-- The gap flag of the subscription a page reports is cleared when the page is formed (R198). -/
def Node.clearGap (n : Node) (id : Fin 16) (page : Nat) : Node :=
  if 3 ≤ page then
    match n.matchSub id (pageChannel page) with
    | some i => n.setSub i { n.sub i with gap := false }
    | none => n
  else n

/-! ### Replies (R195) -/

/-- A REPLY: kind, argument and page of the query, and the contents (12.2). -/
def Node.reply (n : Node) (f : RxFrame) (contents : List Byte) : Node :=
  n.sendReply f.header.sender
    ([byteAt f.payload 0, byteAt f.payload 1, byteAt f.payload 2] ++ contents)

/-- STATUS is answered in ACTIVE and in CONFIG-FAULT (R189, R196). -/
def Node.takeStatus (n : Node) (f : RxFrame) : Node := n.reply f (n.statusPage (natAt f.payload 2))

def Node.takeSegmentQuery (n : Node) (f : RxFrame) : Node :=
  if n.active then n.reply f (n.segmentPage (natAt f.payload 1) (natAt f.payload 2)) else n

def Node.takeResultQuery (n : Node) (f : RxFrame) : Node :=
  if n.active then n.reply f (n.resultPage (natAt f.payload 2)) else n

def Node.takeHealthQuery (n : Node) (f : RxFrame) : Node :=
  if n.active then n.reply f (n.healthPage (natAt f.payload 2)) else n

/-- The station id a PEER query names. -/
def queryId (f : RxFrame) : Fin 16 := stationId ((byteAt f.payload 1).extractLsb' 0 4)

def Node.takePeerQuery (n : Node) (f : RxFrame) : Node :=
  if n.active then
    (n.reply f (n.peerPage (queryId f) (natAt f.payload 2))).clearGap (queryId f) (natAt f.payload 2)
  else n

/-- A query with an unknown kind, page or argument is answered with the refused bit set and no contents;
one of the wrong length receives no REPLY (R194, R195). In CONFIG-FAULT only a STATUS query is answered
(R189, log 20). -/
def Node.takeRefused (n : Node) (f : RxFrame) : Node :=
  if f.payload.length = 3 ∧ (n.active = true ∨ QueryKind.ofCode (byteAt f.payload 0) = some .status) then
    n.sendReply f.header.sender
      [byteAt f.payload 0, byteAt f.payload 1, byteAt f.payload 2 ||| 0x80]
  else n

/-! ### The commands -/

/-- QUERY_STATUS (R196). -/
def execQueryStatus (s : State) : Host.Outcome State Fault Refusal :=
  s.ran (s.node.deliver (.query .status) Node.takeStatus)

/-- QUERY_SEGMENT (R197). -/
def execQuerySegment (s : State) : Host.Outcome State Fault Refusal :=
  s.ran (s.node.deliver (.query .segment) Node.takeSegmentQuery)

/-- QUERY_RESULT (R174). -/
def execQueryResult (s : State) : Host.Outcome State Fault Refusal :=
  s.ran (s.node.deliver (.query .result) Node.takeResultQuery)

/-- QUERY_HEALTH (R198). -/
def execQueryHealth (s : State) : Host.Outcome State Fault Refusal :=
  s.ran (s.node.deliver (.query .health) Node.takeHealthQuery)

/-- QUERY_PEER (R96). -/
def execQueryPeer (s : State) : Host.Outcome State Fault Refusal :=
  s.ran (s.node.deliver (.query .peer) Node.takePeerQuery)

/-- QUERY_REFUSED (R195). -/
def execQueryRefused (s : State) : Host.Outcome State Fault Refusal :=
  s.ran (s.node.deliver .queryRefused Node.takeRefused)

end Sys2Proof.Machine
end

