-- ==== Sys2Proof/Machine/BusEvents.lean ====
section
/-! DEFINITION. The frame bus rows: runs and frames heard (R63 to R69), the node's own attempts (R70 to
R73), yields (R71) and the pending RESULT (R76). -/
namespace Sys2Proof.Machine

/-! ### The receiver (R63, R65, R70) -/

/-- The node hears another station: its bus is live and it is not transmitting (R66, R68). -/
def Node.hears (n : Node) : Bool := n.fbcLive && n.fbc.onLine.isNone

/-- A run ends with a stop bit: the line is idle and the idle count 0 (R70). -/
def Fbc.runEnded (b : Fbc) (r : RxState) : Fbc :=
  { b with receiver := r, ownRun := false, lineBusy := false, idleCount := 0, bitPhase := 0 }

/-- One whole idle bit-time after a run: the receiver waits for the next start bit (R65, R70). -/
def Fbc.idleBit (b : Fbc) : Fbc :=
  { b with receiver := .hunting, ownRun := false, lineBusy := false, idleCount := 1, bitPhase := 0 }

/-- Characters are skipped until the line goes idle (R63, R65). -/
def Fbc.skips (b : Fbc) : Fbc := { b with receiver := .skipping, lineBusy := true }

/-- The leading edge of another station's start bit (R65, R66, R70). -/
def Fbc.runStarted (b : Fbc) (now : Time) : Fbc :=
  match b.receiver with
  | .hunting => { b with receiver := .receiving, rxStamp := now, lineBusy := true }
  | _ => { b with lineBusy := true }

def Node.runStart (n : Node) : Node := if n.hears then n.setFbc (n.fbc.runStarted n.now) else n

/-- The line has stayed idle for one whole bit-time after a FRAMING error (R65). -/
def Node.skippingEnd (n : Node) : Node :=
  if n.hears && n.fbc.receiver == .skipping then n.setFbc n.fbc.idleBit else n

/-- The receiver after an error (R65). -/
def Fbc.afterError (b : Fbc) : ReceiveError → Fbc
  | .stopBit => b.skips
  | .lengthAbove32 => b.skips
  | .startAfterComplete => b.skips
  | .wentIdle => b.idleBit
  | .check => b.runEnded .hunting

/-- The receiver state in which an error can be revealed (R65). -/
def ReceiveError.arisesIn : ReceiveError → RxState
  | .startAfterComplete => .hunting
  | _ => .receiving

/-- A frame is discarded on a FRAMING or CHECK error, with its health update (R65); the remainder of an
abandoned attempt of the node's own is a collision, which does not reach the health monitor (R181, log 21). -/
def Node.receiveError (n : Node) (e : ReceiveError) : Node :=
  if n.hears && n.fbc.receiver == ReceiveError.arisesIn e then
    let n' := n.setFbc (n.fbc.afterError e)
    if n.fbc.ownRun then n' else n'.health .bus 1
  else n

/-! ### A completed frame (R66 to R68) -/

/-- The frame is addressed to this node (R66). -/
def Node.addressed (n : Node) (h : Header) : Bool := h.broadcast || h.target == n.nodeId

/-- The channel of a SAMPLE frame is one the node is subscribed to (R66). -/
def Node.sampleTaken (n : Node) (h : Header) (p : List Byte) : Bool :=
  match p with
  | [] => false
  | b :: _ =>
    match Channel.ofCode b with
    | some ch => (n.matchSub h.sender ch).isSome
    | none => false

/-- The kind of a frame that is taken, and none for one that is dropped with no error count (R66). -/
def Node.takenKind (n : Node) (h : Header) (p : List Byte) : Option MsgKind :=
  match MsgKind.ofCode h.cls h.kind with
  | none => none
  | some k =>
    if n.addressed h then
      match k with
      | .reply => none
      | .result => none
      | .sample => if n.sampleTaken h p then some .sample else none
      | k => some k
    else none

/-- The capacities of the receive queues (R67). -/
def urgentCapacity : Nat := 2
def normalCapacity : Nat := 6

/-- A taken frame joins its queue, or is discarded as OVERRUN (R65, R67). -/
def Node.enqueue (n : Node) (k : MsgKind) (f : RxFrame) : Node :=
  match k.cls with
  | .urgent =>
    if n.fbc.urgentQ.length < urgentCapacity then
      n.setFbc { n.fbc with urgentQ := n.fbc.urgentQ ++ [f] }
    else n.health .bus 1
  | _ =>
    if n.fbc.normalQ.length < normalCapacity then
      n.setFbc { n.fbc with normalQ := n.fbc.normalQ ++ [f] }
    else n.health .bus 1

/-- The header facts of a frame, with its receive stamp (R66). -/
def factsOf (h : Header) (rx : Time) : HeaderFacts :=
  ⟨h.sender, h.cls, h.kind, h.seq, h.stamp, rx⟩

/-- A valid frame of another station: header facts, and a place in a queue where it is taken (R66). -/
def Node.hearPeer (n : Node) (h : Header) (p : List Byte) : Node :=
  let n' := n.setFbc { n.fbc with facts := n.fbc.facts ++ [factsOf h n.fbc.rxStamp] }
  match n.takenKind h p with
  | some k => n'.enqueue k ⟨h, p, n.fbc.rxStamp⟩
  | none => n'

/-- A valid frame bearing the node's own id (R68, R69). -/
def Node.hearOwn (n : Node) : Node := if n.seq.op = .silent then n else n.enterSilent

/-- A valid frame completes (R66, R68). -/
def Node.completeFrame (n : Node) (h : Header) (p : List Byte) : Node :=
  let n := n.setFbc (n.fbc.runEnded .hunting)
  if h.sender = n.nodeId then n.hearOwn else n.hearPeer h p

/-- The characters of a frame have been received; those that do not make a valid frame are judged as
the error they are (R63 to R66). -/
def Node.receive (n : Node) (chars : List Byte) : Node :=
  if n.hears && n.fbc.receiver == .receiving then
    match judge chars with
    | .valid h p => n.completeFrame h p
    | .lengthAbove32 => n.receiveError .lengthAbove32
    | .short => n.receiveError .wentIdle
    | .check => n.receiveError .check
  else n

/-! ### Attempts, yields, the pending RESULT (R70 to R73, R76) -/

def Node.attemptStart (n : Node) : Node :=
  match n.contender with
  | some (h, f) => n.startAttempt h f
  | none => n

def Node.attemptEnd (n : Node) (readBack : List LineChar) : Node :=
  match n.fbc.onLine with
  | some o =>
    match readBackJudged o.chars readBack with
    | some .equal => n.setFbc (n.fbc.sent o)
    | some .differs => n.attemptFailed o false
    | some .framing => n.attemptFailed o true
    | none => n
  | none => n

/-- The idle count has passed the top of a class's window: for BULK the count that passes 107 becomes 0
(R70, R71). -/
def windowPassed (c : FrameClass) (count : Nat) : Bool :=
  match c with
  | .bulk => count == 0
  | c => decide (windowTop c < count)

/-- The idle count passes the top of a class's window with nobody starting (R71); in SILENT the yields are
kept (R80). -/
def Node.windowPasses (n : Node) (c : FrameClass) : Node :=
  if n.hears && n.seq.op != .silent && !n.fbc.lineBusy && windowPassed c n.fbc.idleCount then
    n.setFbc { n.fbc with yields := n.fbc.yields.set c false }
  else n

def Node.pendingEntry (n : Node) : Node := n.setFbc (n.fbc.settlePending n.now)

/-! ### The commands -/

/-- RUN_START (R70). -/
def execRunStart (s : State) : Host.Outcome State Fault Refusal := s.ran s.node.runStart

/-- SKIPPING_END (R65). -/
def execSkippingEnd (s : State) : Host.Outcome State Fault Refusal := s.ran s.node.skippingEnd

/-- FRAME_RECEIVED (R66). -/
def execFrameReceived (chars : List Byte) (s : State) : Host.Outcome State Fault Refusal :=
  s.ran (s.node.receive chars)

/-- FRAME_RECEIVE_ERROR (R65). -/
def execFrameReceiveError (error : ReceiveError) (s : State) : Host.Outcome State Fault Refusal :=
  s.ran (s.node.receiveError error)

/-- ATTEMPT_START (R70). -/
def execAttemptStart (s : State) : Host.Outcome State Fault Refusal := s.ran s.node.attemptStart

/-- ATTEMPT_END (R72). -/
def execAttemptEnd (readBack : List LineChar) (s : State) : Host.Outcome State Fault Refusal :=
  s.ran (s.node.attemptEnd readBack)

/-- YIELD_PENDING_CLEAR (R71). -/
def execYieldPendingClear (cls : FrameClass) (s : State) : Host.Outcome State Fault Refusal :=
  s.ran (s.node.windowPasses cls)

/-- PENDING_RESULT_ENTRY (R76). -/
def execPendingResultEntry (s : State) : Host.Outcome State Fault Refusal := s.ran s.node.pendingEntry

end Sys2Proof.Machine
end

