-- ==== Sys2Proof/Machine/PeerEvents.lean ====
section
/-! DEFINITION. The peer table rows: header facts, arrivals of SAMPLE, PRESENCE and STATE, and its timers;
and the deliveries of MARK, HALT, BREAK and of the frames a SILENT node discards. -/
namespace Sys2Proof.Machine

/-! ### Header facts and arrivals (R82, R86, R89) -/

/-- The header facts handed over first are taken (R82). -/
def Node.factsArrive (n : Node) : Node :=
  match n.fbc.facts with
  | f :: rest => (n.setFbc { n.fbc with facts := rest }).takeFacts f
  | [] => n

/-- The subscription of a SAMPLE frame (R66, R88). -/
def Node.subOfSample (n : Node) (f : RxFrame) : Option (Fin 4) :=
  (Channel.ofCode (byteAt f.payload 0)).bind fun ch => n.matchSub f.header.sender ch

/-- A SAMPLE arrives at the peer table; one that is entered is offered to its consumers (R89). -/
def Node.takeSample (n : Node) (f : RxFrame) : Node :=
  match n.subOfSample f with
  | some i =>
    match n.judgeSample i f with
    | (n', some e) => n'.consumeSub i e
    | (n', none) => n'
  | none => n

/-! ### Timers (R85, R87, R91) -/

def Node.reseedTimer (n : Node) (i : Fin 16) : Node :=
  if due n.now (n.peer i).reseedAt then n.reseedExpires i else n

def Node.silenceTimer (n : Node) (i : Fin 16) : Node :=
  if due n.now (n.peer i).silenceAt then n.silenceExpires i else n

/-- PARTNER-LOST at a staleness expiry that finds the generator RUNNING or STOPPING (R39). -/
def Node.partnerStale (n : Node) : Node :=
  if n.driveLive && n.tsg.gen.moving then n.localCause .partnerLost else n

/-- A staleness expiry is delivered to the users of its subscription (R92; their order is log 6). -/
def Node.deliverStale (n : Node) (i : Fin 4) : Node :=
  match n.subCfg i with
  | some c =>
    match c.use with
    | .loadSource => (n.cmuStale i).loadLost
    | .strainSource => n.cmuStale i
    | .partnerTravel => n.partnerStale
    | .otherTravel => n
  | none => n

def Node.stalenessTimer (n : Node) (i : Fin 4) : Node :=
  if n.inService && due n.now (n.sub i).staleAt then (n.goesStale i).deliverStale i else n

/-! ### The commands -/

/-- HEADER_FACTS (R82). -/
def execHeaderFacts (s : State) : Host.Outcome State Fault Refusal := s.ran s.node.factsArrive

/-- SAMPLE_ARRIVAL (R89). -/
def execSampleArrival (s : State) : Host.Outcome State Fault Refusal :=
  s.ran (s.node.deliver .sample Node.takeSample)

/-- PRESENCE (R86). -/
def execPresence (s : State) : Host.Outcome State Fault Refusal :=
  s.ran (s.node.deliver .presence Node.takePresence)

/-- STATE (R86). -/
def execStateNotice (s : State) : Host.Outcome State Fault Refusal :=
  s.ran (s.node.deliver .state Node.takeState)

/-- RESEED_TIMER_EXPIRY (R85). -/
def execReseedTimerExpiry (peer : Fin 16) (s : State) : Host.Outcome State Fault Refusal :=
  s.ran (s.node.reseedTimer peer)

/-- SILENCE_TIMER_EXPIRY (R87). -/
def execSilenceTimerExpiry (peer : Fin 16) (s : State) : Host.Outcome State Fault Refusal :=
  s.ran (s.node.silenceTimer peer)

/-- STALENESS_EXPIRY (R91). -/
def execStalenessExpiry (sub : Fin 4) (s : State) : Host.Outcome State Fault Refusal :=
  s.ran (s.node.stalenessTimer sub)

/-- SILENT_DISCARD (R67): the frame is delivered to no block. -/
def execSilentDiscard (s : State) : Host.Outcome State Fault Refusal :=
  s.ran (s.node.deliver .silentDiscard fun n _ => n)

/-- MARK (R134). -/
def execMark (s : State) : Host.Outcome State Fault Refusal := s.ran (s.node.deliver .mark Node.takeMark)

/-- HALT (R143). -/
def execHalt (s : State) : Host.Outcome State Fault Refusal := s.ran (s.node.deliver .halt Node.takeHalt)

/-- BREAK (R150). -/
def execBreak (s : State) : Host.Outcome State Fault Refusal := s.ran (s.node.deliver .break_ Node.takeBreak)

end Sys2Proof.Machine
end

