-- ==== Sys2Proof/Machine/MeasureEvents.lean ====
section
/-! DEFINITION. The rows of the machine lines and the paced events: power and reset, image, conversion,
encoders, pacer, generator, arms, STOP, segment clock, and the timers of the CMU, EXH and EVL. -/
namespace Sys2Proof.Machine

/-! ### Power and start (R186, R187) -/

/-- Power-on: start values, and the image read begins unless RESET is asserted (R186, log 30). -/
def Node.powerOn (n : Node) : Node := startValues n.pins !n.pins.resetPin

/-- RESET asserted: the node is held at its start values and reads nothing (R186). -/
def Node.resetAssert (n : Node) : Node := startValues { n.pins with resetPin := true } false

/-- RESET released: the node starts as at power-on (R186). -/
def Node.resetRelease (n : Node) : Node := startValues { n.pins with resetPin := false } true

/-- The image transfer completes, where a read is in progress (R187). -/
def Node.imageComplete (n : Node) (image : List Byte) : Node :=
  if n.seq.op == .starting && n.sul.reading then n.imageRead image else n

/-! ### Conversion, encoder, pacer, generator (R1, R21, R28, R31, R24) -/

/-- A conversion completes with a raw code (R1). -/
def Node.conversion (n : Node) (code : Int) : Node :=
  if n.lcLive && within fullScale code then
    (n.setPins { n.pins with bridge := code }).convert code
  else n

/-- A change of the drive encoder's accepted pair (R21). -/
def Node.encoderEvent (n : Node) (a b : Bool) : Node :=
  if n.driveLive then
    (n.acceptEncoder a b).encoderStep
      (quadStep n.filters.encA.accepted n.filters.encB.accepted a b)
  else n

def Node.pacerExpiry (n : Node) (lo hi : Bool) : Node :=
  if n.driveLive then (n.sampleLimits lo hi).pacer else n

def Node.genUnderflow (n : Node) : Node := if n.driveLive then n.underflow else n

def Node.genPulseEnd (n : Node) : Node :=
  if n.driveLive && n.tsg.gen.stepHigh then n.pulseEnds else n

def Node.runDownTimer (n : Node) : Node :=
  if n.driveLive && due n.now n.tsg.gen.runDownAt then n.runDownEnds else n

/-! ### Extensometer (R42, R43, R48, R57) -/

/-- An arm event acts on that arm's count, or sets its fault flag (R42). -/
def ArmState.stepped (x : ArmState) : QuadStep → ArmState
  | .unchanged => x
  | .up => { x with count := x.count + 1 }
  | .down => { x with count := x.count - 1 }
  | .error => { x with fault := true }

/-- The new accepted pair of an arm's lines. -/
def Node.acceptArm (n : Node) (arm : Arm) (a b : Bool) : Node :=
  let f := n.filters
  let p := n.pins
  match arm with
  | .one => (n.setPins { p with arm1A := f.arm1A.raw p.arm1A a, arm1B := f.arm1B.raw p.arm1B b }).setFilters
      { f with arm1A := f.arm1A.accept a, arm1B := f.arm1B.accept b }
  | .two => (n.setPins { p with arm2A := f.arm2A.raw p.arm2A a, arm2B := f.arm2B.raw p.arm2B b }).setFilters
      { f with arm2A := f.arm2A.accept a, arm2B := f.arm2B.accept b }

/-- What a new accepted pair of an arm tells (R21, R42). -/
def Node.armStep (n : Node) (arm : Arm) (a b : Bool) : QuadStep :=
  match arm with
  | .one => quadStep n.filters.arm1A.accepted n.filters.arm1B.accepted a b
  | .two => quadStep n.filters.arm2A.accepted n.filters.arm2B.accepted a b

def Exh.stepArm (x : Exh) (arm : Arm) (s : QuadStep) : Exh :=
  match arm with
  | .one => { x with arm1 := x.arm1.stepped s }
  | .two => { x with arm2 := x.arm2.stepped s }

/-- A change of an arm's accepted pair (R42). -/
def Node.armEvent (n : Node) (arm : Arm) (a b : Bool) : Node :=
  if n.extLive then (n.acceptArm arm a b).setExh (n.exh.stepArm arm (n.armStep arm a b)) else n

/-- Readings from publish point to publish point (R43). -/
def Node.strainEvery (n : Node) : Nat := 2000 / n.img.strainRate

/-- The sample stage of a publish point (R46); the order of its parts is log 6. -/
def Node.publishStrain (n : Node) (r : Reading) (e : StrainEntry) : Node :=
  let n' := n.sendSample .strain
    (samplePayload .strain e.entry.flags n.exh.st.code e.entry.time e.entry.value)
  ((n'.setExh (n'.exh.published e)).handDisagree r e).consumeStrain e.entry

/-- The stages of a publish point after the slip check: sample, learning, release (R43). -/
def Node.strainPoint (n : Node) (r : Reading) : Node :=
  let e := n.strainSample r
  ((n.publishStrain r e).learnStage).releaseStage e.entry

/-- An arm reading (R43): the open pair is judged (R57, R58), the slip check made, and at a publish point
the other stages follow. -/
def Node.reading (n : Node) : Node :=
  let n := n.judgeOpen.slipStage
  let r := n.exh.reading n.img.drive.armScale
  if n.exh.pubCount + 1 = n.strainEvery then
    (n.setExh { n.exh with pubCount := 0 }).strainPoint r
  else n.setExh { n.exh with pubCount := n.exh.pubCount + 1 }

def Node.armReading (n : Node) : Node := if n.extLive then n.reading else n

/-- The arm-closed inputs change (R48, R49, R57, R58). -/
def Node.armClosedChange (n : Node) (arm1 arm2 : Bool) : Node :=
  let n := n.setPins { n.pins with arm1Closed := arm1, arm2Closed := arm2 }
  if n.extLive then n.judgeOpen.followInputs else n

/-- The release timeout expires in RELEASING; it does not run again (R57). -/
def Node.releaseTimer (n : Node) : Node :=
  if n.extLive && n.exh.st == .releasing && due n.now n.exh.releaseAt then
    (n.setExh { n.exh with releaseAt := none }).localCause .extReleaseFault
  else n

/-! ### CMU, SEQ, HLT, EVL (R110, R127, R146, R170) -/

/-- The lock timer expires, or its report that a close overtook is taken (R110, R114). -/
def Node.lockTimer (n : Node) : Node :=
  if n.driveLive then
    if n.cmu.lateTimeout then n.lateLockTimeout
    else if due n.now n.cmu.lockAt then n.lockTimeout
    else n
  else n

/-- The STOP input is sampled (R146). -/
def Node.stopSample (n : Node) (asserted : Bool) : Node :=
  if n.inService then (n.setPins { n.pins with stop := asserted }).sampleStop asserted else n

/-- The segment clock expires (R127, R128). -/
def Node.segmentClock (n : Node) : Node :=
  match n.seq.test with
  | some .running =>
    (n.reportSeg fun e => { e with elapsed := e.elapsed + 1 }).watchTime
  | some .paused => n.setSeq { n.seq with pauseTime := n.seq.pauseTime + 1 }
  | _ => n

def Node.drainTimer (n : Node) : Node :=
  if n.collecting && n.evl.closing.isSome && due n.now n.evl.drainAt then n.drainLimit else n

/-! ### The commands -/

/-- POWER_ON (R186). -/
def execPowerOn (s : State) : Host.Outcome State Fault Refusal := s.ran s.node.powerOn

/-- RESET_ASSERT (R186). -/
def execResetAssert (s : State) : Host.Outcome State Fault Refusal := s.ran s.node.resetAssert

/-- RESET_RELEASE (R186). -/
def execResetRelease (s : State) : Host.Outcome State Fault Refusal := s.ran s.node.resetRelease

/-- IMAGE_READ_COMPLETE (R187). -/
def execImageReadComplete (image : List Byte) (s : State) : Host.Outcome State Fault Refusal :=
  s.ran (s.node.imageComplete image)

/-- CONVERSION_COMPLETE (R1). -/
def execConversionComplete (code : Int) (s : State) : Host.Outcome State Fault Refusal :=
  s.ran (s.node.conversion code)

/-- ENCODER_EVENT (R21). -/
def execEncoderEvent (a b : Bool) (s : State) : Host.Outcome State Fault Refusal :=
  s.ran (s.node.encoderEvent a b)

/-- DRIVE_PACER_EXPIRY (R28). -/
def execDrivePacerExpiry (limLo limHi : Bool) (s : State) : Host.Outcome State Fault Refusal :=
  s.ran (s.node.pacerExpiry limLo limHi)

/-- GENERATOR_UNDERFLOW (R31). -/
def execGeneratorUnderflow (s : State) : Host.Outcome State Fault Refusal := s.ran s.node.genUnderflow

/-- STEP_PULSE_END (R31). -/
def execStepPulseEnd (s : State) : Host.Outcome State Fault Refusal := s.ran s.node.genPulseEnd

/-- RUN_DOWN_TIMER_EXPIRY (R24). -/
def execRunDownTimerExpiry (s : State) : Host.Outcome State Fault Refusal := s.ran s.node.runDownTimer

/-- ARM_EVENT (R42). -/
def execArmEvent (arm : Arm) (a b : Bool) (s : State) : Host.Outcome State Fault Refusal :=
  s.ran (s.node.armEvent arm a b)

/-- ARM_READING (R43). -/
def execArmReading (s : State) : Host.Outcome State Fault Refusal := s.ran s.node.armReading

/-- ARM_CLOSED_CHANGE (R48). -/
def execArmClosedChange (arm1 arm2 : Bool) (s : State) : Host.Outcome State Fault Refusal :=
  s.ran (s.node.armClosedChange arm1 arm2)

/-- RELEASE_TIMEOUT_EXPIRY (R57). -/
def execReleaseTimeoutExpiry (s : State) : Host.Outcome State Fault Refusal := s.ran s.node.releaseTimer

/-- LOCK_TIMER_EXPIRY (R110). -/
def execLockTimerExpiry (s : State) : Host.Outcome State Fault Refusal := s.ran s.node.lockTimer

/-- STOP_INPUT_SAMPLE (R146). -/
def execStopInputSample (asserted : Bool) (s : State) : Host.Outcome State Fault Refusal :=
  s.ran (s.node.stopSample asserted)

/-- SEGMENT_CLOCK_EXPIRY (R127). -/
def execSegmentClockExpiry (s : State) : Host.Outcome State Fault Refusal := s.ran s.node.segmentClock

/-- DRAIN_LIMIT_EXPIRY (R170). -/
def execDrainLimitExpiry (s : State) : Host.Outcome State Fault Refusal := s.ran s.node.drainTimer

end Sys2Proof.Machine
end

