-- ==== Sys2Proof/Machine/Clock.lean ====
section
/-! DEFINITION. What a step does on an empty queue: one count of the 16 MHz oscillator (2.3), which counts,
filters and times, and raises the commands whose time has come (log 1, log 2). -/
namespace Sys2Proof.Machine

/-! ### Input filters (R21) -/

/-- One oscillator count of a line's filter. -/
def LineFilter.count (f : LineFilter) (raw : Bool) : LineFilter :=
  if raw = f.accepted then { f with timing := 0 } else { f with timing := f.timing + 1 }

/-- The raw level has stayed for the filter time. -/
def LineFilter.ripe (f : LineFilter) (counts : Nat) : Bool :=
  decide (0 < f.timing) && decide (counts ≤ f.timing)

/-- The level the filter accepts at this count. -/
def LineFilter.level (f : LineFilter) (counts : Nat) : Bool :=
  if f.ripe counts then !f.accepted else f.accepted

/-- The filters of a live pair count; the pair's event is raised when a level becomes accepted. -/
def pairEvent (a b : LineFilter) (counts : Nat) (event : Bool → Bool → Instr) : List Instr :=
  if a.ripe counts || b.ripe counts then [event (a.level counts) (b.level counts)] else []

/-- One count of the drive encoder's filters. -/
def Node.countDrive (n : Node) : Node :=
  if n.driveLive then
    n.setFilters { n.filters with encA := n.filters.encA.count n.pins.encA,
                                  encB := n.filters.encB.count n.pins.encB }
  else n

/-- One count of the arm encoders' filters. -/
def Node.countArms (n : Node) : Node :=
  if n.extLive then
    n.setFilters { n.filters with
      arm1A := n.filters.arm1A.count n.pins.arm1A, arm1B := n.filters.arm1B.count n.pins.arm1B
      arm2A := n.filters.arm2A.count n.pins.arm2A, arm2B := n.filters.arm2B.count n.pins.arm2B }
  else n

/-- The encoder events of this count. -/
def Node.filterEvents (n : Node) : List Instr :=
  let f := n.filters
  let c := n.img.drive.filterCounts
  (if n.driveLive then pairEvent f.encA f.encB c .encoderEvent else []) ++
  (if n.extLive then
    pairEvent f.arm1A f.arm1B c (.armEvent .one) ++ pairEvent f.arm2A f.arm2B c (.armEvent .two)
  else [])

/-! ### Generator (2.4) -/

/-- One count of the generator: the pulse in progress, then the counter. -/
def Gen.count (g : Gen) : Gen :=
  { g with pulseLeft := g.pulseLeft - 1, counter := if g.moving then g.counter - 1 else g.counter }

def Node.countGen (n : Node) : Node := if n.driveLive then n.setGen n.tsg.gen.count else n

/-- The generator's events of this count: a pulse that ends, and an underflow (R31). -/
def Node.genEvents (n : Node) : List Instr :=
  let g := n.tsg.gen
  if n.driveLive then
    (if g.stepHigh && g.pulseLeft == 0 then [.stepPulseEnd] else []) ++
    (if g.moving && g.counter == 0 then [.generatorUnderflow] else [])
  else []

/-! ### Idle count (R70, R71) -/

/-- The idle count is advanced: the bus is live, the line idle, and the node not SILENT (R70, R80). -/
def Node.idleRuns (n : Node) : Bool := n.hears && n.seq.op != .silent && !n.fbc.lineBusy

/-- Oscillator counts of a bit-time (R62). -/
def Node.bitCounts (n : Node) : Nat := 16 / n.img.lineRate

/-- This count ends a bit-time of an idle line. -/
def Node.bitEnds (n : Node) : Bool := n.idleRuns && decide (n.bitCounts ≤ n.fbc.bitPhase + 1)

/-- The idle count after a further idle bit-time (R70). -/
def nextIdle (c : Nat) : Nat := if c + 1 < 108 then c + 1 else 0

def Node.countBit (n : Node) : Node :=
  if n.bitEnds then n.setFbc { n.fbc with bitPhase := 0, idleCount := nextIdle n.fbc.idleCount }
  else if n.idleRuns then n.setFbc { n.fbc with bitPhase := n.fbc.bitPhase + 1 }
  else n

/-- The yield whose window the count has just passed (R71). -/
def Node.yieldEvent (n : Node) (c : FrameClass) : List Instr :=
  if n.fbc.yields.get c && n.fbc.idleCount == (windowTop c + 1) % 108 then [.yieldPendingClear c] else []

/-- The access engine's events after a bit-time has ended. -/
def Node.idleEvents (n : Node) : List Instr :=
  n.yieldEvent .urgent ++ n.yieldEvent .sample ++ n.yieldEvent .bulk ++
    if n.contender.isSome then [.attemptStart] else []

/-! ### Local time and paces (R81) -/

/-- One phase of a pace of `every` microseconds: the phase after, and whether it expires. -/
def phase (every p : Nat) : Nat := if p + 1 < every then p + 1 else 0

/-- The phases after a microsecond; a pace runs while its block is live (R1, R28, R43, R127, R146). The local time
moves on from that of the last request (R108, log 40). -/
def Node.countMicro (n : Node) : Node :=
  let c := n.clk
  (n.setCmu { n.cmu with requestNow := false }).setClk
    { divider := 0
      time := c.time + 1
      conv := if n.lcLive then phase 500 c.conv else c.conv
      pacer := if n.driveLive then phase 1000 c.pacer else c.pacer
      reading := if n.extLive then phase 500 c.reading else c.reading
      segment := if n.inService then phase 1000 c.segment else c.segment
      stop := if n.inService then phase 1000 c.stop else c.stop }

/-- The paced events of a microsecond. -/
def Node.paceEvents (n : Node) : List Instr :=
  let c := n.clk
  (if n.lcLive && c.conv == 0 then [.conversionComplete n.pins.bridge] else []) ++
  (if n.driveLive && c.pacer == 0 then [.drivePacerExpiry n.pins.limLo n.pins.limHi] else []) ++
  (if n.extLive && c.reading == 0 then [.armReading] else []) ++
  (if n.inService && c.segment == 0 then [.segmentClockExpiry] else []) ++
  (if n.inService && c.stop == 0 then [.stopInputSample n.pins.stop] else [])

/-- A timer that has run out raises its expiry. -/
def Node.expiry (n : Node) (timer : Option Time) (event : Instr) : List Instr :=
  if due n.now timer then [event] else []

/-- The one-shot timers of the drive, the extensometer and the evaluator. -/
def Node.blockTimers (n : Node) : List Instr :=
  (if n.driveLive then n.expiry n.tsg.gen.runDownAt .runDownTimerExpiry ++
    n.expiry n.cmu.lockAt .lockTimerExpiry else []) ++
  (if n.extLive then n.expiry n.exh.releaseAt .releaseTimeoutExpiry else []) ++
  (if n.collecting then n.expiry n.evl.drainAt .drainLimitExpiry else [])

/-- The ids of the peer table. -/
def allPeers : List (Fin 16) := [0, 1, 2, 3, 4, 5, 6, 7, 8, 9, 10, 11, 12, 13, 14, 15]

/-- The timers of the peer table (R85, R87, R91). -/
def Node.peerTimers (n : Node) : List Instr :=
  (if n.inService then allSubs.flatMap fun i => n.expiry (n.sub i).staleAt (.stalenessExpiry i) else []) ++
  allPeers.flatMap fun i =>
    n.expiry (n.peer i).reseedAt (.reseedTimerExpiry i) ++
    n.expiry (n.peer i).silenceAt (.silenceTimerExpiry i)

/-- The microseconds the image transfer takes (R187). -/
def transferTime : Time := 8224

/-- The image transfer completes (R187). -/
def Node.transferEvent (n : Node) : List Instr :=
  if n.seq.op == .starting && n.sul.reading && n.now == transferTime then
    [.imageReadComplete n.pins.memory]
  else []

/-- The events of a microsecond. -/
def Node.microEvents (n : Node) : List Instr :=
  n.transferEvent ++ n.paceEvents ++ n.blockTimers ++ n.peerTimers

/-! ### Hand-overs and dispatch (R66, R67, R76) -/

/-- The row of a delivery. -/
def Arrival.row : Arrival → Instr
  | .sample => .sampleArrival
  | .presence => .presence
  | .state => .stateNotice
  | .command .start => .start
  | .command .pause => .pause
  | .command .resume => .resume
  | .command .abort => .abort
  | .command .clear => .clear
  | .command .zero => .zero
  | .command .balance => .balance
  | .command .jog => .jog
  | .command .stopJog => .stopJog
  | .command .frameReset => .frameReset
  | .unknownCommand => .unknownCommand
  | .order => .order
  | .segment => .segment
  | .query .status => .queryStatus
  | .query .segment => .querySegment
  | .query .result => .queryResult
  | .query .health => .queryHealth
  | .query .peer => .queryPeer
  | .queryRefused => .queryRefused
  | .silentDiscard => .silentDiscard
  | .mark => .markFrame
  | .halt => .haltFrame
  | .break_ => .breakFrame

/-- The dispatch of the frame that is next (R67). -/
def Node.dispatchEvent (n : Node) : List Instr :=
  match n.fbc.front with
  | some f => match n.arrival f with
    | some a => [a.row]
    | none => []
  | none => []

/-- The events that wait for no time: header facts, the pending RESULT, the next delivery. -/
def Node.waitingEvents (n : Node) : List Instr :=
  if n.fbcLive then
    (if n.fbc.facts.isEmpty then [] else [.headerFacts]) ++
    (if n.fbc.removal && n.fbc.pendingResult.isSome then [.pendingResultEntry] else []) ++
    n.dispatchEvent
  else []

/-! ### One oscillator count -/

/-- A count that completes a microsecond counts the local time; another counts the divider (R81). -/
def Node.countTime (n : Node) : Node :=
  if n.clk.divider + 1 < 16 then n.setClk { n.clk with divider := n.clk.divider + 1 } else n.countMicro

/-- The node after one oscillator count, and the commands it raises in the order of log 2. -/
def Node.oscillate (n : Node) : Node × List Instr :=
  let bit := n.bitEnds
  let micro := !decide (n.clk.divider + 1 < 16)
  let m := n.countDrive.countArms.countGen.countBit.countTime
  (m, m.filterEvents ++ m.genEvents ++ (if bit then m.idleEvents else []) ++
    (if micro then m.microEvents else []) ++ m.waitingEvents)

/-- A step on an empty queue: one oscillator count, unless RESET is held, where nothing counts (R186). -/
def State.tick (s : State) : State :=
  if s.node.pins.resetPin then s
  else { node := s.node.oscillate.1, pending := s.pending ++ s.node.oscillate.2 }

end Sys2Proof.Machine
end

