-- ==== Sys2Proof/Machine/Dispatch.lean ====
section
/-! DEFINITION. One arm per command: the direct call of its meaning. -/
namespace Sys2Proof.Machine

def exec (i : Instr) (s : State) : Host.Outcome State Fault Refusal :=
  match i with
  | .powerOn => Sys2Proof.Machine.execPowerOn s
  | .resetAssert => Sys2Proof.Machine.execResetAssert s
  | .resetRelease => Sys2Proof.Machine.execResetRelease s
  | .imageReadComplete image => Sys2Proof.Machine.execImageReadComplete image s
  | .conversionComplete code => Sys2Proof.Machine.execConversionComplete code s
  | .encoderEvent a b => Sys2Proof.Machine.execEncoderEvent a b s
  | .drivePacerExpiry limLo limHi => Sys2Proof.Machine.execDrivePacerExpiry limLo limHi s
  | .generatorUnderflow => Sys2Proof.Machine.execGeneratorUnderflow s
  | .runDownTimerExpiry => Sys2Proof.Machine.execRunDownTimerExpiry s
  | .armEvent arm a b => Sys2Proof.Machine.execArmEvent arm a b s
  | .armReading => Sys2Proof.Machine.execArmReading s
  | .armClosedChange arm1 arm2 => Sys2Proof.Machine.execArmClosedChange arm1 arm2 s
  | .releaseTimeoutExpiry => Sys2Proof.Machine.execReleaseTimeoutExpiry s
  | .frameReceived chars => Sys2Proof.Machine.execFrameReceived chars s
  | .frameReceiveError error => Sys2Proof.Machine.execFrameReceiveError error s
  | .headerFacts => Sys2Proof.Machine.execHeaderFacts s
  | .attemptStart => Sys2Proof.Machine.execAttemptStart s
  | .attemptEnd readBack => Sys2Proof.Machine.execAttemptEnd readBack s
  | .yieldPendingClear cls => Sys2Proof.Machine.execYieldPendingClear cls s
  | .pendingResultEntry => Sys2Proof.Machine.execPendingResultEntry s
  | .sampleArrival => Sys2Proof.Machine.execSampleArrival s
  | .reseedTimerExpiry peer => Sys2Proof.Machine.execReseedTimerExpiry peer s
  | .silenceTimerExpiry peer => Sys2Proof.Machine.execSilenceTimerExpiry peer s
  | .stalenessExpiry sub => Sys2Proof.Machine.execStalenessExpiry sub s
  | .lockTimerExpiry => Sys2Proof.Machine.execLockTimerExpiry s
  | .presence => Sys2Proof.Machine.execPresence s
  | .stateNotice => Sys2Proof.Machine.execStateNotice s
  | .start => Sys2Proof.Machine.execStart s
  | .pause => Sys2Proof.Machine.execPause s
  | .resume => Sys2Proof.Machine.execResume s
  | .abort => Sys2Proof.Machine.execAbort s
  | .clear => Sys2Proof.Machine.execClear s
  | .zero => Sys2Proof.Machine.execZero s
  | .balance => Sys2Proof.Machine.execBalance s
  | .jog => Sys2Proof.Machine.execJog s
  | .stopJog => Sys2Proof.Machine.execStopJog s
  | .frameReset => Sys2Proof.Machine.execFrameReset s
  | .unknownCommand => Sys2Proof.Machine.execUnknownCommand s
  | .order => Sys2Proof.Machine.execOrder s
  | .segment => Sys2Proof.Machine.execSegment s
  | .queryStatus => Sys2Proof.Machine.execQueryStatus s
  | .querySegment => Sys2Proof.Machine.execQuerySegment s
  | .queryResult => Sys2Proof.Machine.execQueryResult s
  | .queryHealth => Sys2Proof.Machine.execQueryHealth s
  | .queryPeer => Sys2Proof.Machine.execQueryPeer s
  | .queryRefused => Sys2Proof.Machine.execQueryRefused s
  | .silentDiscard => Sys2Proof.Machine.execSilentDiscard s
  | .markFrame => Sys2Proof.Machine.execMark s
  | .haltFrame => Sys2Proof.Machine.execHalt s
  | .breakFrame => Sys2Proof.Machine.execBreak s
  | .stopInputSample asserted => Sys2Proof.Machine.execStopInputSample asserted s
  | .segmentClockExpiry => Sys2Proof.Machine.execSegmentClockExpiry s
  | .drainLimitExpiry => Sys2Proof.Machine.execDrainLimitExpiry s
  | .stepPulseEnd => Sys2Proof.Machine.execStepPulseEnd s
  | .runStart => Sys2Proof.Machine.execRunStart s
  | .skippingEnd => Sys2Proof.Machine.execSkippingEnd s

end Sys2Proof.Machine
end

