-- ==== Sys2Proof/Machine/Step.lean ====
section
/-! DEFINITION. One step: the command at the front of the queue, or one oscillator count on an empty
queue (log 1). -/
namespace Sys2Proof.Machine

/-- The front command leaves the queue and runs; on an empty queue the oscillator counts once. -/
def step (s : State) : Host.Outcome State Fault Refusal :=
  match s.pending with
  | [] => .next s.tick
  | c :: rest => exec c { s with pending := rest }

/-- A word spells no command: no row of the command table gives bits, so the state stays (log 29). -/
def State.withFetchWord (s : State) (_nbits _w : Nat) : State := s

end Sys2Proof.Machine
end

