-- ==== Sys2Proof/Safety.lean ====
section
/-! DEFINITION. What the outside of the machine relies on: which frame a delivery takes, what an entry to
HALTED and a close leave, the bounds the manual sets to buffers and counts, the segment table, and the safety of
the halt. -/
namespace Sys2Proof.Machine

/-! ### Deliveries -/

/-- The frame `f` is dispatched next, and its delivery is `a` (R67). -/
def Node.delivers (n : Node) (a : Arrival) (f : RxFrame) : Prop :=
  n.fbcLive = true ∧ n.fbc.front = some f ∧ n.arrival f = some a

/-- The node with the frame that is dispatched next taken from its queue (R67). -/
def Node.popped (n : Node) : Node := n.setFbc n.fbc.popFront

/-! ### Outputs (R152) -/

/-- The drive after a direct stop: the three velocities 0, no jog, no pulse to come (R27, R36). -/
def Tsg.directlyStopped (t : Tsg) : Prop :=
  t.wanted = 0 ∧ t.commanded = 0 ∧ t.issued = 0 ∧ t.jog = .idle ∧ t.gen.st ≠ .running

/-- The STATE slot of `m` as a STATE notice of the ACTIVE node `n` leaves it (R75, R78): full, with the fill time it
had where it was full already, and this local time where it was empty. -/
def Node.notified (n m : Node) : Prop :=
  n.active = true → m.fbc.stateSlot =
    some ⟨broadcastFrame .state [], (n.fbc.stateSlot.map (·.fill)).getD n.now⟩

/-- `m` is the node `n` after it has entered HALTED with a cause and an originator: the record stands, FAULT
is asserted and DRV-EN low, the drive of a DRIVE node is directly stopped (R137, R141, R152), and a node that is
ACTIVE still has a STATE notice in its slot (R78). -/
def Node.haltedBy (n m : Node) (cause : HaltCause) (originator : Fin 16) : Prop :=
  m.seq.test = some .halted ∧ m.hlt.record = some ⟨cause, originator, n.now, true⟩ ∧
    m.faultOut = true ∧ m.drvEn = false ∧ (n.roles.drive = true → m.tsg.directlyStopped) ∧
    (m.active = true → n.notified m)

/-- The OPEN entry of `n`, if there is one, stands CLOSED in `m` with its outcome (R130): the cause, the open time
and the close time `t`, the elapsed count, and at `t` the strain, the force and the crosshead test travel that the
histories of `n` answer, each absent where its history is empty; its fields, first lock time and exception summary
stand as they were. -/
def Node.closedBy (n m : Node) (cause : CloseCause) (t : Time) : Prop :=
  ∀ e, n.seq.openEntry = some e → m.seq.segs[n.seq.cursor] = { e with
    status := .closed
    outcome := some
      { cause := cause, openTime := e.openTime, closeTime := t, elapsed := e.elapsed
        strain := (answerNewest n.strainHist t).map (·.value)
        force := (answerNewest n.loadHist t).map (·.value)
        travel := n.travelAt t } }

/-- An entry with these fields is not met at its opening (R128): its end kind is not YIELD-SEEN, or yield has not been
seen, or the node does not judge it. -/
def Node.staysOpen (n : Node) (f : SegFields) : Prop :=
  f.endKind ≠ .yieldSeen ∨ n.seq.yieldSeen = false ∨ n.roles.eval = false ∨ n.seq.test ≠ some .running

/-! ### The generator (R30, R32, R33) -/

/-- What an issued velocity `v` makes of the generator at a pacer expiry that halts nothing (R30): 0 asks a RUNNING
generator to stop; another starts it from STOPPED with a full period, clears the run-down mark, and else withdraws a
stop requested and sets the period, with an early reload that ends a pulse still high where the counter stands above
it (R32). -/
def Node.retimed (n : Node) (v : Int) (g : Gen) : Prop :=
  let old := n.tsg.gen
  let p := (clamp 16 16777215 (roundDiv (16000000 * n.img.drive.step) v.natAbs)).toNat
  let run : Gen := { old with st := .running, period := p, dirPos := decide (0 < v) }
  (v = 0 → g = { old with st := if old.st = .running then .stopping else old.st }) ∧
    (v ≠ 0 → old.st = .stopped → g = { run with counter := p, runDown := false, runDownAt := none }) ∧
    (v ≠ 0 → old.st ≠ .stopped → p < old.counter →
      g = { run with counter := p, stepHigh := false, pulseLeft := 0 }) ∧
    (v ≠ 0 → old.st ≠ .stopped → old.counter ≤ p → g = run)

/-! ### START (R122) -/

/-- The first five checks of R122 pass for a START with a test id: the order held has that id and is complete,
entry 0 is LOADED, the load channel of a LOAD node has nothing in flight, the last sample found STOP released (log 13), and entry 0 of a DRIVE node does not move toward a violated side. -/
def Node.mayStart (n : Node) (testId : Nat) : Prop :=
  (∃ o, n.seq.order = some o ∧ o.testId = testId ∧ o.part1 ≠ none ∧ o.part2 ≠ none ∧ o.part3 ≠ none) ∧
    n.seq.segs[0].status = .loaded ∧
    (n.roles.load = true → n.lc.balance = none ∧ n.lc.zero = none) ∧ n.hlt.stopFound = false ∧
    (n.roles.drive = true → n.tsg.towardViolated n.seq.segs[0].fields.motion = false)

/-! ### Bounds of buffers and counts -/

/-- Receive queues (R67), bulk FIFO (R76), idle count (R70) and collision count (R72). -/
def Fbc.bounded (b : Fbc) : Prop :=
  b.urgentQ.length ≤ 2 ∧ b.normalQ.length ≤ 6 ∧ b.fifo.length ≤ 8 ∧ b.idleCount ≤ 107 ∧
    b.collisions ≤ 65535

/-- The codes a zero in flight has collected (R11). -/
def codesOf : Option ZeroOp → Nat
  | none => 0
  | some z => z.count

/-- LOAD history (R6), settle count (R8), downward count (R9) and a zero's codes (R11). -/
def Lc.bounded (l : Lc) : Prop :=
  l.hist.length ≤ 8 ∧ l.settle ≤ 4 ∧ l.down < 64 ∧ codesOf l.zero < 16

/-- TRAVEL history (R25). -/
def Tsg.bounded (t : Tsg) : Prop := t.hist.length ≤ 8

/-- STRAIN history (R46). -/
def Exh.bounded (x : Exh) : Prop := x.hist.length ≤ 8

/-- Missed counts (R83) and outlier count (R85) of a peer. -/
def Peer.bounded (p : Peer) : Prop :=
  p.outliers ≤ 3 ∧ p.missed.urgent ≤ 65535 ∧ p.missed.sample ≤ 65535 ∧ p.missed.bulk ≤ 65535

/-- Subscription histories (R90) and peer entries. -/
def Pta.bounded (t : Pta) : Prop :=
  (∀ i : Fin 4, t.subs[i].hist.length ≤ 8) ∧ ∀ i : Fin 16, t.peers[i].bounded

/-- Pairing queue (9.2) and break-scan queue (R167). -/
def Evl.bounded (e : Evl) : Prop := e.queue.length ≤ 16 ∧ e.scan.length ≤ 16

/-- The worst value of a score is not above its value nor above 100, and neither is below 0 (R176, R177). -/
def Score.bounded (s : Score) : Prop := 0 ≤ s.worst ∧ s.worst ≤ s.value ∧ s.worst ≤ 100

def Hlm.bounded (h : Hlm) : Prop := ∀ a, (h.get a).bounded

/-- Every buffer and count of the node keeps the bound the manual sets it. -/
structure Node.Bounded (n : Node) : Prop where
  fbc : n.fbc.bounded
  lc : n.lc.bounded
  tsg : n.tsg.bounded
  exh : n.exh.bounded
  pta : n.pta.bounded
  evl : n.evl.bounded
  hlm : n.hlm.bounded

/-! ### The segment table (R120) -/

/-- An entry that no test has opened (R120). -/
def Segment.fresh (e : Segment) : Prop := e.status = .empty ∨ e.status = .loaded

/-- Where no test has started (no test state yet, READY, ARMED). -/
def beforeStart (t : Option TestState) : Prop := t = none ∨ t = some .ready ∨ t = some .armed

/-- A test in progress (RUNNING, PAUSED). -/
def underWay (t : Option TestState) : Prop := t = some .running ∨ t = some .paused

/-- A test that is over, or a halt (HALTED, ENDED). -/
def isOver (t : Option TestState) : Prop := t = some .halted ∨ t = some .ended

/-- The segment table as R120 has it: CLOSED below the cursor, EMPTY or LOADED above it, so that the one entry
that may be OPEN is the cursor's; cursor 0 and nothing OPEN or CLOSED before a test; the cursor's entry OPEN or
CLOSED in RUNNING and PAUSED, and in HALTED and ENDED CLOSED, or as before the test where it never left ARMED. -/
structure Seq.TableKept (q : Seq) : Prop where
  below : ∀ i : Fin 32, i < q.cursor → q.segs[i].status = .closed
  above : ∀ i : Fin 32, q.cursor < i → q.segs[i].fresh
  before : beforeStart q.test → q.cursor = 0 ∧ q.cursorEntry.fresh
  during : underWay q.test → q.cursorEntry.status = .opened ∨ q.cursorEntry.status = .closed
  after : isOver q.test → q.cursorEntry.status = .closed ∨ q.cursor = 0 ∧ q.cursorEntry.fresh

/-! ### The standing halt and the drive enable (R116, R141, R152) -/

/-- The states go together as the manual has them, a halt record stands exactly in HALTED, and the
generator runs only in a DRIVE node whose drive enable is asserted. -/
structure Node.HaltSafe (n : Node) : Prop where
  /-- Before the image is accepted there is no test state (R116). -/
  noTest : n.seq.op = .starting ∨ n.seq.op = .configFault → n.seq.test = none
  /-- An ACTIVE node has a test state (R116). -/
  hasTest : n.seq.op = .active → n.seq.test ≠ none
  /-- HALTED exactly while a halt record stands (R141). -/
  stands : n.seq.test = some .halted ↔ ∃ r, n.hlt.record = some r ∧ r.standing = true
  /-- The generator is RUNNING only in a live drive with DRV-EN asserted (R27, R33, R152). -/
  runs : n.tsg.gen.st = .running → n.driveLive = true ∧ n.drvEn = true

end Sys2Proof.Machine
end

