-- ==== Sys2Proof/Certificates/Slice0/Obligations.lean ====
section
/-! DEFINITION. The statements for the provers. A node is written `n`, the rest of the queue `q`; a
statement gives the node a command leaves as one record update where it can, which states its result and
its frame at once. -/
open Sys2Proof Sys2Proof.Machine

/-! ### The step, the clock, reset and start -/

/-- A command at the front of the queue runs on the state with the queue's rest (the block's own form of "a step
runs the instruction"; log 1). And every command is answered with a next state, and touches nothing of the rest of
the queue. The manual gives each of the 56 steps its effect where its event can happen; that a command whose event
cannot happen in the state is answered too, and leaves the node unchanged, is the model's choice (log 3). -/
def Obligations.FrontCommandRunsToANextState : Prop :=
  (∀ (c : Instr) (n : Node) (q : List Instr), step ⟨n, c :: q⟩ = exec c ⟨n, q⟩) ∧
  ∀ (c : Instr) (n : Node) (q : List Instr), ∃ m, exec c ⟨n, q⟩ = .next ⟨m, q⟩

/-- On an empty queue a step is one oscillator count (the model's choice, log 1). While RESET is held nothing counts
(R186). Otherwise the count touches seven things and nothing else: the filters of a live block's lines, each by
itself (R21); the divider, which makes a microsecond of local time every sixteenth count, with the paces of the live
blocks (R81); the generator's pulse and counter (R31, R32); the bit-time and the idle count of an idle line (R70);
and the mark of a request, which goes as the local time moves on (R108, log 40). It raises the events that have come
due, in the order of log 2: the levels accepted, the pulse's end and the underflow, the yields passed and the
attempt, and with a microsecond the image transfer after 8,224 µs (R187), the paces, and each timer that has run
out: run-down, lock, release timeout, drain limit, and by index staleness (R91) and each peer's re-seed and silence
(R85, R87); then the header facts, the pending RESULT, and the frame at the front of the urgent queue, or else of
the normal queue, as its delivery (R67, R121, R194, R195). That the filters run in a live block alone (log 5), and
that the idle count does not run in SILENT (log 35), is the model's reading. -/
def Obligations.EmptyQueueCountsTheOscillator : Prop :=
  ∀ n : Node,
    (n.pins.resetPin = true → step ⟨n, []⟩ = .next ⟨n, []⟩) ∧
    (n.pins.resetPin = false →
      let f := n.filters
      let p := n.pins
      let g := n.tsg.gen
      let c := n.clk
      let counted (live : Bool) (x : LineFilter) (level : Bool) : LineFilter :=
        if live then { x with timing := if level = x.accepted then 0 else x.timing + 1 } else x
      let idle : Bool := n.fbcLive && n.fbc.onLine.isNone && n.seq.op != .silent && !n.fbc.lineBusy
      let bit : Bool := idle && decide (16 / n.img.lineRate ≤ n.fbc.bitPhase + 1)
      let micro : Bool := decide (16 ≤ c.divider + 1)
      let pace (live : Bool) (every k : Nat) : Nat :=
        if micro && live then (if k + 1 < every then k + 1 else 0) else k
      let m : Node := { n with
        filters :=
          { encA := counted n.driveLive f.encA p.encA, encB := counted n.driveLive f.encB p.encB
            arm1A := counted n.extLive f.arm1A p.arm1A, arm1B := counted n.extLive f.arm1B p.arm1B
            arm2A := counted n.extLive f.arm2A p.arm2A, arm2B := counted n.extLive f.arm2B p.arm2B }
        clk :=
          { divider := if micro then 0 else c.divider + 1, time := if micro then c.time + 1 else c.time
            conv := pace n.lcLive 500 c.conv, pacer := pace n.driveLive 1000 c.pacer
            reading := pace n.extLive 500 c.reading, segment := pace n.inService 1000 c.segment
            stop := pace n.inService 1000 c.stop }
        cmu := if micro then { n.cmu with requestNow := false } else n.cmu
        tsg := { n.tsg with gen := if n.driveLive then { g with
            pulseLeft := g.pulseLeft - 1
            counter := if g.st = .stopped then g.counter else g.counter - 1 } else g }
        fbc := { n.fbc with
          bitPhase := if bit then 0 else if idle then n.fbc.bitPhase + 1 else n.fbc.bitPhase
          idleCount := if bit then (if n.fbc.idleCount + 1 < 108 then n.fbc.idleCount + 1 else 0)
            else n.fbc.idleCount } }
      let ripe (x : LineFilter) : Bool :=
        decide (0 < x.timing) && decide (n.img.drive.filterCounts ≤ x.timing)
      let accepts (a b : LineFilter) (event : Bool → Bool → Instr) : List Instr :=
        if ripe a || ripe b then [event (a.accepted != ripe a) (b.accepted != ripe b)] else []
      let raised (cond : Bool) (i : Instr) : List Instr := if cond then [i] else []
      let expires (timer : Option Time) (i : Instr) : List Instr :=
        raised (timer.any fun t => decide (0 ≤ tdiff m.clk.time t)) i
      let command (p : List Byte) : Instr := match natAt p 0, p.length with
        | 1, 3 => .start | 2, 1 => .pause | 3, 1 => .resume | 4, 1 => .abort | 5, 1 => .clear
        | 6, 1 => .zero | 7, 1 => .balance | 8, 5 => .jog | 9, 1 => .stopJog | 10, 1 => .frameReset
        | _, _ => .unknownCommand
      let query (p : List Byte) : Instr :=
        let asks (kind args pages : Nat) : Bool := p.length == 3 && natAt p 0 == kind &&
          decide (natAt p 1 < args) && decide (1 ≤ natAt p 2) && decide (natAt p 2 ≤ pages)
        if asks 1 256 4 then .queryStatus else if asks 2 32 2 then .querySegment
        else if asks 3 256 4 then .queryResult else if asks 4 256 2 then .queryHealth
        else if asks 5 16 5 then .queryPeer else .queryRefused
      let bulk (kind : Nat) (p : List Byte) : List Instr := match kind with
        | 1 => [command p] | 2 => [.order] | 3 => [.segment] | 4 => [query p]
        | 7 => [.presence] | 8 => [.stateNotice] | _ => []
      let delivery (f : RxFrame) : List Instr := match f.header.cls.toNat, f.header.kind.toNat with
        | 1, 1 => [.haltFrame] | 1, 2 => [.breakFrame] | 1, 3 => [.markFrame] | 2, 1 => [.sampleArrival]
        | 3, kind => if n.seq.op = .silent ∧ 1 ≤ kind ∧ kind ≤ 4 then [.silentDiscard]
          else bulk kind f.payload
        | _, _ => []
      step ⟨n, []⟩ = .next ⟨m,
        (if n.driveLive then accepts m.filters.encA m.filters.encB .encoderEvent else []) ++
        (if n.extLive then accepts m.filters.arm1A m.filters.arm1B (.armEvent .one) ++
          accepts m.filters.arm2A m.filters.arm2B (.armEvent .two) else []) ++
        (raised (n.driveLive && g.stepHigh && m.tsg.gen.pulseLeft == 0) .stepPulseEnd ++
          raised (n.driveLive && g.st != .stopped && m.tsg.gen.counter == 0) .generatorUnderflow) ++
        (if bit then
          raised (n.fbc.yields.urgent && m.fbc.idleCount == 36) (.yieldPendingClear .urgent) ++
          raised (n.fbc.yields.sample && m.fbc.idleCount == 72) (.yieldPendingClear .sample) ++
          raised (n.fbc.yields.bulk && m.fbc.idleCount == 0) (.yieldPendingClear .bulk) ++
          raised m.contender.isSome .attemptStart else []) ++
        (if micro then
          raised (n.seq.op == .starting && n.sul.reading && m.clk.time == 8224)
            (.imageReadComplete p.memory) ++
          (raised (n.lcLive && m.clk.conv == 0) (.conversionComplete p.bridge) ++
            raised (n.driveLive && m.clk.pacer == 0) (.drivePacerExpiry p.limLo p.limHi) ++
            raised (n.extLive && m.clk.reading == 0) .armReading ++
            raised (n.inService && m.clk.segment == 0) .segmentClockExpiry ++
            raised (n.inService && m.clk.stop == 0) (.stopInputSample p.stop)) ++
          ((if n.driveLive then expires g.runDownAt .runDownTimerExpiry ++
              expires n.cmu.lockAt .lockTimerExpiry else []) ++
            (if n.extLive then expires n.exh.releaseAt .releaseTimeoutExpiry else []) ++
            (if n.inService && n.roles.eval && n.evl.record.st == .collecting then
              expires n.evl.drainAt .drainLimitExpiry else [])) ++
          ((if n.inService then
              (List.finRange 4).flatMap fun i => expires (n.sub i).staleAt (.stalenessExpiry i) else []) ++
            (List.finRange 16).flatMap fun i => expires (n.peer i).reseedAt (.reseedTimerExpiry i) ++
              expires (n.peer i).silenceAt (.silenceTimerExpiry i)) else []) ++
        (if n.fbcLive then raised (n.fbc.facts != []) .headerFacts ++
          raised (n.fbc.removal && n.fbc.pendingResult.isSome) .pendingResultEntry ++
          ((n.fbc.urgentQ ++ n.fbc.normalQ).head?.map delivery).getD [] else [])⟩)

/-- The values the manual gives each block after release of the reset pin (R20, R41, R61, R80, R97, R115, R140,
R153, R175, R185), and POWER_ON, RESET_ASSERT and RESET_RELEASE (R186): the two starts have identical effects, every
block takes its power-on values, and the read begins; while RESET is asserted nothing is read. A power-on with RESET
asserted is the model's case (log 30). The values of `fbc.ownRun`, `cmu.lateTimeout`, `cmu.requestNow` and
`hlt.stopFound`, fields that stand for a part of the machine's state the manual gives no name, are the model's (log
27; the marks of the first and the last two stand by logs 21, 40 and 13). -/
def Obligations.ResetAndStartValues : Prop :=
  (let n := State.reset.node
  State.reset.pending = [] ∧ n.clk.time = 0 ∧ n.sul.reading = true ∧
  (n.lc.range = 3 ∧ n.lc.settle = 0 ∧ n.lc.down = 0 ∧ n.lc.trim = 256 ∧ n.lc.balance = none ∧
    n.lc.lastBalance = none ∧ n.lc.tare = 0 ∧ n.lc.zero = none ∧ n.lc.acc.count = 0 ∧ n.lc.decim = 0 ∧
    n.lc.lastGood = 0 ∧ n.lc.hist = [] ∧ n.lc.fmax = 0 ∧ n.lc.breakArmed = false) ∧
  (n.tsg.count = 0 ∧ n.tsg.encFault = false ∧ n.tsg.pulses = 0 ∧ n.tsg.wanted = 0 ∧
    n.tsg.commanded = 0 ∧ n.tsg.issued = 0 ∧ n.tsg.gen.st = .stopped ∧ n.tsg.gen.stepHigh = false ∧
    n.tsg.gen.dirHigh = false ∧ n.tsg.gen.runDown = false ∧ n.tsg.jog = .idle ∧ n.tsg.violLo = false ∧
    n.tsg.violHi = false ∧ n.tsg.level = none ∧ n.tsg.hist = [] ∧ n.datums = {}) ∧
  (n.exh.arm1 = ⟨0, 0, false⟩ ∧ n.exh.arm2 = ⟨0, 0, false⟩ ∧ n.exh.st = .detached ∧
    n.exh.releaseOut = false ∧ n.exh.releaseAt = none ∧ n.exh.k = none ∧ n.exh.snap = {} ∧
    n.exh.unplanned = false ∧ n.exh.slip = false ∧ n.exh.forceMax = 0 ∧ n.exh.gauge = 50000000 ∧
    n.exh.hist = [] ∧ n.exh.lastValue = 0) ∧
  (n.fbc.receiver = .hunting ∧ n.fbc.yields = ⟨false, false, false⟩ ∧ n.fbc.seqs = ⟨0, 0, 0⟩ ∧
    n.fbc.idleCount = 0 ∧
    n.fbc.collisions = 0 ∧ n.fbc.onLine = none ∧ n.fbc.ownRun = false ∧ n.fbc.haltSlot = none ∧
    n.fbc.breakSlot = none ∧ n.fbc.markSlot = none ∧ n.fbc.loadSlot = none ∧ n.fbc.travelSlot = none ∧
    n.fbc.strainSlot = none ∧ n.fbc.stateSlot = none ∧ n.fbc.fifo = [] ∧ n.fbc.pendingResult = none ∧
    n.fbc.urgentQ = [] ∧ n.fbc.normalQ = []) ∧
  ((∀ i, n.peer i = {}) ∧ ∀ i, n.sub i = {}) ∧
  (n.cmu.requested = .hold ∧ n.cmu.established = .hold ∧ n.cmu.entryStep = false ∧ n.cmu.lock = none ∧
    n.cmu.inBand = 0 ∧ n.cmu.outBand = 0 ∧ n.cmu.lockAt = none ∧ n.cmu.lockedInSeg = false ∧
    n.cmu.fallback = false ∧ n.cmu.fallbackVel = none ∧ n.cmu.lateTimeout = false ∧
    n.cmu.requestNow = false ∧ n.cmu.rm = none ∧ n.cmu.forceTarget = none) ∧
  (n.seq.op = .starting ∧ n.seq.test = none ∧ n.seq.order = none ∧ (∀ i : Fin 32, n.seq.segs[i] = {}) ∧
    n.seq.cursor = 0 ∧ n.seq.pauseTime = 0 ∧ n.seq.yieldSeen = false ∧ n.seq.forceMax = 0 ∧
    n.seq.endCause = none ∧ n.seq.refusal = none) ∧
  (n.hlt.record = none ∧ n.hlt.breakRecord = none ∧ n.hlt.stopPrev = false ∧ n.hlt.stopFound = false ∧
    n.faultOut = true ∧ n.drvEn = false) ∧
  (n.evl.record.st = .none_ ∧ n.evl.closing = none ∧ n.evl.drainAt = none ∧ n.evl.queue = [] ∧
    n.evl.scan = [] ∧ n.evl.fit = ⟨.fitOpen, 0, 0, 0, 0, 0⟩ ∧ n.evl.proof = ⟨.none_, none⟩ ∧
    n.evl.yield = ⟨.seeking, none⟩ ∧ n.evl.yieldReported = false ∧ n.evl.record.values.ts = none ∧
    n.evl.params = none) ∧
  ∀ a, (n.hlm.get a).value = 100 ∧ (n.hlm.get a).worst = 100 ∧ (n.hlm.get a).tripped = false ∧
    (n.hlm.get a).measure = 0) ∧
  ∀ (n : Node) (q : List Instr),
    (n.pins.resetPin = false →
      exec .powerOn ⟨n, q⟩ = .next ⟨{ State.reset.node with pins := n.pins }, q⟩) ∧
    (n.pins.resetPin = true → exec .powerOn ⟨n, q⟩ = .next ⟨{ pins := n.pins }, q⟩) ∧
    exec .resetAssert ⟨n, q⟩ = .next ⟨{ pins := { n.pins with resetPin := true } }, q⟩ ∧
    exec .resetRelease ⟨n, q⟩ =
      .next ⟨{ State.reset.node with pins := { n.pins with resetPin := false } }, q⟩

/-- IMAGE_READ_COMPLETE (R187, R188). An image that passes every check makes the node ACTIVE with test state READY:
its values are in force, the outputs stand as R152 says, each block goes live (R10, R48, R91, R176, R190), a STATE
notice is submitted (R78), and a PRESENCE is entered where there is room (R79). An image that fails leaves the node
in CONFIG-FAULT with no test state (R189): the first check that fails decides the code and the field, FAULT is
asserted and DRV-EN low; with CHECK or IDENTITY nothing of the image is kept and no PRESENCE is entered. The ranges
and the checks are those of `ImageFieldsRangedAndChecked`. What a short image reads as, the order within the
subscription checks, and that the level the last STOP sample found is released at entry to ACTIVE, are the model's
choice (logs 26, 31 and 13). -/
def Obligations.ImageReadCompleteJudged : Prop :=
  ∀ (n : Node) (q : List Instr) (image : List Byte), n.seq.op = .starting → n.sul.reading = true →
    let b := clockedIn image
    let presence (m : Node) (status : List Byte) : Prop :=
      n.fbc.fifo = [] → n.fbc.removal = false → ∃ e, m.fbc.fifo = [e] ∧ e.frame.kind = .presence ∧
        e.frame.broadcast = true ∧
        e.frame.payload = [byteOf m.nodeId.val, m.img.roles &&& 0x0F, Config.partRevision] ++ status
    (imageCheckOk b = true → firstOut (identityRanges b) = none → firstOut (fieldRanges b) = none →
      firstFailing (consistencyChecks (imageOf b)) = none →
      ∃ m, exec (.imageReadComplete image) ⟨n, q⟩ = .next ⟨m, q⟩ ∧
        m.sul = { reading := false, image := imageOf b, fault := none } ∧
        m.seq = { n.seq with op := .active, test := some .ready } ∧ m.faultOut = false ∧ m.drvEn = true ∧
        m.lc = (if m.roles.load then { n.lc with range := m.img.load.fixedRange.getD 3 } else n.lc) ∧
        (m.roles.ext = true → m.exh = { n.exh with
          st := if n.pins.arm1Closed && n.pins.arm2Closed then .attached else .detached }) ∧
        presence m [0, 0] ∧ m.fbc.stateSlot =
          some ⟨broadcastFrame .state [], (n.fbc.stateSlot.map (·.fill)).getD n.now⟩ ∧
        (∀ i, m.subCfg i ≠ none → (m.sub i).staleAt = some (after n.now (m.img.staleMs * 1000))) ∧
        m.hlm = n.hlm.withThresholds m.img.health.thresholds ∧
        m.hlt = { n.hlt with stopPrev := false, stopFound := false } ∧
        (∀ i, m.peer i = n.peer i) ∧ m.pins = n.pins ∧ m.datums = n.datums ∧ m.cmu = n.cmu ∧
        m.evl = n.evl ∧ m.clk.time = n.clk.time) ∧
    (imageCheckOk b = false → exec (.imageReadComplete image) ⟨n, q⟩ = .next ⟨{ n with
      sul := { reading := false, image := {}, fault := some (.check, 0) }
      seq := { n.seq with op := .configFault } }, q⟩) ∧
    (∀ field, imageCheckOk b = true → firstOut (identityRanges b) = some field →
      exec (.imageReadComplete image) ⟨n, q⟩ = .next ⟨{ n with
        sul := { reading := false, image := {}, fault := some (.identity, field) }
        seq := { n.seq with op := .configFault } }, q⟩) ∧
    (∀ code field, imageCheckOk b = true → firstOut (identityRanges b) = none →
      (firstOut (fieldRanges b) = some field ∧ code = .field ∨
        firstOut (fieldRanges b) = none ∧
        firstFailing (consistencyChecks (imageOf b)) = some (code, field) ∧
        code ≠ .check ∧ code ≠ .identity) →
      ∃ m, exec (.imageReadComplete image) ⟨n, q⟩ = .next ⟨m, q⟩ ∧
        m.sul = { reading := false, image := identityOf b, fault := some (code, field) } ∧
        m.seq = { n.seq with op := .configFault } ∧ m.fbcLive = true ∧ m.faultOut = true ∧
        m.drvEn = false ∧ presence m [code.code, byteOf field] ∧
        m.pins = n.pins ∧ m.clk = n.clk ∧ m.lc = n.lc ∧ m.tsg = n.tsg ∧ m.exh = n.exh ∧ m.pta = n.pta ∧
        m.cmu = n.cmu ∧ m.hlt = n.hlt ∧ m.evl = n.evl ∧ m.hlm = n.hlm)

/-- The judging of an image, field by field and check by check (R187 steps 2 and 3 with 11.3 and 12.5, R188). The
fault is the first that fails, in field number order and then in the order of the table of R188. Each field's range
is spelled beside its number: a subscription absent, or present with a peer id, a kind and a use of their lists, and
a calibration table of 2 to 12 points within their limits. Where several subscriptions fail check 9, or several have
an earlier match at check 7 or 8, the lowest-numbered of them is reported, the model's choice (log 31). And where
each field of an accepted image lies. -/
def Obligations.ImageFieldsRangedAndChecked : Prop :=
  (∀ l : List (Nat × Bool), (firstOut l = none ↔ ∀ x ∈ l, x.2 = true) ∧
    ∀ k, firstOut l = some k ↔ ∃ pre post, l = pre ++ (k, false) :: post ∧ ∀ x ∈ pre, x.2 = true) ∧
  (∀ l : List Check, (firstFailing l = none ↔ ∀ x ∈ l, x.ok = true) ∧
    ∀ code k, firstFailing l = some (code, k) ↔
      ∃ pre post, l = pre ++ ⟨false, code, k⟩ :: post ∧ ∀ x ∈ pre, x.ok = true) ∧
  (∀ b : List Byte,
    let ranged (l : List (Nat × Bool)) (k : Nat) (p : Prop) : Prop := (k, true) ∈ l ↔ p
    let field (k : Nat) (p : Prop) : Prop := ranged (fieldRanges b) k p
    let among (lo hi x : Nat) : Prop := lo ≤ x ∧ x ≤ hi
    let length (a : Nat) : Prop := -2000000000 ≤ int32At b a ∧ int32At b a ≤ 2000000000
    let subscription (i : Nat) : Prop :=
      let a := 8 + 4 * i
      natAt b a = 0 ∨ natAt b a = 1 ∧ natAt b (a + 1) ≤ 15 ∧ among 1 3 (natAt b (a + 2)) ∧
        among 1 4 (natAt b (a + 3))
    let table (r : Nat) : Prop :=
      let a := 108 + 97 * r
      among 2 12 (natAt b a) ∧ ∀ k, k < natAt b a → length (a + 1 + 8 * k) ∧
        -30000000 ≤ int32At b (a + 5 + 8 * k) ∧ int32At b (a + 5 + 8 * k) ≤ 30000000
    (identityRanges b).map (·.1) = [1, 2] ∧ (fieldRanges b).map (·.1) = List.range' 3 46 ∧
    ranged (identityRanges b) 1 (natAt b 0 ≤ 15) ∧
    ranged (identityRanges b) 2 (natAt b 1 = 1 ∨ natAt b 1 = 2 ∨ natAt b 1 = 4) ∧
    field 3 (among 1 15 (natAt b 2)) ∧ field 4 (natAt b 3 ≤ 3) ∧ field 5 (natAt b 4 ≤ 2) ∧
    field 6 (natAt b 5 ≤ 3) ∧ field 7 (among 5 200 (natAt b 6)) ∧
    (∀ i, i < 4 → field (8 + i) (subscription i)) ∧ field 12 (natAt b 24 ≤ 3) ∧
    field 13 (1 ≤ nat16At b 26) ∧ field 14 (1 ≤ nat16At b 28) ∧ field 15 (1 ≤ nat16At b 30) ∧
    field 16 (1 ≤ nat16At b 32) ∧ field 17 (among 1 3999999 (nat32At b 34)) ∧
    field 18 (among 2 4000000 (nat32At b 38)) ∧ field 19 (among 1 4000000 (nat32At b 42)) ∧
    field 20 (among 1 2000000000 (nat32At b 46)) ∧ field 21 (length 50) ∧ field 22 (length 54) ∧
    field 23 (among 1 2000000000 (nat32At b 58)) ∧ field 24 (among 1 2000000000 (nat32At b 62)) ∧
    field 25 (natAt b 25 = 255 ∨ natAt b 25 ≤ 3) ∧ (∀ r, r < 4 → field (26 + r) (table r)) ∧
    field 30 (among 1 30000000 (nat32At b 66)) ∧ field 31 (nat32At b 70 ≤ 536870848) ∧
    field 32 (among 1 8388607 (nat32At b 74)) ∧ field 33 (among 50 2000 (nat16At b 78)) ∧
    field 34 (among 1 2000000000 (nat32At b 80)) ∧ field 35 (1 ≤ natAt b 84) ∧
    field 36 (1 ≤ natAt b 85) ∧ field 37 (among 1 1000 (nat16At b 86)) ∧
    field 38 (among 1 32 (natAt b 88)) ∧ field 39 (among 1 600000 (nat32At b 89)) ∧
    (∀ i, i < 7 → field (40 + i) (natAt b (93 + i) ≤ 100)) ∧
    field 47 (among 1 536870848 (nat32At b 100)) ∧ field 48 (among 1 2000000000 (nat32At b 104))) ∧
  (∀ img : Image,
    let roles := rolesOf img.roles
    let has (u : SubUse) : Prop := ∃ (i : Fin 4) (c : SubCfg), img.subs[i] = some c ∧ c.use = u
    let force : Prop := roles.load = true ∨ has .loadSource
    let strain : Prop := roles.ext = true ∨ has .strainSource
    let travel : Prop := roles.drive = true ∨ has .partnerTravel ∨ has .otherTravel
    let rises (r : Fin 4) : Prop := ∀ pre p q post,
      img.load.tables[r] = pre ++ p :: q :: post → p.code < q.code
    let each (p : Fin 4 → SubCfg → Prop) (i : Fin 4) : FaultCode × Nat × Prop :=
      (.subscription, 8 + i.val, ∀ c, img.subs[i] = some c → p i c)
    let earlier (i : Fin 4) (p : SubCfg → Prop) : Prop := ∃ j d, j < i ∧ img.subs[j] = some d ∧ p d
    let subs : List (Fin 4) := [0, 1, 2, 3]
    let checks : List (FaultCode × Nat × Prop) :=
      [(.limits, 17, img.drive.vMin < img.drive.vMax),
       (.limits, 18, img.drive.vMax ≤ 1000000 * img.drive.step),
       (.limits, 21, img.drive.travelMin < img.drive.travelMax),
       (.calibration, 26, rises 0), (.calibration, 27, rises 1), (.calibration, 28, rises 2),
       (.calibration, 29, rises 3)] ++
      subs.map (each fun _ c => c.peer ≠ img.nodeId) ++
      subs.map (each fun _ c => (c.channel = .load ↔ c.use = .loadSource) ∧
        (c.channel = .strain ↔ c.use = .strainSource)) ++
      subs.map (each fun i c => ¬earlier i fun d => d.peer = c.peer ∧ d.channel = c.channel) ++
      subs.map (each fun i c => c.use = .otherTravel ∨ ¬earlier i fun d => d.use = c.use) ++
      subs.map (each fun _ c => (c.use = .loadSource → roles.load = false) ∧
        (c.use = .strainSource → roles.ext = false) ∧ (c.use = .partnerTravel → roles.drive = true)) ++
      [(.source, 3, roles.drive = true → force), (.source, 3, roles.eval = true → force ∧ strain),
       (.source, 3, roles.ext = true → force ∧ travel)]
    (consistencyChecks img).length = checks.length ∧
    ∀ (k : Nat) (x : Check) (p : FaultCode × Nat × Prop),
      (consistencyChecks img)[k]? = some x → checks[k]? = some p →
      x.code = p.1 ∧ x.field = p.2.1 ∧ (x.ok = true ↔ p.2.2)) ∧
  ∀ b : List Byte,
    let img := imageOf b
    let d := img.drive
    let l := img.load
    let c := img.control
    img.nodeId.val = natAt b 0 % 16 ∧ img.lineRate = natAt b 1 ∧ img.roles = byteAt b 2 ∧
    img.loadRate = 250 * 2 ^ natAt b 3 ∧ img.travelRate = 250 * 2 ^ natAt b 4 ∧
    img.strainRate = 250 * 2 ^ natAt b 5 ∧ img.staleMs = natAt b 6 ∧
    (∀ (i : Fin 4) (ch : Channel) (u : SubUse), let a := 8 + 4 * i.val
      (natAt b a ≠ 1 → img.subs[i] = none) ∧
      (natAt b a = 1 → byteAt b (a + 2) = ch.code → byteAt b (a + 3) = u.code →
        ∃ p : Fin 16, p.val = natAt b (a + 1) % 16 ∧ img.subs[i] = some ⟨p, ch, u⟩)) ∧
    d = { filterCounts := 4 * 2 ^ natAt b 24, encScale := nat16At b 26, step := nat16At b 28
          pulseWidth := nat16At b 30, armScale := nat16At b 32, vMin := nat32At b 34
          vMax := nat32At b 38, accel := nat32At b 42, followLimit := nat32At b 46
          travelMin := int32At b 50, travelMax := int32At b 54, levelSpan := nat32At b 58
          tiltLimit := nat32At b 62 } ∧
    (natAt b 25 = 255 → l.fixedRange = none) ∧
    (∀ r : Fin 4, natAt b 25 = r.val → l.fixedRange = some r) ∧
    (∀ r : Fin 4, let a := 108 + 97 * r.val
      l.tables[r].length = natAt b a ∧ ∀ k, k < natAt b a → l.tables[r][k]? =
        some ⟨int32At b (a + 1 + 8 * k), int32At b (a + 5 + 8 * k)⟩) ∧
    l.overloadLimit = nat32At b 66 ∧ l.zeroLimit = nat32At b 70 ∧ l.balanceLimit = nat32At b 74 ∧
    c = { releaseTimeoutMs := nat16At b 78, slipThreshold := nat32At b 80, gainLoad := natAt b 84
          gainStrain := natAt b 85, lockBand := nat16At b 86, lockCount := natAt b 88
          lockTimeoutMs := nat32At b 89 } ∧
    (∀ i : Fin 7, img.health.thresholds[i] = natAt b (93 + i.val)) ∧
    img.health.driftAllowance = nat32At b 100 ∧ img.health.disagreeAllowance = nat32At b 104

/-! ### Load channel -/

/-- CONVERSION_COMPLETE away from a publish point, with no balance (R1, R2, R7, R8, R9, R11). A settling one, in
every range and with a zero in flight or none, only lowers the settle count. An accepted code joins the accumulator,
at its range's multiplier 4^range less the tare, and the codes of a zero in flight; in a fixed range nothing more.
In autorange one above 90 % of raw full scale steps the range up at once, and before a test the 64th code in a row
under 15 % steps it down; a range change empties the accumulator and a zero's codes and settles four conversions.
The sixteenth code of a zero is `SixteenthCodeEndsTheZero`'s. -/
def Obligations.ConversionAcceptedRangedOrSettling : Prop :=
  ∀ (n : Node) (q : List Instr) (c : Int), n.lcLive = true → -8388607 ≤ c → c ≤ 8388607 →
    n.lc.balance = none → n.lc.decim + 1 ≠ n.loadEvery →
    let up : Prop := 7549746 < c.natAbs ∧ n.lc.range.val < 3
    let low : Prop := n.beforeTest = true ∧ n.lc.range.val ≠ 0 ∧ c.natAbs < 1258291
    let code := c * 4 ^ n.lc.range.val
    let left (l : Lc) : Host.Outcome State Fault Refusal :=
      .next ⟨{ n with pins := { n.pins with bridge := c }, lc := { l with decim := n.lc.decim + 1 } }, q⟩
    let changedTo (r : Fin 4) : Lc := { n.lc with
      range := r, settle := 4, down := 0, zero := n.lc.zero.map fun _ => ⟨0, 0⟩
      acc := { sum := 0, count := 0, newest := n.now, fullScale := false } }
    let kept (down : Nat) : Lc := { n.lc with
      down := down, zero := n.lc.zero.map fun z => ⟨z.count + 1, z.sum + code⟩
      acc :=
        { sum := n.lc.acc.sum + (code - n.lc.tare), count := n.lc.acc.count + 1, newest := n.now
          fullScale := n.lc.acc.fullScale || (n.lc.range == 3 && (c == 8388607 || c == -8388607)) } }
    (n.lc.settle ≠ 0 →
      exec (.conversionComplete c) ⟨n, q⟩ = left { n.lc with settle := n.lc.settle - 1 }) ∧
    (n.lc.settle = 0 → codesOf n.lc.zero + 1 ≠ 16 →
      (n.img.load.fixedRange ≠ none →
        exec (.conversionComplete c) ⟨n, q⟩ = left (kept n.lc.down)) ∧
      (n.img.load.fixedRange = none →
        (∀ r : Fin 4, up → r.val = n.lc.range.val + 1 →
          exec (.conversionComplete c) ⟨n, q⟩ = left (changedTo r)) ∧
        (∀ r : Fin 4, ¬up → low → n.lc.down + 1 = 64 → r.val + 1 = n.lc.range.val →
          exec (.conversionComplete c) ⟨n, q⟩ = left (changedTo r)) ∧
        (¬up → low → n.lc.down + 1 ≠ 64 →
          exec (.conversionComplete c) ⟨n, q⟩ = left (kept (n.lc.down + 1))) ∧
        (¬up → ¬low → exec (.conversionComplete c) ⟨n, q⟩ = left (kept 0))))

/-- A publish point that finds no accepted code while the settle runs, or a balance in flight (R4, R5, R6, R14,
R15): the sample carries the last good force with HELD, in a balance with BALANCING too, goes to its slot and to the
history, and no block of the node takes anything from it. The conversion moves the balance as any other does, the
twelfth of a trial and the last of the restore settle too; there the sample, still BALANCING, comes before the end
of the balance and its health update (the order is the model's choice, log 24). That the settle count is lowered
beside the trials, and that the restore settle is four conversions in every range, is the model's reading (log 25).
The layouts and codes are those spelled in `CheckValueAndFrameRoundTrip`. -/
def Obligations.PublishPointWithoutCodesHolds : Prop :=
  ∀ (n : Node) (q : List Instr) (c : Int), n.lcLive = true → -8388607 ≤ c → c ≤ 8388607 →
    n.lc.decim + 1 = n.loadEvery →
    let held (balancing : Bool) (l : Lc) (h : Hlm) : Prop :=
      let flags : SampleFlags :=
        { held := true, balancing := balancing, degraded := n.hlm.degraded .load }
      let payload := samplePayload .load flags (byteOf l.range.val) n.now n.lc.lastGood
      exec (.conversionComplete c) ⟨n, q⟩ = .next ⟨{ n with
        pins := { n.pins with bridge := c }
        lc := { l with
          decim := 0, prod := n.lc.prod + 1
          hist := pushHist n.lc.hist ⟨n.lc.prod, n.now, n.lc.lastGood, flags⟩
          acc := { n.lc.acc with sum := 0, count := 0, fullScale := false } }
        fbc := if n.active then { n.fbc with
            loadSlot := refill n.fbc.loadSlot (broadcastFrame .sample payload) n.now }
          else n.fbc
        hlm := h }, q⟩
    let settled : Lc := { n.lc with settle := n.lc.settle - 1 }
    let judged (b : Nat) (sum : Int) : BitVec 9 :=
      if 0 < sum then n.lc.trim else n.lc.trim &&& ~~~(BitVec.ofNat 9 (2 ^ b))
    (n.lc.balance = none → n.lc.settle ≠ 0 → n.lc.acc.count = 0 → held false settled n.hlm) ∧
    ∀ bal, n.lc.balance = some bal →
      (∀ b done sum, bal.phase = .trial b done sum → done + 1 ≠ 12 → held true { settled with
        balance := some { bal with phase := .trial b (done + 1) (if done < 4 then sum else sum + c) } }
        n.hlm) ∧
      (∀ b sum, bal.phase = .trial (b + 1) 11 sum → held true { settled with
        trim := judged (b + 1) (sum + c) ||| BitVec.ofNat 9 (2 ^ b)
        balance := some { bal with phase := .trial b 0 0 } } n.hlm) ∧
      (∀ sum, bal.phase = .trial 0 11 sum → held true { n.lc with
        settle := 4, range := bal.heldRange, trim := judged 0 (sum + c)
        balance := some { bal with phase := .restore (roundDiv (sum + c) 8) } } n.hlm) ∧
      (∀ residue, bal.phase = .restore residue → 1 < n.lc.settle → held true settled n.hlm) ∧
      ∀ residue, bal.phase = .restore residue → n.lc.settle ≤ 1 → held true { settled with
        balance := none
        lastBalance := some
          ⟨if n.img.load.balanceLimit < (residue.natAbs : Int) then .failed else .done, some residue⟩ }
        { n.hlm with
          balanceResidue := n.hlm.balanceResidue.updated .balanceResidue n.img residue.natAbs }

/-- A publish point with an accepted conversion (R2 to R12): the code joins the accumulator and a zero in flight;
the sixteenth code of a zero completes it, which rebases the accumulator and hands the drift, or is refused; then in
autorange the range is judged. Where the range stays, the value is the calibrated force of the rounded mean code,
its time that of this conversion, OVERRANGE with a clamped force or a full-scale code; the sample goes to the
history and to its slot, raises the force maxima of a test in progress (R18, R52), and is offered to the control
mode unit, the evaluator, the break detection, the overload check and the sequencer; a force beyond the overload
limit or OVERRANGE raises OVERLOAD (R17). Where the range changes at this conversion, the accumulator is empty and
the sample is HELD. A code is converted by a table of rising codes (R3): on the first segment below the second
point, on the last from the last but one point on, between by the segment it lies in, the rounded line through its
two points, at a point the point's force; the force is clamped to 30,000,000 dN, which is OVERRANGE where it changes
it. That the zero is judged before autorange (log 24) and the order of the consumers (log 6) are the model's choice.
The layouts and codes are those spelled in `CheckValueAndFrameRoundTrip`. -/
def Obligations.PublishPointFormsTheSample : Prop :=
  (∀ (t : List CalPoint) (x : Int), (t.map (·.code)).Pairwise (· < ·) →
    let clamped (f : Int) : Int × Bool :=
      (if f < -30000000 then -30000000 else if 30000000 < f then 30000000 else f,
        decide (f < -30000000 ∨ 30000000 < f))
    let line (a b : CalPoint) : Int :=
      a.force + roundDiv ((x - a.code) * (b.force - a.force)) (b.code - a.code)
    (∀ a b post, t = a :: b :: post → x < b.code → publishedForce t x = clamped (line a b)) ∧
    (∀ pre a b post, t = pre ++ a :: b :: post → a.code ≤ x → x < b.code →
      publishedForce t x = clamped (line a b)) ∧
    (∀ pre a b, t = pre ++ [a, b] → a.code ≤ x → publishedForce t x = clamped (line a b)) ∧
    (∀ p ∈ t, x = p.code → publishedForce t x = clamped p.force)) ∧
  (∀ n : Node, n.loadEvery = 2000 / n.img.loadRate) ∧
  ∀ (n : Node) (q : List Instr) (c : Int), n.lcLive = true → -8388607 ≤ c → c ≤ 8388607 →
    n.lc.balance = none → n.lc.settle = 0 → n.lc.decim + 1 = n.loadEvery →
    let code := c * 4 ^ n.lc.range.val
    let acc : LoadAcc :=
      { sum := n.lc.acc.sum + (code - n.lc.tare), count := n.lc.acc.count + 1, newest := n.now
        fullScale := n.lc.acc.fullScale || (n.lc.range == 3 && (c == 8388607 || c == -8388607)) }
    let sampled (l : Lc) (x : Seq) (h : Hlm) (e : HistEntry) : Node := { n with
      pins := { n.pins with bridge := c }
      lc := { l with
        decim := 0, prod := n.lc.prod + 1, hist := pushHist n.lc.hist e
        lastGood := if e.flags.held then n.lc.lastGood else e.value
        acc := { sum := 0, count := 0, newest := n.now, fullScale := false } }
      fbc := if n.active then { n.fbc with loadSlot := refill n.fbc.loadSlot (broadcastFrame .sample
          (samplePayload .load e.flags (byteOf l.range.val) n.now e.value)) n.now }
        else n.fbc
      seq := x, hlm := h }
    let formed (l : Lc) (x : Seq) (h : Hlm) : Prop :=
      let f := publishedForce n.img.load.tables[l.range] (roundDiv l.acc.sum l.acc.count)
      let e : HistEntry := ⟨n.lc.prod, n.now, f.1,
        { overrange := f.2 || l.acc.fullScale, degraded := h.degraded .load }⟩
      let k := sampled l x h e
      let raised : Node := if n.testInProgress then { k with
          lc := { k.lc with fmax := max l.fmax f.1 }
          exh := { k.exh with forceMax :=
            if n.roles.ext then max n.exh.forceMax f.1 else n.exh.forceMax } }
        else k
      ∃ m, exec (.conversionComplete c) ⟨n, q⟩ = .next ⟨m, q⟩ ∧
        m = ((((raised.cmuArrival .loadRate e).evalLoad e).detectBreak e).checkOverload e).watchForce e ∧
        m.lc.hist = pushHist n.lc.hist e ∧ m.lc.prod = n.lc.prod + 1 ∧ m.lc.lastGood = f.1 ∧
        m.lc.acc.count = 0 ∧ m.lc.acc.sum = 0 ∧ m.lc.decim = 0 ∧ m.lc.range = l.range ∧
        m.lc.tare = l.tare ∧ m.lc.trim = l.trim ∧ m.lc.zero = l.zero ∧ m.lc.down = l.down ∧
        m.lc.fmax = (if n.testInProgress then max n.lc.fmax f.1 else n.lc.fmax) ∧
        m.fbc.loadSlot = k.fbc.loadSlot ∧
        (n.seq.test ≠ some .halted →
          n.img.load.overloadLimit < (f.1.natAbs : Int) ∨ e.flags.overrange = true →
          n.haltedBy m .overload n.nodeId) ∧
        m.hlm = h ∧ m.pta = n.pta ∧ m.sul = n.sul ∧ m.clk = n.clk
    let changed (l : Lc) (r : Fin 4) (x : Seq) (h : Hlm) : Prop :=
      exec (.conversionComplete c) ⟨n, q⟩ = .next ⟨sampled { l with
          range := r, settle := 4, down := 0, zero := l.zero.map fun _ => ⟨0, 0⟩ } x h
        ⟨n.lc.prod, n.now, n.lc.lastGood, { held := true, degraded := h.degraded .load }⟩, q⟩
    let up : Prop := 7549746 < c.natAbs ∧ n.lc.range.val < 3
    let low : Prop := n.beforeTest = true ∧ n.lc.range.val ≠ 0 ∧ c.natAbs < 1258291
    let ranged (l : Lc) (x : Seq) (h : Hlm) : Prop :=
      (n.img.load.fixedRange ≠ none → formed l x h) ∧
      (n.img.load.fixedRange = none →
        (∀ r : Fin 4, up → r.val = n.lc.range.val + 1 → changed l r x h) ∧
        (∀ r : Fin 4, ¬up → low → n.lc.down + 1 = 64 → r.val + 1 = n.lc.range.val → changed l r x h) ∧
        (¬up → low → n.lc.down + 1 ≠ 64 → formed { l with down := n.lc.down + 1 } x h) ∧
        (¬up → ¬low → formed { l with down := 0 } x h))
    (n.lc.zero = none → ranged { n.lc with acc := acc } n.seq n.hlm) ∧
    ∀ k s, n.lc.zero = some ⟨k, s⟩ →
      let z := roundDiv (s + code) 16
      (k + 1 ≠ 16 → ranged { n.lc with zero := some ⟨k + 1, s + code⟩, acc := acc } n.seq n.hlm) ∧
      (k + 1 = 16 → (z.natAbs : Int) ≤ n.img.load.zeroLimit → ranged { n.lc with
        tare := z, zero := none, acc := { acc with sum := acc.sum - acc.count * (z - n.lc.tare) } }
        n.seq { n.hlm with zeroDrift :=
          n.hlm.zeroDrift.updated .zeroDrift n.img (z - n.lc.tare).natAbs }) ∧
      (k + 1 = 16 → n.img.load.zeroLimit < (z.natAbs : Int) → ranged { n.lc with
        zero := none, acc := acc } { n.seq with refusal := some .zeroLimit } n.hlm)

/-- ZERO and BALANCE accepted (R8, R10, R11, R14, R47): a zero starts to collect codes, the arm references are set
to the arm counts and the arm fault flags cleared, each where the node holds the role; a balance empties the
accumulator, holds the trim and the range in force, sets ×64 and begins the trial of bit 8. The settle of four
that the switch to ×64 brings in a fixed range too, and none where ×64 is in force, is the model's choice (log
25). -/
def Obligations.ZeroAndBalanceAccepted : Prop :=
  ∀ (n : Node) (q : List Instr) (f : RxFrame), n.active = true → n.beforeTest = true →
    (n.roles.load = true → n.lc.balance = none ∧ n.lc.zero = none) →
    (n.delivers (.command .zero) f → n.roles.load = true ∨ n.roles.ext = true → exec .zero ⟨n, q⟩ = .next ⟨{ n.popped with
      lc := if n.roles.load then { n.lc with zero := some ⟨0, 0⟩ } else n.lc
      exh := if n.roles.ext then { n.exh with
          arm1 := ⟨n.exh.arm1.count, n.exh.arm1.count, false⟩
          arm2 := ⟨n.exh.arm2.count, n.exh.arm2.count, false⟩ }
        else n.exh }, q⟩) ∧
    (n.delivers (.command .balance) f → n.roles.load = true →
      exec .balance ⟨n, q⟩ = .next ⟨{ n.popped with
        lc := { n.lc with
          balance := some { heldTrim := n.lc.trim, heldRange := n.lc.range, phase := .trial 8 0 0 }
          acc := { n.lc.acc with sum := 0, count := 0, fullScale := false }
          down := 0, range := 0, trim := 256
          settle := if n.lc.range = 0 then n.lc.settle else 4 } }, q⟩)

/-- The codes of a zero, away from a publish point and in a fixed range or in autorange: codes 1 to 15 are
collected (R11); at the sixteenth (R12) the rounded mean within the zero limit becomes the tare, the accumulator
is rebased and the drift is handed to the health monitor, and beyond the limit the zero ends with the refusal
ZERO-LIMIT and the tare stays. Autorange judges the same code after that, so that a range change takes the codes
of a zero not yet complete (R7, R8, R9); that order is the model's choice (log 24). -/
def Obligations.SixteenthCodeEndsTheZero : Prop :=
  ∀ (n : Node) (q : List Instr) (c s : Int) (k : Nat), n.lcLive = true → -8388607 ≤ c → c ≤ 8388607 →
    n.lc.balance = none → n.lc.zero = some ⟨k, s⟩ → n.lc.settle = 0 → n.lc.decim + 1 ≠ n.loadEvery →
    let code := c * 4 ^ n.lc.range.val
    let z := roundDiv (s + code) 16
    let acc : LoadAcc :=
      { sum := n.lc.acc.sum + (code - n.lc.tare), count := n.lc.acc.count + 1, newest := n.now
        fullScale := n.lc.acc.fullScale || (n.lc.range == 3 && (c == 8388607 || c == -8388607)) }
    let ranged (l : Lc) : Lc :=
      if n.img.load.fixedRange = none then l.autorange c n.beforeTest else l
    let left (l : Lc) (x : Seq) (h : Hlm) : Host.Outcome State Fault Refusal :=
      .next ⟨{ n with pins := { n.pins with bridge := c }
                      lc := { ranged l with decim := n.lc.decim + 1 }, seq := x, hlm := h }, q⟩
    (k + 1 ≠ 16 → exec (.conversionComplete c) ⟨n, q⟩ =
      left { n.lc with zero := some ⟨k + 1, s + code⟩, acc := acc } n.seq n.hlm) ∧
    (k + 1 = 16 → (z.natAbs : Int) ≤ n.img.load.zeroLimit → exec (.conversionComplete c) ⟨n, q⟩ =
      left { n.lc with
        tare := z, zero := none, acc := { acc with sum := acc.sum - acc.count * (z - n.lc.tare) } }
        n.seq { n.hlm with zeroDrift :=
          n.hlm.zeroDrift.updated .zeroDrift n.img (z - n.lc.tare).natAbs }) ∧
    (k + 1 = 16 → n.img.load.zeroLimit < (z.natAbs : Int) → exec (.conversionComplete c) ⟨n, q⟩ =
      left { n.lc with zero := none, acc := acc } { n.seq with refusal := some .zeroLimit } n.hlm)

/-- A conversion in a balance, away from a publish point (R14, R15): the first four of a trial are not summed, the
next eight are; at the twelfth the bit is kept where the sum is above 0 and the next bit is tried; after bit 0 the
residue is the rounded mean and the held range comes back; the last conversion of that settle ends the balance, DONE
within the balance limit and FAILED beyond it, and hands the residue's magnitude. That a settle count still running
falls beside a trial's own four skipped conversions, and that the return to the held range settles four conversions
in every range, is the model's choice (log 25). -/
def Obligations.BalanceConversions : Prop :=
  ∀ (n : Node) (q : List Instr) (c : Int) (bal : Balance), n.lcLive = true → -8388607 ≤ c →
    c ≤ 8388607 → n.lc.balance = some bal → n.lc.decim + 1 ≠ n.loadEvery →
    let left (l : Lc) (h : Hlm) : Host.Outcome State Fault Refusal :=
      .next ⟨{ n with pins := { n.pins with bridge := c }
                      lc := { l with decim := n.lc.decim + 1 }, hlm := h }, q⟩
    (∀ b done sum, bal.phase = .trial b done sum → done + 1 ≠ 12 →
      exec (.conversionComplete c) ⟨n, q⟩ = left { n.lc with
        settle := n.lc.settle - 1
        balance := some { bal with phase := .trial b (done + 1) (if done < 4 then sum else sum + c) } }
        n.hlm) ∧
    (∀ b sum, bal.phase = .trial (b + 1) 11 sum →
      exec (.conversionComplete c) ⟨n, q⟩ = left { n.lc with
        settle := n.lc.settle - 1
        trim := (if 0 < sum + c then n.lc.trim else n.lc.trim &&& ~~~(BitVec.ofNat 9 (2 ^ (b + 1)))) |||
          BitVec.ofNat 9 (2 ^ b)
        balance := some { bal with phase := .trial b 0 0 } } n.hlm) ∧
    (∀ sum, bal.phase = .trial 0 11 sum →
      exec (.conversionComplete c) ⟨n, q⟩ = left { n.lc with
        settle := 4, range := bal.heldRange
        trim := if 0 < sum + c then n.lc.trim else n.lc.trim &&& ~~~(1 : BitVec 9)
        balance := some { bal with phase := .restore (roundDiv (sum + c) 8) } } n.hlm) ∧
    (∀ residue, bal.phase = .restore residue → 1 < n.lc.settle →
      exec (.conversionComplete c) ⟨n, q⟩ = left { n.lc with settle := n.lc.settle - 1 } n.hlm) ∧
    (∀ residue, bal.phase = .restore residue → n.lc.settle ≤ 1 →
      exec (.conversionComplete c) ⟨n, q⟩ = left { n.lc with
        settle := 0, balance := none
        lastBalance := some
          ⟨if n.img.load.balanceLimit < (residue.natAbs : Int) then .failed else .done, some residue⟩ }
        { n.hlm with balanceResidue := n.hlm.balanceResidue.updated .balanceResidue n.img residue.natAbs })

/-- Break detection on a LOAD sample of a test in progress (R19, R149): with the force maximum at the break minimum
and the force at or below the break fraction of it, the detector disarms, the break record is set, BREAK goes to its
slot, the test enters ENDED with end cause BREAK, and the drive stops. And BREAK received (R148, R150): in RUNNING and
PAUSED, with the test id of the order held and no break record yet, the record is set with the sender and the test
enters ENDED with end cause BREAK; in HALTED and ENDED the record is set and the test state stays; any other BREAK
frame changes nothing. Each change of the test state, and of the extensometer state, brings its STATE notice (R78). -/
def Obligations.BreakEndsTheTest : Prop :=
  (∀ (n : Node) (e : HistEntry) (p : OrderPart3), n.part3 = some p → n.testInProgress = true →
      e.flags.held = false → n.lc.breakArmed = true → p.breakMinimum ≤ n.lc.fmax →
      e.value ≤ roundDiv (n.lc.fmax * p.breakFraction) 1000 → n.hlt.breakRecord = none →
      let m := n.detectBreak e
      m.lc = { n.lc with breakArmed := false } ∧
        m.hlt = { n.hlt with breakRecord := some ⟨n.nodeId, n.now⟩ } ∧
        m.seq.test = some .ended ∧ m.seq.endCause = some .byBreak ∧ n.closedBy m .byBreak n.now ∧
        n.notified m ∧
        (n.active = true → m.fbc.breakSlot = some (broadcastFrame .break_ (be16 n.testId))) ∧
        (n.roles.drive = true → m.tsg.directlyStopped) ∧
        m.pins = n.pins ∧ m.clk = n.clk ∧ m.sul = n.sul ∧ m.pta = n.pta ∧ m.hlm = n.hlm ∧
        m.datums = n.datums) ∧
  ∀ (n : Node) (q : List Instr) (f : RxFrame) (t : TestState), n.delivers .break_ f →
    n.seq.test = some t →
    let taken : Prop := f.payload.length = 2 ∧ n.seq.order ≠ none ∧ nat16At f.payload 0 = n.testId ∧
      n.hlt.breakRecord = none
    (¬taken ∨ t = .ready ∨ t = .armed → exec .breakFrame ⟨n, q⟩ = .next ⟨n.popped, q⟩) ∧
    (taken → t = .running ∨ t = .paused →
      ∃ m, exec .breakFrame ⟨n, q⟩ = .next ⟨m, q⟩ ∧
        m.hlt = { n.hlt with breakRecord := some ⟨f.header.sender, n.now⟩ } ∧
        m.seq.test = some .ended ∧ m.seq.endCause = some .byBreak ∧ n.closedBy m .byBreak n.now ∧
        n.notified m ∧
        (n.roles.drive = true → m.tsg.directlyStopped) ∧ m.lc = n.lc ∧ m.pta = n.pta ∧ m.hlm = n.hlm) ∧
    (taken → t = .halted ∨ t = .ended →
      ∃ m, exec .breakFrame ⟨n, q⟩ = .next ⟨m, q⟩ ∧
        m.hlt = { n.hlt with breakRecord := some ⟨f.header.sender, n.now⟩ } ∧ m.seq = n.seq ∧
        (m.exh.st ≠ n.exh.st → n.notified m) ∧ m.tsg = n.tsg ∧ m.cmu = n.cmu ∧ m.lc = n.lc ∧
        m.pta = n.pta ∧ m.hlm = n.hlm)

/-! ### Halts -/

/-- A local cause reaching the halt unit (R137, R142, R144): without a test state or in HALTED it changes nothing;
otherwise the node enters HALTED with itself as originator, the OPEN entry closes with HALT, and an ACTIVE node
fills an empty HALT slot and submits a STATE notice (R78). A test in progress without an end cause ends with HALT
(R136, as log 17 reads it). The two outputs of the halt unit (R152). And STOP_INPUT_SAMPLE (R146): an assertion that
the watch did not stand at raises STOP-INPUT; every other sample only becomes the level the watch stands at. Beside
that level, which CLEAR and FRAME-RESET release, the level the sample found is kept for the START that comes before
the next (log 13). -/
def Obligations.LocalCausesAndStopEnterHalted : Prop :=
  ((∀ (n : Node) (cause : HaltCause),
      (n.seq.test = none ∨ n.seq.test = some .halted → n.localCause cause = n) ∧
      (∀ t, n.seq.test = some t → t ≠ .halted →
        let m := n.localCause cause
        n.haltedBy m cause n.nodeId ∧ n.closedBy m .byHalt n.now ∧
          m.seq.endCause = (if n.testInProgress then n.seq.endCause.or (some .byHalt) else n.seq.endCause) ∧
          m.seq.op = n.seq.op ∧ m.seq.order = n.seq.order ∧ m.seq.cursor = n.seq.cursor ∧
          m.hlt = { n.hlt with record := m.hlt.record } ∧
          (n.active = true → cause ≠ .duplicateId → n.fbc.haltSlot = none →
            m.fbc.haltSlot = some (broadcastFrame .halt [cause.code, byteOf n.nodeId.val])) ∧
          (∀ f, n.fbc.haltSlot = some f → m.fbc.haltSlot = some f) ∧
          m.lc = n.lc ∧ m.pta = n.pta ∧ m.hlm = n.hlm ∧ m.datums = n.datums ∧ m.pins = n.pins ∧
          m.clk = n.clk ∧ m.sul = n.sul ∧ m.filters = n.filters)) ∧
    ∀ n : Node,
      (n.faultOut = true ↔ n.seq.op ≠ .active ∨ n.seq.test = some .halted) ∧
      (n.drvEn = true ↔ n.seq.op = .active ∧ n.seq.test ≠ some .halted)) ∧
  ∀ (n : Node) (q : List Instr) (asserted : Bool), n.inService = true →
    let pins := { n.pins with stop := asserted }
    (asserted = false ∨ n.hlt.stopPrev = true ∨ n.seq.test = some .halted →
      exec (.stopInputSample asserted) ⟨n, q⟩ = .next ⟨{ n with
        pins := pins, hlt := { n.hlt with stopPrev := asserted, stopFound := asserted } }, q⟩) ∧
    (asserted = true → n.hlt.stopPrev = false → n.seq.test ≠ some .halted →
      ∃ m, exec (.stopInputSample asserted) ⟨n, q⟩ = .next ⟨m, q⟩ ∧
        n.haltedBy m .stopInput n.nodeId ∧ m.hlt.stopPrev = true ∧ m.hlt.stopFound = true ∧
        m.pins = pins ∧ m.hlt.breakRecord = n.hlt.breakRecord ∧ m.lc = n.lc ∧ m.pta = n.pta ∧
        m.hlm = n.hlm)

/-- HALT received (R143, R194): in every test state but HALTED and ENDED the node enters HALTED with the frame's
cause and originator and sends no HALT of its own; in ENDED with no record yet the record is NOTED and a
jog in progress ends by a direct stop; a further one changes nothing. The two bytes name the cause and the
originator; a frame of another length, with a cause outside 1 to 13 or an originator above 15, is OPERATOR from its
sender (the model's choice, log 18). -/
def Obligations.HaltFrameReceived : Prop :=
  (∀ (h : Header) (rx : Time) (c : HaltCause) (o : Fin 16) (p : List Byte),
    haltOf ⟨h, [c.code, byteOf o.val], rx⟩ = (c, o) ∧
    (p.length ≠ 2 ∨ natAt p 0 = 0 ∨ 13 < natAt p 0 ∨ 15 < natAt p 1 →
      haltOf ⟨h, p, rx⟩ = (.operator, h.sender))) ∧
  ∀ (n : Node) (q : List Instr) (f : RxFrame) (t : TestState), n.delivers .halt f → n.seq.test = some t →
    (t = .halted ∨ t = .ended ∧ n.hlt.record ≠ none → exec .haltFrame ⟨n, q⟩ = .next ⟨n.popped, q⟩) ∧
    (t = .ended → n.hlt.record = none →
      ∃ m, exec .haltFrame ⟨n, q⟩ = .next ⟨m, q⟩ ∧
        m = { n.popped with tsg := m.tsg, hlt := { n.hlt with
          record := some ⟨(haltOf f).1, (haltOf f).2, n.now, false⟩ } } ∧
        (n.tsg.jog = .idle → m.tsg = n.tsg) ∧
        (n.tsg.jog ≠ .idle → n.roles.drive = true → m.tsg.directlyStopped)) ∧
    (t ≠ .halted → t ≠ .ended →
      ∃ m, exec .haltFrame ⟨n, q⟩ = .next ⟨m, q⟩ ∧ n.haltedBy m (haltOf f).1 (haltOf f).2 ∧
        n.closedBy m .byHalt n.now ∧ m.fbc.haltSlot = n.fbc.haltSlot ∧
        m.hlt.breakRecord = n.hlt.breakRecord ∧ m.lc = n.lc ∧ m.pta = n.pta ∧ m.hlm = n.hlm)

/-! ### Travel and step generator -/

/-- ENCODER_EVENT (R21, R22) and ARM_EVENT (R42, R21): a step along the cycle 00, 10, 11, 01 counts up, a step back
counts down, an unchanged pair nothing; a pair in which both levels change latches ENCODER-FAULT and raises the cause,
and for an arm sets that arm's fault flag and nothing more. A line whose level changes has it accepted and times
nothing; the other line's filter, and the other arm, are untouched. That the raw level of such a line is the accepted
one is the model's choice (log 4). -/
def Obligations.QuadratureEventsCount : Prop :=
  (∀ (n : Node) (q : List Instr) (a b : Bool), n.driveLive = true →
      let A := n.filters.encA.accepted
      let B := n.filters.encB.accepted
      let pins := { n.pins with
        encA := if a = A then n.pins.encA else a, encB := if b = B then n.pins.encB else b }
      let filters := { n.filters with
        encA := if a = A then n.filters.encA else ⟨a, 0⟩, encB := if b = B then n.filters.encB else ⟨b, 0⟩ }
      let counted (k : Int) : Host.Outcome State Fault Refusal :=
        .next ⟨{ n with pins := pins, filters := filters, tsg := { n.tsg with count := n.tsg.count + k } }, q⟩
      (a = A → b = B → exec (.encoderEvent a b) ⟨n, q⟩ = counted 0) ∧
      (a = !B → b = A → exec (.encoderEvent a b) ⟨n, q⟩ = counted 1) ∧
      (a = B → b = !A → exec (.encoderEvent a b) ⟨n, q⟩ = counted (-1)) ∧
      (a = !A → b = !B →
        ∃ m, exec (.encoderEvent a b) ⟨n, q⟩ = .next ⟨m, q⟩ ∧ m.tsg.encFault = true ∧
          m.tsg.count = n.tsg.count ∧ m.pins = pins ∧ m.filters = filters ∧ m.lc = n.lc ∧ m.pta = n.pta ∧
          m.hlm = n.hlm ∧ (n.seq.test ≠ some .halted → n.haltedBy m .encoderFault n.nodeId))) ∧
  ∀ (n : Node) (q : List Instr) (a b : Bool), n.extLive = true →
    let told (x : ArmState) (A B : Bool) : ArmState :=
      if a = A ∧ b = B then x
      else if a = !B ∧ b = A then { x with count := x.count + 1 }
      else if a = B ∧ b = !A then { x with count := x.count - 1 }
      else { x with fault := true }
    let raw (x : LineFilter) (pin level : Bool) : Bool := if level = x.accepted then pin else level
    let took (x : LineFilter) (level : Bool) : LineFilter := if level = x.accepted then x else ⟨level, 0⟩
    let f := n.filters
    let p := n.pins
    exec (.armEvent .one a b) ⟨n, q⟩ = .next ⟨{ n with
      pins := { p with arm1A := raw f.arm1A p.arm1A a, arm1B := raw f.arm1B p.arm1B b }
      filters := { f with arm1A := took f.arm1A a, arm1B := took f.arm1B b }
      exh := { n.exh with arm1 := told n.exh.arm1 f.arm1A.accepted f.arm1B.accepted } }, q⟩ ∧
    exec (.armEvent .two a b) ⟨n, q⟩ = .next ⟨{ n with
      pins := { p with arm2A := raw f.arm2A p.arm2A a, arm2B := raw f.arm2B p.arm2B b }
      filters := { f with arm2A := took f.arm2A a, arm2B := took f.arm2B b }
      exh := { n.exh with arm2 := told n.exh.arm2 f.arm2A.accepted f.arm2B.accepted } }, q⟩

/-- DRIVE_PACER_EXPIRY with nothing to halt it, no level error and no publish point (R24, R28, R29, R30, R34, R36).
No side is newly violated or approached, the following error is within its limit or not judged, and no start meets a
stale partner, also where a side stays violated or a partner is stale under a moving generator. It makes one ramp
step of the commanded velocity, which establishes a mode or completes an entry step (R100 to R103); the issued
velocity clamped to v_max; the generator set to its period, reloaded early or its stop withdrawn, or asked to stop
(R30, R32, R33); and while it then moves, the following error handed to the health monitor (R24). That an entry step
completes in whatever established mode the expiry finds it is the model's reading (log 16). The positions are those
spelled in `PacerPublishesTravel`. -/
def Obligations.PacerExpiryRampsAndIssues : Prop :=
  ∀ (n : Node) (q : List Instr) (lo hi : Bool), n.driveLive = true → n.active = true →
    n.seq.test ≠ some .halted → n.tsg.level = none ∨ n.partnerAt n.now = none →
    n.tsg.pubCount + 1 ≠ n.travelEvery →
    let a := n.img.drive.accel
    let w := n.tsg.wanted
    let c := n.tsg.commanded
    let c' := if ((w - c).natAbs : Int) ≤ a then w else if c < w then c + a else c - a
    let v := clamp (-n.img.drive.vMax) n.img.drive.vMax c'
    let low : Bool := decide (n.absolutePos ≤ n.img.drive.travelMin) || lo
    let high : Bool := decide (n.img.drive.travelMax ≤ n.absolutePos) || hi
    (low = true → n.tsg.violLo = true ∧ 0 ≤ v) → (high = true → n.tsg.violHi = true ∧ v ≤ 0) →
    ((n.followingError.natAbs : Int) ≤ n.img.drive.followLimit ∨
      n.tsg.gen.st = .stopped ∧ n.tsg.gen.runDown = false ∧ v = 0) →
    n.staleUse .partnerTravel = false ∨ n.tsg.gen.st ≠ .stopped ∨ v = 0 →
    ∃ m, exec (.drivePacerExpiry lo hi) ⟨n, q⟩ = .next ⟨m, q⟩ ∧
      m.tsg = { n.tsg with
        commanded := c', issued := v, violLo := low, violHi := high, pubCount := n.tsg.pubCount + 1
        jog := if n.tsg.jog = .ending ∧ c' = 0 then .idle else n.tsg.jog, gen := m.tsg.gen } ∧
      n.retimed v m.tsg.gen ∧
      m.hlm = (if m.tsg.gen.st = .stopped then n.hlm else { n.hlm with
        following := n.hlm.following.updated .following n.img n.followingError.natAbs }) ∧
      (n.cmu.requested = .hold → c' = 0 → m.cmu.established = .hold) ∧
      (n.cmu.requested = .crossheadRate → c' = n.cmu.reqVel → m.cmu.established = .crossheadRate) ∧
      (n.cmu.requested.closed = true → n.cmu.entryStep = true → c' = n.cmu.entryVel →
        m.cmu.established = n.cmu.requested ∧ m.cmu.entryStep = false ∧
          m.cmu.lock = some .acquiring) ∧
      m.pins = { n.pins with limLo := lo, limHi := hi } ∧ m.seq = n.seq ∧ m.lc = n.lc ∧
      m.exh = n.exh ∧ m.datums = n.datums ∧ m.pta = n.pta ∧ m.hlt = n.hlt ∧ m.evl = n.evl ∧
      m.clk = n.clk ∧ m.sul = n.sul ∧ m.filters = n.filters

/-- The level between the two columns, at DRIVE_PACER_EXPIRY (R38, R39). In DATUM with a partner sample held, the
level error beyond the tilt limit halts with TILT; with nothing else to halt the node and no publish point, the
velocity is trimmed by the clamped level error before it is issued, the generator takes it (R30, R32), the level
error and in motion the following error (R24) are handed to the health monitor, and a raw trim beyond its bound
marks the open segment LEVEL-SATURATED. A generator that starts from STOPPED while the partner's subscription is
stale halts with PARTNER-LOST, in DATUM with a sample held by the trimmed velocity, and else by the ramp's. The
partner's position is its history's answer by EXTRAPOLATE (R37, R95). An accepted image's v_max is above 0. -/
def Obligations.LevelTrimmedAndGuarded : Prop :=
  (∀ (n : Node) (t : Time), n.partnerAt t = (n.subOfUse .partnerTravel).bind fun i =>
    (answerExtrapolate (n.sub i).hist t).map (·.value)) ∧
  ∀ (n : Node) (q : List Instr) (lo hi : Bool) (t : TestState), n.driveLive = true →
    n.seq.test = some t → t ≠ .halted → 0 ≤ n.img.drive.vMax →
    let a := n.img.drive.accel
    let w := n.tsg.wanted
    let c := n.tsg.commanded
    let c' := if ((w - c).natAbs : Int) ≤ a then w else if c < w then c + a else c - a
    let vMax := n.img.drive.vMax
    let low : Bool := decide (n.absolutePos ≤ n.img.drive.travelMin) || lo
    let high : Bool := decide (n.img.drive.travelMax ≤ n.absolutePos) || hi
    (∀ d p, n.tsg.level = some d → n.partnerAt n.now = some p →
      let e := (n.absolutePos - p) - d
      let sign : Int := if 0 < c' then 1 else if c' < 0 then -1 else 0
      let raw := roundDiv (e * sign * 65536) n.img.drive.levelSpan
      let v := clamp (-vMax) vMax (roundDiv (c' * (65536 - clamp (-8192) 8192 raw)) 65536)
      (n.img.drive.tiltLimit < (e.natAbs : Int) →
        ∃ m, exec (.drivePacerExpiry lo hi) ⟨n, q⟩ = .next ⟨m, q⟩ ∧ n.haltedBy m .tilt n.nodeId ∧
          m.hlm.level = n.hlm.level.updated .level n.img e.natAbs ∧
          m.lc = n.lc ∧ m.pta = n.pta ∧ m.clk = n.clk ∧ m.sul = n.sul) ∧
      ((e.natAbs : Int) ≤ n.img.drive.tiltLimit → n.active = true → v ≠ 0 →
        n.staleUse .partnerTravel = true → n.tsg.gen.st = .stopped →
        ∃ m, exec (.drivePacerExpiry lo hi) ⟨n, q⟩ = .next ⟨m, q⟩ ∧ n.haltedBy m .partnerLost n.nodeId ∧
          m.hlm.level = n.hlm.level.updated .level n.img e.natAbs ∧
          m.lc = n.lc ∧ m.pta = n.pta ∧ m.clk = n.clk ∧ m.sul = n.sul) ∧
      ((e.natAbs : Int) ≤ n.img.drive.tiltLimit → n.active = true →
        n.staleUse .partnerTravel = false ∨ n.tsg.gen.st ≠ .stopped ∨ v = 0 →
        (low = true → n.tsg.violLo = true ∧ 0 ≤ v) → (high = true → n.tsg.violHi = true ∧ v ≤ 0) →
        ((n.followingError.natAbs : Int) ≤ n.img.drive.followLimit ∨
          n.tsg.gen.st = .stopped ∧ n.tsg.gen.runDown = false ∧ v = 0) →
        n.tsg.pubCount + 1 ≠ n.travelEvery →
        ∃ m, exec (.drivePacerExpiry lo hi) ⟨n, q⟩ = .next ⟨m, q⟩ ∧
          m.tsg = { n.tsg with
            commanded := c', issued := v, violLo := low, violHi := high
            pubCount := n.tsg.pubCount + 1
            jog := if n.tsg.jog = .ending ∧ c' = 0 then .idle else n.tsg.jog, gen := m.tsg.gen } ∧
          n.retimed v m.tsg.gen ∧
          m.hlm = { n.hlm with
            level := n.hlm.level.updated .level n.img e.natAbs
            following := if m.tsg.gen.st = .stopped then n.hlm.following
              else n.hlm.following.updated .following n.img n.followingError.natAbs } ∧
          ((raw.natAbs : Int) ≤ 8192 ∨ n.seq.openEntry = none → m.seq = n.seq) ∧
          (∀ g, 8192 < (raw.natAbs : Int) → n.seq.openEntry = some g →
            let marked : Segment := { g with summary := { g.summary with levelSaturated := true } }
            m.seq = { n.seq with segs := n.seq.segs.set n.seq.cursor marked }) ∧
          m.pins = { n.pins with limLo := lo, limHi := hi } ∧
          m.lc = n.lc ∧ m.exh = n.exh ∧ m.datums = n.datums ∧ m.pta = n.pta ∧ m.hlt = n.hlt ∧
          m.evl = n.evl ∧ m.clk = n.clk ∧ m.sul = n.sul ∧ m.filters = n.filters)) ∧
    (n.tsg.level = none ∨ n.partnerAt n.now = none → n.active = true → c' ≠ 0 → 0 < vMax →
      n.staleUse .partnerTravel = true → n.tsg.gen.st = .stopped →
      ∃ m, exec (.drivePacerExpiry lo hi) ⟨n, q⟩ = .next ⟨m, q⟩ ∧ n.haltedBy m .partnerLost n.nodeId ∧
        m.lc = n.lc ∧ m.pta = n.pta ∧ m.clk = n.clk ∧ m.sul = n.sul)

/-- The positions of the drive (R23): encoder count and pulse count by their scales, each clamped to 2,000,000,000
nm, and the following error, their difference. DRIVE_PACER_EXPIRY at a publish point (R25, R28), whatever else the
expiry brings about: the TRAVEL sample carries the absolute position, FAULT with ENCODER-FAULT, and the local time;
it goes to the history and with the established mode, as this expiry's ramp leaves it, to its slot, before the
sequencer judges the travel, which may establish another. The order of the expiry's effects is the model's choice
(log 6). The layouts and codes are those spelled in `CheckValueAndFrameRoundTrip`. -/
def Obligations.PacerPublishesTravel : Prop :=
  (∀ n : Node,
    let within (x : Int) : Int :=
      if x < -2000000000 then -2000000000 else if 2000000000 < x then 2000000000 else x
    n.absolutePos = within (n.tsg.count * n.img.drive.encScale) ∧
    n.commandedPos = within (n.tsg.pulses * n.img.drive.step) ∧
    n.followingError = n.commandedPos - n.absolutePos ∧ n.travelEvery = 1000 / n.img.travelRate) ∧
  ∀ (n : Node) (q : List Instr) (lo hi : Bool), n.driveLive = true →
    n.tsg.pubCount + 1 = n.travelEvery →
    let a := n.img.drive.accel
    let w := n.tsg.wanted
    let c := n.tsg.commanded
    let c' := if ((w - c).natAbs : Int) ≤ a then w else if c < w then c + a else c - a
    let mode : Mode :=
      if n.cmu.requested = .hold ∧ c' = 0 then .hold
      else if n.cmu.requested = .crossheadRate ∧ c' = n.cmu.reqVel then .crossheadRate
      else if n.cmu.requested.closed = true ∧ n.cmu.entryStep = true ∧ c' = n.cmu.entryVel then
        n.cmu.requested
      else n.cmu.established
    ∃ m, exec (.drivePacerExpiry lo hi) ⟨n, q⟩ = .next ⟨m, q⟩ ∧
      (let flags : SampleFlags := { fault := n.tsg.encFault, degraded := m.hlm.degraded .travel }
      m.tsg.hist = pushHist n.tsg.hist ⟨n.tsg.prod, n.now, n.absolutePos, flags⟩ ∧
        m.tsg.prod = n.tsg.prod + 1 ∧ m.tsg.pubCount = 0 ∧ m.tsg.count = n.tsg.count ∧
        m.tsg.pulses = n.tsg.pulses ∧
        m.fbc.travelSlot = if n.active then refill n.fbc.travelSlot
            (broadcastFrame .sample (samplePayload .travel flags mode.code n.now n.absolutePos)) n.now
          else n.fbc.travelSlot) ∧
      m.lc = n.lc ∧ m.pta = n.pta ∧ m.clk = n.clk ∧ m.sul = n.sul ∧ m.datums = n.datums

/-- DRIVE_PACER_EXPIRY that finds a side newly violated, or a violated side toward which this expiry issues a
velocity: TRAVEL-LIMIT (R34). And one that raises no such cause and finds the following error beyond its limit
(R24), also where a side stays violated: FOLLOWING, where the generator runs, its run-down mark stands, or this
expiry starts it. Each in DATUM and in NO-DATUM (R38), with the trimmed velocity where a partner sample is held,
with no tilt and no start under a stale partner. The positions are those spelled in `PacerPublishesTravel`. -/
def Obligations.PacerExpiryHalts : Prop :=
  ∀ (n : Node) (q : List Instr) (lo hi : Bool) (t : TestState), n.driveLive = true →
    n.seq.test = some t → t ≠ .halted →
    let a := n.img.drive.accel
    let w := n.tsg.wanted
    let c := n.tsg.commanded
    let c' := if ((w - c).natAbs : Int) ≤ a then w else if c < w then c + a else c - a
    let low : Bool := decide (n.absolutePos ≤ n.img.drive.travelMin) || lo
    let high : Bool := decide (n.img.drive.travelMax ≤ n.absolutePos) || hi
    let apart (d p : Int) : Int := (n.absolutePos - p) - d
    let sign : Int := if 0 < c' then 1 else if c' < 0 then -1 else 0
    let trimmed (e : Int) : Int := roundDiv
      (c' * (65536 - clamp (-8192) 8192 (roundDiv (e * sign * 65536) n.img.drive.levelSpan))) 65536
    let v := clamp (-n.img.drive.vMax) n.img.drive.vMax (match n.tsg.level, n.partnerAt n.now with
      | some d, some p => trimmed (apart d p)
      | _, _ => c')
    (∀ d p, n.tsg.level = some d → n.partnerAt n.now = some p →
      ((apart d p).natAbs : Int) ≤ n.img.drive.tiltLimit) →
    n.staleUse .partnerTravel = false ∨ n.tsg.gen.st ≠ .stopped ∨ v = 0 ∨ n.active = false →
    let raises : Prop := low = true ∧ (n.tsg.violLo = false ∨ v < 0) ∨
      high = true ∧ (n.tsg.violHi = false ∨ 0 < v)
    let judged : Prop := n.tsg.gen.st ≠ .stopped ∨ n.tsg.gen.runDown = true ∨ n.active = true ∧ v ≠ 0
    ∃ m, exec (.drivePacerExpiry lo hi) ⟨n, q⟩ = .next ⟨m, q⟩ ∧
      (raises → n.haltedBy m .travelLimit n.nodeId) ∧
      (¬raises → n.img.drive.followLimit < (n.followingError.natAbs : Int) → judged →
        n.haltedBy m .following n.nodeId) ∧
      m.tsg.violLo = low ∧ m.tsg.violHi = high ∧
      m.lc = n.lc ∧ m.pta = n.pta ∧ m.clk = n.clk ∧ m.sul = n.sul

/-- GENERATOR_UNDERFLOW, STEP_PULSE_END and RUN_DOWN_TIMER_EXPIRY (R23, R24, R31, R33): in RUNNING one pulse
in the direction in force, high for min(period / 2, width); in STOPPING no pulse, STOPPED, the run-down mark
and its timer; the pulse falls; the mark is cleared. That an underflow named in STOPPED changes nothing (log 3) and
that the counter stands at 0 in STOPPED (log 27) is the model's choice. -/
def Obligations.GeneratorEvents : Prop :=
  ∀ (n : Node) (q : List Instr), n.driveLive = true →
    let g := n.tsg.gen
    let left (t : Tsg) : Host.Outcome State Fault Refusal := .next ⟨{ n with tsg := t }, q⟩
    (g.st = .running → exec .generatorUnderflow ⟨n, q⟩ = left { n.tsg with
      pulses := if g.dirPos then n.tsg.pulses + 1 else n.tsg.pulses - 1
      gen := { g with counter := g.period, dirHigh := g.dirPos, stepHigh := true
                      pulseLeft := min (g.period / 2) n.img.drive.pulseWidth } }) ∧
    (g.st = .stopping → exec .generatorUnderflow ⟨n, q⟩ = left { n.tsg with
      gen := { g with st := .stopped, counter := 0, runDown := true
                      runDownAt := some (after n.now 100000) } }) ∧
    (g.st = .stopped → exec .generatorUnderflow ⟨n, q⟩ = left n.tsg) ∧
    (g.stepHigh = true → exec .stepPulseEnd ⟨n, q⟩ = left { n.tsg with
      gen := { g with stepHigh := false, pulseLeft := 0 } }) ∧
    (due n.now g.runDownAt = true → exec .runDownTimerExpiry ⟨n, q⟩ = left { n.tsg with
      gen := { g with runDown := false, runDownAt := none } })

/-- JOG accepted and STOP_JOG (R35, R36, R37): JOGGING at the jog velocity, the level datum captured at a jog
start where there is a partner; STOP-JOG turns JOGGING into ENDING with wanted velocity 0, and does
nothing in IDLE and ENDING. -/
def Obligations.JogAcceptedAndStopped : Prop :=
  ∀ (n : Node) (q : List Instr) (f : RxFrame), n.active = true → n.roles.drive = true →
    (∀ t, n.delivers (.command .jog) f → n.seq.test = some t → t = .ready ∨ t = .armed ∨ t = .ended →
      let v := int32At f.payload 1
      v ≠ 0 → (v.natAbs : Int) ≤ n.img.drive.vMax → n.tsg.towardViolated v = false →
      exec .jog ⟨n, q⟩ = .next ⟨{ n.popped with tsg := { n.tsg with
        jog := .jogging, wanted := v
        level := if n.tsg.jog = .idle ∧ n.partner.isSome = true then
            (n.partnerAt n.now).map fun p => n.absolutePos - p
          else n.tsg.level } }, q⟩) ∧
    (n.delivers (.command .stopJog) f →
      exec .stopJog ⟨n, q⟩ = .next ⟨if n.tsg.jog = .jogging then
          { n.popped with tsg := { n.tsg with wanted := 0, jog := .ending } }
        else n.popped, q⟩)

/-! ### Extensometer handler -/

/-- ARM_READING away from a publish point, with the arm-closed pair not open or nothing to be judged of an open one
(R43, R44, R51, R57, R58): the reading is kept; in ATTACHED two readings with both arms good whose changes differ by
more than the slip threshold re-reference the arm that moved more, set the SLIP mark and hand one slip; two equal
changes count as arm 2's. An open pair with something to judge is `ReadingFormsTheStrainSample`'s first clause. -/
def Obligations.ArmReadingKeptOrCorrected : Prop :=
  ∀ (n : Node) (q : List Instr), n.extLive = true →
    n.pairOpen = false ∨ n.exh.st ≠ .releasing ∧ n.exh.releaseOut = false →
    n.exh.pubCount + 1 ≠ n.strainEvery →
    let el (x : ArmState) : Int :=
      clamp (-2000000000) 2000000000 ((x.count - x.ref) * n.img.drive.armScale)
    let left (x : Exh) (h : Hlm) : Host.Outcome State Fault Refusal :=
      .next ⟨{ n with exh := { x with pubCount := n.exh.pubCount + 1 }, hlm := h }, q⟩
    let A := n.exh.arm1
    let B := n.exh.arm2
    (n.exh.st ≠ .attached ∨ n.exh.prev = none → exec .armReading ⟨n, q⟩ =
      left { n.exh with prev := some ⟨el A, el B, !A.fault, !B.fault⟩ } n.hlm) ∧
    (∀ p : Reading, n.exh.st = .attached → n.exh.prev = some p →
      let dA := el A - p.elA
      let dB := el B - p.elB
      let slips : Prop := p.good1 = true ∧ p.good2 = true ∧ A.fault = false ∧ B.fault = false ∧
        n.img.control.slipThreshold < ((dA - dB).natAbs : Int)
      (¬slips → exec .armReading ⟨n, q⟩ =
        left { n.exh with prev := some ⟨el A, el B, !A.fault, !B.fault⟩ } n.hlm) ∧
      (slips → dB.natAbs < dA.natAbs →
        let A' := { A with ref := A.count - (B.count - B.ref) }
        exec .armReading ⟨n, q⟩ =
          left { n.exh with arm1 := A', slip := true, prev := some ⟨el A', el B, true, true⟩ }
            { n.hlm with slip := n.hlm.slip.updated .slip n.img 1 }) ∧
      (slips → ¬dB.natAbs < dA.natAbs →
        let B' := { B with ref := B.count - (A.count - A.ref) }
        exec .armReading ⟨n, q⟩ =
          left { n.exh with arm2 := B', slip := true, prev := some ⟨el A, el B', true, true⟩ }
            { n.hlm with slip := n.hlm.slip.updated .slip n.img 1 }))

/-- ARM_READING at a publish point. An open pair is judged before anything else (R57, R58), and a slip is corrected
and handed before the sample is formed (R51). In ATTACHED, DETACHED and RELEASING (R43 to R46) the elongation is the
rounded mean of two good arms, or that of the one good arm with SINGLE-ARM, or with no good arm the last value with
FAULT. In RELEASED (R59) it is derived from the snapshot, the handover ratio, the travel and the force as they
stand, with FAULT and the last value where a part is absent, and never SINGLE-ARM (log 34). The value is the strain
on the gauge length in force; the sample goes to the history and to its slot, and the SLIP mark is cleared. In
ATTACHED, with both arms good and the strain below the bound of R46, the arms' disagreement is handed to the health
monitor; the bound is 5,000,000 nε also for an order without a part 3 (log 23). Then the control mode unit, the
evaluator and the sequencer take the sample, and the learning and the release are judged. The learning (R53) takes
the ratio from the oldest and the newest history entry in ATTACHED and RUNNING where the history is full, neither
entry is flagged, travel and force bracket both times and the ratio lies in its range. Travel brackets a time where
there is a source with a datum and the history of each such source does, with no entry used HELD or FAULT, and is
the rounded mean of what each answers less its datum (R26). The order of the reading's effects (log 6) and the
compliance 0 without a part 3 of the order (log 36) are the model's choice. The layouts and codes are those spelled
in `CheckValueAndFrameRoundTrip`. -/
def Obligations.ReadingFormsTheStrainSample : Prop :=
  (∀ (n : Node) (q : List Instr), n.extLive = true → n.pairOpen = true →
    (n.exh.st = .releasing → exec .armReading ⟨n, q⟩ = exec .armReading ⟨{ n with
      exh := { n.exh with st := .released, releaseAt := none, releaseOut := false }
      fbc := if n.active then { n.fbc with
          stateSlot := refill n.fbc.stateSlot (broadcastFrame .state []) n.now }
        else n.fbc }, q⟩) ∧
    (n.exh.st ≠ .releasing → exec .armReading ⟨n, q⟩ =
      exec .armReading ⟨{ n with exh := { n.exh with releaseOut := false } }, q⟩)) ∧
  (∀ (n : Node) (arm1 : Bool),
    let el (x : ArmState) : Int :=
      clamp (-2000000000) 2000000000 ((x.count - x.ref) * n.img.drive.armScale)
    n.slipNow = some arm1 ↔ n.exh.st = .attached ∧ ∃ p, n.exh.prev = some p ∧ p.good1 = true ∧
      p.good2 = true ∧ n.exh.arm1.fault = false ∧ n.exh.arm2.fault = false ∧
      n.img.control.slipThreshold <
        (((el n.exh.arm1 - p.elA) - (el n.exh.arm2 - p.elB)).natAbs : Int) ∧
      arm1 = decide ((el n.exh.arm2 - p.elB).natAbs < (el n.exh.arm1 - p.elA).natAbs)) ∧
  (∀ (n : Node) (q : List Instr), n.extLive = true → n.exh.pubCount + 1 = n.strainEvery →
    n.pairOpen = false ∨ n.exh.st ≠ .releasing ∧ n.exh.releaseOut = false →
    let el (x : ArmState) : Int :=
      clamp (-2000000000) 2000000000 ((x.count - x.ref) * n.img.drive.armScale)
    let strain (elong : Int) : Int :=
      clamp (-2000000000) 2000000000 (roundDiv (elong * 1000000000) n.exh.gauge)
    let slippedTo (s o : ArmState) : ArmState := { s with ref := s.count - (o.count - o.ref) }
    let A := if n.slipNow = some true then slippedTo n.exh.arm1 n.exh.arm2 else n.exh.arm1
    let B := if n.slipNow = some false then slippedTo n.exh.arm2 n.exh.arm1 else n.exh.arm2
    let slip := n.exh.slip || n.slipNow.isSome
    let slipped : Hlm := if n.slipNow = none then n.hlm
      else { n.hlm with slip := n.hlm.slip.updated .slip n.img 1 }
    let bound : Int := match n.part3 with
      | some p => if p.releaseStrain = 0 then 5000000 else p.releaseStrain
      | none => 5000000
    let formed (value elong : Int) (flags : SampleFlags) : Prop :=
      let e : HistEntry := ⟨n.exh.prod, n.now, value, flags⟩
      let payload := samplePayload .strain flags n.exh.st.code n.now value
      let k : Node := { n with
        exh := { n.exh with
          arm1 := A, arm2 := B, prev := some ⟨el A, el B, !A.fault, !B.fault⟩, pubCount := 0
          hist := pushBounded 8 n.exh.hist ⟨e, elong⟩, prod := n.exh.prod + 1, slip := false
          lastValue := value, lastElong := elong }
        fbc := if n.active then { n.fbc with
            strainSlot := refill n.fbc.strainSlot (broadcastFrame .sample payload) n.now }
          else n.fbc
        hlm := if n.exh.st = .attached ∧ A.fault = false ∧ B.fault = false ∧ value < bound then
            { slipped with armDisagree :=
              slipped.armDisagree.updated .armDisagree n.img (el A - el B).natAbs }
          else slipped }
      ∃ m, exec .armReading ⟨n, q⟩ = .next ⟨m, q⟩ ∧
        m = (((((k.cmuArrival .strainRate e).evalStrain e).watchStrain e).learnStage).releaseStage e) ∧
        m.exh.hist = k.exh.hist ∧ m.exh.prod = n.exh.prod + 1 ∧ m.exh.lastValue = value ∧
        m.exh.lastElong = elong ∧ m.exh.slip = false ∧ m.exh.pubCount = 0 ∧ m.exh.arm1 = A ∧
        m.exh.arm2 = B ∧ m.fbc.strainSlot = k.fbc.strainSlot ∧ m.hlm = k.hlm ∧
        m.lc = n.lc ∧ m.pta = n.pta ∧ m.datums = n.datums ∧ m.clk = n.clk ∧ m.sul = n.sul
    (n.exh.st ≠ .released →
      let flags (single fault : Bool) : SampleFlags :=
        { detached := n.exh.st == .detached, releasing := n.exh.st == .releasing, singleArm := single
          fault := fault, slip := slip, degraded := slipped.degraded .strain }
      let mean := roundDiv (el A + el B) 2
      (A.fault = false → B.fault = false → formed (strain mean) mean (flags false false)) ∧
      (A.fault = false → B.fault = true → formed (strain (el A)) (el A) (flags true false)) ∧
      (A.fault = true → B.fault = false → formed (strain (el B)) (el B) (flags true false)) ∧
      (A.fault = true → B.fault = true →
        formed n.exh.lastValue n.exh.lastElong (flags false true))) ∧
    (n.exh.st = .released →
      let flags (fault : Bool) : SampleFlags :=
        { derived := true, unplanned := n.exh.unplanned, fault := fault, slip := n.exh.slip
          degraded := n.hlm.degraded .strain }
      let c : Int := (n.part3.map (·.compliance)).getD 0
      (∀ e s f k s' f', n.exh.snap = ⟨some e, some s, some f⟩ → n.exh.k = some k →
        n.travelNow = some s' → n.latestForce = some f' →
        let elong := clamp (-2000000000) 2000000000
          (e + roundDiv (k * ((s' - s) - roundDiv (c * (f' - f)) 1024)) 65536)
        formed (strain elong) elong (flags false)) ∧
      (n.exh.snap.elong = none ∨ n.exh.snap.travel = none ∨ n.exh.snap.force = none ∨ n.exh.k = none ∨
          n.travelNow = none ∨ n.latestForce = none →
        formed n.exh.lastValue n.exh.lastElong (flags true)))) ∧
  (∀ (n : Node) (t : Time),
    let source (h : List HistEntry) (datum : Option Int) : List (Option Int) := match datum with
      | some d => [(answerBracketed h t).map (· - d)]
      | none => []
    let answers := source n.tsg.hist n.datums.own ++ source (n.sub 0).hist n.datums.subs[0] ++
      source (n.sub 1).hist n.datums.subs[1] ++ source (n.sub 2).hist n.datums.subs[2] ++
      source (n.sub 3).hist n.datums.subs[3]
    (answers = [] ∨ none ∈ answers → n.travelBracketed t = none) ∧
    (answers ≠ [] → none ∉ answers →
      n.travelBracketed t = some (roundDiv (answers.map (·.getD 0)).sum answers.length)) ∧
    n.strainEvery = 2000 / n.img.strainRate) ∧
  ∀ n : Node,
    let unused (f : SampleFlags) : Prop :=
      f.fault = true ∨ f.detached = true ∨ f.releasing = true ∨ f.derived = true
    let c : Int := (n.part3.map (·.compliance)).getD 0
    (n.exh.st ≠ .attached ∨ n.seq.test ≠ some .running ∨ n.exh.hist.length ≠ 8 → n.learnStage = n) ∧
    ∀ a mid b, n.exh.st = .attached → n.seq.test = some .running → n.exh.hist = a :: (mid ++ [b]) →
      mid.length = 6 →
      (unused a.entry.flags ∨ unused b.entry.flags ∨ n.travelBracketed a.entry.time = none ∨
          n.travelBracketed b.entry.time = none ∨ answerBracketed n.loadHist a.entry.time = none ∨
          answerBracketed n.loadHist b.entry.time = none → n.learnStage = n) ∧
      ∀ s s' f f', ¬unused a.entry.flags → ¬unused b.entry.flags →
        n.travelBracketed a.entry.time = some s → n.travelBracketed b.entry.time = some s' →
        answerBracketed n.loadHist a.entry.time = some f →
        answerBracketed n.loadHist b.entry.time = some f' →
        let den := (s' - s) - roundDiv (c * (f' - f)) 1024
        let k := roundDiv (65536 * (b.elong - a.elong)) den
        n.learnStage = if 0 < den ∧ 4096 ≤ k ∧ k ≤ 65536 then { n with exh := { n.exh with k := some k } }
          else n

/-- ARM_CLOSED_CHANGE (R48, R49, R57, R58): outside a test a closed pair attaches and a pair no longer closed
detaches; in a test a pair found open in ATTACHED is an unplanned opening, whose snapshot is of the newest history
entry with neither FAULT nor DERIVED, its elongation, and the travel and the force that the histories answer for its
time, or has no part where there is no such entry; a pair found open in RELEASING
ends the release; nothing else changes the state, and a change brings a STATE notice (R78). -/
def Obligations.ArmClosedInputsJudged : Prop :=
  ∀ (n : Node) (q : List Instr) (c1 c2 : Bool), n.extLive = true →
    let measured := n.exh.hist.filter fun x => !x.entry.flags.fault && !x.entry.flags.derived
    let snapshot : Snapshot := match measured.getLast? with
      | some x => { elong := some x.elong, travel := n.travelAt x.entry.time
                    force := (answerNewest n.loadHist x.entry.time).map (·.value) }
      | none => { elong := none, travel := none, force := none }
    let closed := c1 && c2
    let opened := !c1 && !c2
    let out := if opened then false else n.exh.releaseOut
    ∃ m, exec (.armClosedChange c1 c2) ⟨n, q⟩ = .next ⟨m, q⟩ ∧
      m = { n with
        pins := { n.pins with arm1Closed := c1, arm2Closed := c2 }
        exh := m.exh, fbc := { n.fbc with stateSlot := m.fbc.stateSlot } } ∧
      (m.exh.st ≠ n.exh.st → n.notified m) ∧ (m.exh.st = n.exh.st → m.fbc = n.fbc) ∧
      m.exh = (match n.exh.st, n.testInProgress with
        | .detached, false => { n.exh with releaseOut := out
                                           st := if closed then .attached else .detached }
        | .attached, false => { n.exh with releaseOut := out
                                           st := if closed then .attached else .detached }
        | .attached, true => if opened then
            { n.exh with st := .released, unplanned := true, releaseOut := false
                         snap := snapshot }
          else n.exh
        | .releasing, _ => if opened then
            { n.exh with st := .released, releaseAt := none, releaseOut := false }
          else n.exh
        | _, _ => { n.exh with releaseOut := out })

/-- The two releases (R54, R55, R56): a BREAK in ATTACHED, and in a test a publish point in ATTACHED whose open
segment carries RELEASE-ALLOWED and at which the strain or the force criterion is met, take the snapshot, assert
ARM-RELEASE and start the release timeout; the snapshot's elongation is that of the newest reading, and with both
arms faulted at the command that of the newest history entry. The change of state brings a STATE notice (R78). In
every other state a BREAK does nothing. And RELEASE_TIMEOUT_EXPIRY (R57): a release whose time has run out raises
EXT-RELEASE-FAULT and does not run again. -/
def Obligations.ReleasesAndTheirTimeout : Prop :=
  (∀ n : Node,
    let released (m : Node) : Prop := m = { n with
      exh := m.exh, fbc := { n.fbc with stateSlot := m.fbc.stateSlot } } ∧ n.notified m ∧ m.exh = { n.exh with
      snap := { elong := if n.exh.arm1.fault && n.exh.arm2.fault then n.exh.hist.getLast?.map (·.elong)
                  else n.exh.prev.bind Reading.measured
                travel := n.travelNow, force := n.latestForce }
      st := .releasing, releaseOut := true
      releaseAt := some (after n.now (n.img.control.releaseTimeoutMs * 1000)) }
    (n.extLive = true → n.exh.st = .attached → released n.exhBreak) ∧
    (n.exh.st ≠ .attached → n.exhBreak = n) ∧
    ∀ e : HistEntry,
      (n.exh.st ≠ .attached ∨ n.testInProgress = false ∨ n.part3 = none ∨ n.seq.openEntry = none →
        n.releaseStage e = n) ∧
      ∀ p g, n.exh.st = .attached → n.testInProgress = true → n.part3 = some p →
        n.seq.openEntry = some g →
        let strain : Prop := p.releaseStrain ≠ 0 ∧ e.flags.fault = false ∧ p.releaseStrain ≤ e.value
        let force : Prop := p.releaseDrop ≠ 0 ∧ p.breakMinimum ≤ n.exh.forceMax ∧
          ∃ f, n.latestForce = some f ∧ f ≤ roundDiv (n.exh.forceMax * (1000 - p.releaseDrop)) 1000
        (g.fields.releaseAllowed = true → strain ∨ force → released (n.releaseStage e)) ∧
        (g.fields.releaseAllowed = false ∨ ¬strain ∧ ¬force → n.releaseStage e = n)) ∧
  ∀ (n : Node) (q : List Instr), n.extLive = true → n.exh.st = .releasing →
    due n.now n.exh.releaseAt = true →
    ∃ m, exec .releaseTimeoutExpiry ⟨n, q⟩ = .next ⟨m, q⟩ ∧ m.exh = { n.exh with releaseAt := none } ∧
      (n.seq.test ≠ some .halted → n.haltedBy m .extReleaseFault n.nodeId) ∧
      (n.seq.test = some .halted → m = { n with exh := m.exh }) ∧
      m.lc = n.lc ∧ m.pta = n.pta ∧ m.hlm = n.hlm ∧ m.pins = n.pins

/-! ### Frame bus -/

/-- RUN_START, SKIPPING_END and FRAME_RECEIVE_ERROR (R65, R70): a start bit heard in HUNTING begins a frame
and stamps it; after a FRAMING error characters are skipped until the line is idle for one bit-time; each
discarded frame is handed to the health monitor while the node has a test state (R176, R181). The idle count of 1
after one idle bit-time, and that the rest of a run which the node itself began and abandoned is handed to no
health monitor, are the model's reading (log 21). -/
def Obligations.ReceiverFollowsTheLine : Prop :=
  ∀ (n : Node) (q : List Instr), n.hears = true →
    let b := n.fbc
    let health : Hlm :=
      if n.inService && !b.ownRun then { n.hlm with bus := n.hlm.bus.updated .bus n.img 1 } else n.hlm
    let left (b : Fbc) : Host.Outcome State Fault Refusal := .next ⟨{ n with fbc := b }, q⟩
    let discards (b : Fbc) : Host.Outcome State Fault Refusal :=
      .next ⟨{ n with fbc := b, hlm := health }, q⟩
    let idle (count : Nat) : Fbc := { b with
      receiver := .hunting, ownRun := false, lineBusy := false, idleCount := count, bitPhase := 0 }
    (b.receiver = .hunting → exec .runStart ⟨n, q⟩ =
      left { b with receiver := .receiving, rxStamp := n.now, lineBusy := true }) ∧
    (b.receiver ≠ .hunting → exec .runStart ⟨n, q⟩ = left { b with lineBusy := true }) ∧
    (b.receiver = .skipping → exec .skippingEnd ⟨n, q⟩ = left (idle 1)) ∧
    (b.receiver = .receiving →
      exec (.frameReceiveError .stopBit) ⟨n, q⟩ =
        discards { b with receiver := .skipping, lineBusy := true } ∧
      exec (.frameReceiveError .lengthAbove32) ⟨n, q⟩ =
        discards { b with receiver := .skipping, lineBusy := true } ∧
      exec (.frameReceiveError .wentIdle) ⟨n, q⟩ = discards (idle 1) ∧
      exec (.frameReceiveError .check) ⟨n, q⟩ = discards (idle 0)) ∧
    (b.receiver = .hunting → exec (.frameReceiveError .startAfterComplete) ⟨n, q⟩ =
      discards { b with receiver := .skipping, lineBusy := true })

/-- FRAME_RECEIVED of a valid frame of another station (R66, R67): its header facts are handed over; a taken
kind joins the urgent queue of two or the normal queue of six, or is discarded as OVERRUN with a health
update; a frame that is not taken is dropped without one. Taken is a defined kind that is addressed to the
node or broadcast, neither REPLY nor RESULT, and a SAMPLE only of a channel it is subscribed to. -/
def Obligations.ValidFrameIsQueuedOrOverruns : Prop :=
  ∀ (n : Node) (q : List Instr) (chars : List Byte) (h : Header) (p : List Byte), n.hears = true →
    n.fbc.receiver = .receiving → judge chars = .valid h p → h.sender ≠ n.nodeId →
    (∀ k, n.takenKind h p = some k ↔
      MsgKind.ofCode h.cls h.kind = some k ∧ (h.broadcast = true ∨ h.target = n.nodeId) ∧ k ≠ .reply ∧
        k ≠ .result ∧
        (k = .sample → ∃ b rest ch i, p = b :: rest ∧ Channel.ofCode b = some ch ∧
          n.matchSub h.sender ch = some i)) ∧
    let rx := n.fbc.rxStamp
    let b : Fbc := { n.fbc with
      receiver := .hunting, ownRun := false, lineBusy := false, idleCount := 0, bitPhase := 0
      facts := n.fbc.facts ++ [⟨h.sender, h.cls, h.kind, h.seq, h.stamp, rx⟩] }
    let overrun : Hlm :=
      if n.inService then { n.hlm with bus := n.hlm.bus.updated .bus n.img 1 } else n.hlm
    (n.takenKind h p = none →
      exec (.frameReceived chars) ⟨n, q⟩ = .next ⟨{ n with fbc := b }, q⟩) ∧
    (∀ k, n.takenKind h p = some k → k.cls = .urgent →
      exec (.frameReceived chars) ⟨n, q⟩ = .next ⟨if n.fbc.urgentQ.length < 2 then
          { n with fbc := { b with urgentQ := n.fbc.urgentQ ++ [⟨h, p, rx⟩] } }
        else { n with fbc := b, hlm := overrun }, q⟩) ∧
    (∀ k, n.takenKind h p = some k → k.cls ≠ .urgent →
      exec (.frameReceived chars) ⟨n, q⟩ = .next ⟨if n.fbc.normalQ.length < 6 then
          { n with fbc := { b with normalQ := n.fbc.normalQ ++ [⟨h, p, rx⟩] } }
        else { n with fbc := b, hlm := overrun }, q⟩)

/-- FRAME_RECEIVED of a valid frame that bears the node's own id (R68): the node goes SILENT, its transmit holders are
emptied, and an ACTIVE node takes DUPLICATE-ID; in SILENT it changes nothing but the receiver. -/
def Obligations.OwnIdentityHeardSilences : Prop :=
  ∀ (n : Node) (q : List Instr) (chars : List Byte) (h : Header) (p : List Byte), n.hears = true →
    n.fbc.receiver = .receiving → judge chars = .valid h p → h.sender = n.nodeId →
    let b : Fbc := { n.fbc with
      receiver := .hunting, ownRun := false, lineBusy := false, idleCount := 0, bitPhase := 0 }
    let emptied : Fbc := { b with
      haltSlot := none, breakSlot := none, markSlot := none, loadSlot := none, travelSlot := none
      strainSlot := none, stateSlot := none, fifo := [], pendingResult := none, removal := false
      onLine := none }
    (n.seq.op = .silent → exec (.frameReceived chars) ⟨n, q⟩ = .next ⟨{ n with fbc := b }, q⟩) ∧
    (n.seq.op = .configFault → exec (.frameReceived chars) ⟨n, q⟩ =
      .next ⟨{ n with fbc := emptied, seq := { n.seq with op := .silent } }, q⟩) ∧
    (∀ t, n.seq.op = .active → n.seq.test = some t →
      ∃ m, exec (.frameReceived chars) ⟨n, q⟩ = .next ⟨m, q⟩ ∧ m.seq.op = .silent ∧ m.fbc = emptied ∧
        (t ≠ .halted → n.haltedBy m .duplicateId n.nodeId) ∧
        (t = .halted → m.seq.test = some .halted ∧ m.hlt = n.hlt) ∧
        m.pta = n.pta ∧ m.lc = n.lc ∧ m.hlm = n.hlm ∧ m.sul = n.sul)

/-- The frame whose attempt starts (R70, R71): the bus is live and the node not SILENT, it sends nothing and the
line is idle, and the idle count stands at the node's gap of a class, its base gap plus its id and 16 under a yield,
with a frame of that class ready. Ready is of the urgent slots HALT before BREAK before MARK (R74); of the full
sample slots the one filled earliest (R75); and in bulk the STATE slot where it was filled earlier than the FIFO's
front entry came in, and else the front (R76). With equal times LOAD goes before TRAVEL before STRAIN, and the front
before the STATE slot, the model's choice (log 11). ATTEMPT_START (R72, R73, R78): the contending frame is taken
from its slot, or stays at the front of the FIFO; it takes its class's sequence at its first attempt, the local time
as its stamp, and the STATE contents as the node stands; the characters go out with their check value. The layouts
and codes are those spelled in `CheckValueAndFrameRoundTrip`. -/
def Obligations.AttemptStartTakesTheContender : Prop :=
  (∀ (n : Node) (x : Holder × TxFrame), n.contender = some x ↔
    n.fbcLive = true ∧ n.seq.op ≠ .silent ∧ n.fbc.onLine = none ∧ n.fbc.lineBusy = false ∧
      ((n.fbc.idleCount = 4 + n.nodeId.val + (if n.fbc.yields.urgent then 16 else 0) ∧
          n.fbc.readyUrgent = some x) ∨
        (n.fbc.idleCount = 40 + n.nodeId.val + (if n.fbc.yields.sample then 16 else 0) ∧
          n.fbc.readySample = some x) ∨
        (n.fbc.idleCount = 76 + n.nodeId.val + (if n.fbc.yields.bulk then 16 else 0) ∧
          n.fbc.readyBulk = some x))) ∧
  (∀ b : Fbc,
    let slots : List (Holder × Option Slot) :=
      [(.loadSlot, b.loadSlot), (.travelSlot, b.travelSlot), (.strainSlot, b.strainSlot)]
    (∀ f, b.haltSlot = some f → b.readyUrgent = some (.haltSlot, f)) ∧
    (∀ f, b.haltSlot = none → b.breakSlot = some f → b.readyUrgent = some (.breakSlot, f)) ∧
    (∀ f, b.haltSlot = none → b.breakSlot = none → b.markSlot = some f →
      b.readyUrgent = some (.markSlot, f)) ∧
    (b.haltSlot = none → b.breakSlot = none → b.markSlot = none → b.readyUrgent = none) ∧
    (b.loadSlot = none → b.travelSlot = none → b.strainSlot = none → b.readySample = none) ∧
    (∀ before h s behind, slots = before ++ (h, some s) :: behind →
      (∀ h' r, (h', some r) ∈ before → later r.fill s.fill = true) →
      (∀ h' r, (h', some r) ∈ behind → later s.fill r.fill = false) →
      b.readySample = some (h, s.frame)) ∧
    (b.stateSlot = none → b.fifo = [] → b.readyBulk = none) ∧
    (∀ s, b.stateSlot = some s → b.fifo = [] → b.readyBulk = some (.stateSlot, s.frame)) ∧
    (∀ e rest, b.stateSlot = none → b.fifo = e :: rest → b.readyBulk = some (.fifo, e.frame)) ∧
    (∀ s e rest, b.stateSlot = some s → b.fifo = e :: rest → b.readyBulk =
      some (if later e.fill s.fill then (.stateSlot, s.frame) else (.fifo, e.frame))) ∧
    b.take .haltSlot = { b with haltSlot := none } ∧ b.take .breakSlot = { b with breakSlot := none } ∧
    b.take .markSlot = { b with markSlot := none } ∧ b.take .loadSlot = { b with loadSlot := none } ∧
    b.take .travelSlot = { b with travelSlot := none } ∧
    b.take .strainSlot = { b with strainSlot := none } ∧
    b.take .stateSlot = { b with stateSlot := none } ∧ b.take .fifo = b) ∧
  ∀ (n : Node) (q : List Instr) (x : Holder) (f : TxFrame), n.contender = some (x, f) →
    let c := f.kind.cls
    let s := match f.seq with
      | some s => s
      | none => n.fbc.seqs.get c
    let payload := if f.kind = .state then n.statePayload else f.payload
    let header : Header :=
      { cls := classCode c, kind := f.kind.code, sender := n.nodeId, target := f.target
        broadcast := f.broadcast, len := payload.length, seq := s, stamp := n.now }
    exec .attemptStart ⟨n, q⟩ = .next ⟨{ n with fbc := { n.fbc.take x with
      onLine := some ⟨{ f with seq := some s, payload := payload }, x, frameChars header payload, false⟩
      seqs := if f.seq = none then n.fbc.seqs.set c (s + 1) else n.fbc.seqs
      receiver := .receiving, rxStamp := n.now, lineBusy := true } }, q⟩

/-- ATTEMPT_END with every character read back equal (R71, R72): the frame is sent, a FIFO entry leaves the FIFO,
its class's yield is set and the line is idle with idle count 0. The urgent slots (R74): a HALT submitted to a full
slot is dropped; a BREAK replaces the frame there; a MARK replaces it too, unless the one there is of the same test
with the higher index. And ATTEMPT_END at the first character that differs or has no stop bit (R65, R72, R74, R75,
R76): a collision is counted; the receiver skips the rest of the run after a framing error and goes on otherwise;
after a FRAME-RESET the frame is let go, after its third attempt it is discarded with a health update (R181), a
REPLY like every other frame, and otherwise it returns to its holder with the attempt counted: to the front of the
FIFO, to an urgent slot under the slot's own rule, and to a slot of R75 only where that was not filled meanwhile.
That a MARK of the same test and index replaces the one there when it is new and gives way when it returns (log 33),
what is done with the rest of the run (log 21), that the update for a REPLY is a discard and none of the errors that
R195 leaves uncounted (log 39), and how long the mark `removal`, that an entry has left the FIFO, stands (log 12),
is the model's reading. -/
def Obligations.AttemptEnds : Prop :=
  (∀ (n : Node) (q : List Instr) (o : OnLine), n.fbc.onLine = some o →
      exec (.attemptEnd (o.chars.map fun c => ⟨c, true⟩)) ⟨n, q⟩ = .next ⟨{ n with fbc := { n.fbc with
        onLine := none, yields := n.fbc.yields.set o.frame.kind.cls true, receiver := .hunting
        lineBusy := false, idleCount := 0, bitPhase := 0
        fifo := if o.holder = .fifo then n.fbc.fifo.drop 1 else n.fbc.fifo
        removal := if o.holder = .fifo then true else n.fbc.removal } }, q⟩) ∧
  (∀ (b : Fbc) (f g : TxFrame),
    (b.haltSlot = some g → b.submitHalt f = b) ∧
    (b.haltSlot = none → b.submitHalt f = { b with haltSlot := some f }) ∧
    b.submitBreak f = { b with breakSlot := some f } ∧
    (b.markSlot = none → b.submitMark f = { b with markSlot := some f }) ∧
    (b.markSlot = some g → b.submitMark f =
      if markTest g.payload = markTest f.payload ∧ markIndex f.payload < markIndex g.payload then b
      else { b with markSlot := some f })) ∧
  ∀ (n : Node) (q : List Instr) (o : OnLine) (k : Nat) (r : LineChar), n.fbc.onLine = some o →
    k < o.chars.length → r ≠ ⟨o.chars.getD k 0, true⟩ →
    let readBack := (o.chars.take k).map (fun c => (⟨c, true⟩ : LineChar)) ++ [r]
    let b : Fbc := { n.fbc with
      onLine := none, ownRun := true, collisions := min (n.fbc.collisions + 1) 65535
      receiver := if r.stopBit then n.fbc.receiver else .skipping, idleCount := 0, bitPhase := 0 }
    let gone : Fbc := if o.holder = .fifo then { b with fifo := b.fifo.drop 1, removal := true } else b
    let f : TxFrame := { o.frame with failed := o.frame.failed + 1 }
    let left (b : Fbc) (h : Hlm) : Prop :=
      exec (.attemptEnd readBack) ⟨n, q⟩ = .next ⟨{ n with fbc := b, hlm := h }, q⟩
    let back (slot : Option Slot) : Option Slot := if slot = none then some ⟨f, n.now⟩ else slot
    (o.noRetry = true → left gone n.hlm) ∧
    (o.noRetry = false → 2 ≤ o.frame.failed → left gone
      (if n.inService then { n.hlm with bus := n.hlm.bus.updated .bus n.img 1 } else n.hlm)) ∧
    (o.noRetry = false → o.frame.failed < 2 →
      (o.holder = .fifo →
        (∀ e rest, n.fbc.fifo = e :: rest → left { b with fifo := ⟨f, e.fill⟩ :: rest } n.hlm) ∧
        (n.fbc.fifo = [] → left b n.hlm)) ∧
      (o.holder = .haltSlot → left { b with haltSlot := some f } n.hlm) ∧
      (o.holder = .breakSlot → left { b with breakSlot := some f } n.hlm) ∧
      (o.holder = .markSlot →
        (n.fbc.markSlot = none → left { b with markSlot := some f } n.hlm) ∧
        ∀ g, n.fbc.markSlot = some g → left
          (if markTest g.payload = markTest f.payload ∧ markIndex f.payload ≤ markIndex g.payload then b
            else { b with markSlot := some f }) n.hlm) ∧
      (o.holder = .loadSlot → left { b with loadSlot := back n.fbc.loadSlot } n.hlm) ∧
      (o.holder = .travelSlot → left { b with travelSlot := back n.fbc.travelSlot } n.hlm) ∧
      (o.holder = .strainSlot → left { b with strainSlot := back n.fbc.strainSlot } n.hlm) ∧
      (o.holder = .stateSlot → left { b with stateSlot := back n.fbc.stateSlot } n.hlm))

/-- YIELD_PENDING_CLEAR, PENDING_RESULT_ENTRY and SILENT_DISCARD (R67, R71, R76): once the idle count has passed the
top of a class's window, 35, 71 or 107 (after which it is 0), that class's yield is cleared; after a removal from
the FIFO the pending RESULT joins it if all its parts fit; a frame that a SILENT node discards leaves its queue, the
urgent one first, and reaches no block. That the bulk yield is cleared at any idle count of 0 when the row is given
(log 35), and the mark of a removal that lets the pending RESULT be judged once (log 12), is the model's choice. -/
def Obligations.YieldClearedPendingEnteredAndDiscarded : Prop :=
  ∀ (n : Node) (q : List Instr),
    let b := n.fbc
    let left (b : Fbc) : Host.Outcome State Fault Refusal := .next ⟨{ n with fbc := b }, q⟩
    (n.hears = true → n.seq.op ≠ .silent → b.lineBusy = false →
      (35 < b.idleCount → exec (.yieldPendingClear .urgent) ⟨n, q⟩ =
        left { b with yields := { b.yields with urgent := false } }) ∧
      (71 < b.idleCount → exec (.yieldPendingClear .sample) ⟨n, q⟩ =
        left { b with yields := { b.yields with sample := false } }) ∧
      (b.idleCount = 0 → exec (.yieldPendingClear .bulk) ⟨n, q⟩ =
        left { b with yields := { b.yields with bulk := false } })) ∧
    (∀ parts, b.pendingResult = some parts → b.removal = true →
      (b.fifo.length + parts.length ≤ 8 → exec .pendingResultEntry ⟨n, q⟩ =
        left { b with fifo := b.fifo ++ parts.map (fun f => ⟨f, n.now⟩), pendingResult := none
                      removal := false }) ∧
      (8 < b.fifo.length + parts.length → exec .pendingResultEntry ⟨n, q⟩ =
        left { b with removal := false })) ∧
    (∀ f, n.delivers .silentDiscard f →
      (∀ g rest, b.urgentQ = g :: rest → exec .silentDiscard ⟨n, q⟩ = left { b with urgentQ := rest }) ∧
      (∀ g rest, b.urgentQ = [] → b.normalQ = g :: rest →
        exec .silentDiscard ⟨n, q⟩ = left { b with normalQ := rest }))

/-- How a frame is coded. The check value (R64): the register starts with all bits set, takes each byte most
significant bit first, shifts toward its most significant end and is combined with 1021 hexadecimal where the bit
differs from the bit shifted out; it is sent upper eight bits first, over header and payload, and the image carries
the same value. A receiver that runs it over what was sent finds a valid frame with every header field and every
payload byte as the sender had them, and finds one only where the two agree (R63). The header's eight bytes, the
class and kind codes, the code values and the bits of the flag bytes lie as 12.1 has them, SAMPLE and STATE as 12.2;
every field goes most significant byte first, in two's complement where it is signed, and is read so (R193). What a
field of four bytes carries of a value that does not fit is not stated (log 9). A broadcast goes to every station,
and a slot that is full keeps its fill time when its frame is replaced (R75). -/
def Obligations.CheckValueAndFrameRoundTrip : Prop :=
  (checkValue [] = 0xFFFF ∧ ∀ (bs : List Byte) (x : Byte), checkValue (bs ++ [x]) =
    [x.getLsbD 7, x.getLsbD 6, x.getLsbD 5, x.getLsbD 4, x.getLsbD 3, x.getLsbD 2, x.getLsbD 1,
      x.getLsbD 0].foldl (fun (r : BitVec 16) (bit : Bool) =>
        if bit ≠ r.getLsbD 15 then (r <<< 1) ^^^ 0x1021 else r <<< 1) (checkValue bs)) ∧
  (∀ bs, checkBytes bs = [(checkValue bs).extractLsb' 8 8, (checkValue bs).extractLsb' 0 8]) ∧
  (∀ (h : Header) (p : List Byte), frameChars h p = (h.bytes ++ p) ++ checkBytes (h.bytes ++ p) ∧
    (h.len = p.length → p.length ≤ 32 → judge (frameChars h p) = .valid h p)) ∧
  (∀ (chars : List Byte) (h : Header) (p : List Byte), judge chars = .valid h p →
    checkBytes (chars.take (8 + p.length)) = (chars.drop (8 + p.length)).take 2) ∧
  (∀ b : List Byte, imageCheckOk b = true ↔ checkBytes (b.take 1022) = (b.drop 1022).take 2) ∧
  (∀ h : Header, h.bytes = [h.cls ++ h.kind, BitVec.ofNat 4 h.sender.val ++ BitVec.ofNat 4 h.target.val,
    BitVec.ofBool h.broadcast ++ (0 : BitVec 1) ++ BitVec.ofNat 6 h.len, h.seq] ++ be32 h.stamp) ∧
  ([MsgKind.halt, .break_, .mark, .sample, .command, .order, .segment, .query, .reply, .result, .presence,
      .state].map (fun k => ((classCode k.cls).toNat, k.code.toNat)) =
    [(1, 1), (1, 2), (1, 3), (2, 1), (3, 1), (3, 2), (3, 3), (3, 4), (3, 5), (3, 6), (3, 7), (3, 8)] ∧
    ∀ cls kind k, MsgKind.ofCode cls kind = some k ↔ classCode k.cls = cls ∧ k.code = kind) ∧
  ((∀ w : BitVec 32, be32 w =
      [w.extractLsb' 24 8, w.extractLsb' 16 8, w.extractLsb' 8 8, w.extractLsb' 0 8]) ∧
    (∀ x, be16 x = [BitVec.ofNat 8 (x / 256), BitVec.ofNat 8 x]) ∧
    (∀ x, x < 4294967296 → u32 x = be32 (BitVec.ofNat 32 x)) ∧
    (∀ x, -2147483648 ≤ x → x < 2147483648 → i32 x = be32 (BitVec.ofInt 32 x)) ∧
    ∀ (p : List Byte) (i : Nat), natAt p i = (byteAt p i).toNat ∧
      nat16At p i = natAt p i * 256 + natAt p (i + 1) ∧
      nat32At p i = nat16At p i * 65536 + nat16At p (i + 2) ∧
      int32At p i = if nat32At p i < 2147483648 then (nat32At p i : Int) else nat32At p i - 4294967296) ∧
  ((∀ ch (f : SampleFlags) aux time value, samplePayload ch f aux time value = [ch.code] ++ f.bytes ++
      [aux] ++ be32 time ++ i32 value) ∧
    (∀ f : SampleFlags, f.bytes =
      [BitVec.ofNat 8 (f.derived.toNat + 2 * f.unplanned.toNat + 4 * f.detached.toNat),
        BitVec.ofNat 8 (f.held.toNat + 2 * f.balancing.toNat + 4 * f.overrange.toNat +
          8 * f.degraded.toNat + 16 * f.slip.toNat + 32 * f.singleArm.toNat + 64 * f.fault.toNat +
          128 * f.releasing.toNat)]) ∧
    ∀ hi lo : Byte, SampleFlags.ofBytes hi lo =
      { held := lo.getLsbD 0, balancing := lo.getLsbD 1, overrange := lo.getLsbD 2
        degraded := lo.getLsbD 3, slip := lo.getLsbD 4, singleArm := lo.getLsbD 5, fault := lo.getLsbD 6
        releasing := lo.getLsbD 7, derived := hi.getLsbD 0, unplanned := hi.getLsbD 1
        detached := hi.getLsbD 2 }) ∧
  (∀ n : Node, n.statePayload = [(n.seq.test.map TestState.code).getD 0] ++
    be16 ((n.seq.order.map (·.testId)).getD 0) ++ [BitVec.ofNat 8 n.seq.cursor.val] ++
    (if n.roles.drive then [n.cmu.requested.code, n.cmu.established.code, lockCode n.cmu.lock]
      else [0, 0, 0]) ++ [if n.roles.ext then n.exh.st.code else 0] ++
    match n.hlt.record with
      | some r => if r.standing then [r.cause.code, BitVec.ofNat 8 r.originator.val] else [0, 0]
      | none => [0, 0]) ∧
  ([Channel.load, .travel, .strain].map Channel.code = [1, 2, 3] ∧
    [Mode.hold, .crossheadRate, .loadRate, .strainRate].map Mode.code = [0, 1, 2, 3] ∧
    [none, some LockState.acquiring, some .locked].map lockCode = [0, 1, 2] ∧
    [ExtState.detached, .attached, .releasing, .released].map ExtState.code = [0, 1, 2, 3] ∧
    [TestState.ready, .armed, .running, .paused, .halted, .ended].map TestState.code =
      [0, 1, 2, 3, 4, 5] ∧
    [OpState.starting, .active, .configFault, .silent].map OpState.code = [0, 1, 2, 3] ∧
    [HaltCause.stopInput, .overload, .travelLimit, .tilt, .partnerLost, .loadLost, .following,
      .encoderFault, .notReady, .extNotClosed, .extReleaseFault, .duplicateId, .operator].map
        HaltCause.code = [1, 2, 3, 4, 5, 6, 7, 8, 9, 10, 11, 12, 13] ∧
    [none, some RefusalCode.notAllowed, some .badField, some .wrongTest, some .busy, some .noRole,
      some .limit, some .zeroLimit].map refusalCode = [0, 1, 2, 3, 4, 5, 6, 7] ∧
    [EndKind.strainAtLeast, .forceAtLeast, .travelAtLeast, .timeAtLeast, .yieldSeen, .forceDrop,
      .breakOnly].map EndKind.code = [1, 2, 3, 4, 5, 6, 7] ∧
    [CloseCause.condition, .peerMark, .skipped, .byBreak, .byHalt, .byAbort].map CloseCause.code =
      [1, 2, 3, 4, 5, 6] ∧
    [none, some EndCause.lastSegment, some .byBreak, some .byAbort, some .byHalt].map endCauseCode =
      [0, 1, 2, 3, 4] ∧
    [FaultCode.check, .identity, .field, .limits, .calibration, .subscription, .source].map
      FaultCode.code = [1, 2, 3, 4, 5, 6, 7] ∧
    (∀ x : Summary, x.byte = BitVec.ofNat 8 (x.lockTimeout.toNat + 2 * x.fallback.toNat +
      4 * x.starvedBefore.toNat + 8 * x.levelSaturated.toNat + 16 * x.heldPair.toNat)) ∧
    ∀ x : Causes, x.byte = BitVec.ofNat 8 (x.degraded.toNat + 2 * x.heldPairing.toNat +
      4 * x.strainFault.toNat + 8 * x.unplannedHandover.toNat + 16 * x.noFit.toNat +
      32 * x.fitRejected.toNat)) ∧
  ∀ (k : MsgKind) (target : Fin 16) (p : List Byte) (slot : Option Slot) (now : Time),
    broadcastFrame k p = ⟨k, 0, true, p, none, 0⟩ ∧ directFrame k target p = ⟨k, target, false, p, none, 0⟩ ∧
      refill slot (broadcastFrame k p) now = some ⟨broadcastFrame k p, (slot.map (·.fill)).getD now⟩

/-! ### Peer table -/

/-- HEADER_FACTS (R82 to R85): the peer's entry becomes present with the receive stamp; the offset is seeded, moved
by a sixteenth within 500 µs, left by an outlier and re-seeded by the fourth, which empties the peer's
histories; the class's receive sequence and missed count follow the step of the sequence, and a skip in the
SAMPLE class sets the gap flags of the peer. -/
def Obligations.HeaderFactsTaken : Prop :=
  ∀ (n : Node) (q : List Instr) (f : HeaderFacts) (rest : List HeaderFacts), n.fbc.facts = f :: rest →
    let p := n.peer f.sender
    let o := f.rxStamp - f.txStamp
    let toSender (j : Fin 4) : Prop := ∃ c, n.subCfg j = some c ∧ c.peer = f.sender
    ∃ m, exec .headerFacts ⟨n, q⟩ = .next ⟨m, q⟩ ∧
      m = { n with fbc := { n.fbc with facts := rest }, pta := m.pta } ∧
      (∀ i, i ≠ f.sender → m.peer i = n.peer i) ∧ (∀ j, ¬toSender j → m.sub j = n.sub j) ∧
      (∀ j, m.sub j = { n.sub j with hist := (m.sub j).hist, gap := (m.sub j).gap }) ∧
      (¬(p.offsetValid = true ∧ p.outliers = 3 ∧ ∃ e, p.offset = some e ∧ 500 < (tdiff o e).natAbs) →
        ∀ j, (m.sub j).hist = (n.sub j).hist) ∧
      (classOfCode f.cls = none → ∀ j, (m.sub j).gap = (n.sub j).gap) ∧
      (let p' := m.peer f.sender
      p'.present = true ∧ p'.lastFrame = some f.rxStamp ∧ p'.longSilent = false ∧
        p'.silenceAt = some (after n.now 1073741824) ∧ p'.presence = p.presence ∧ p'.view = p.view ∧
        (p.offsetValid = false → p'.offset = some o ∧ p'.offsetValid = true ∧ p'.outliers = 0 ∧
          p'.reseedStamp = p.reseedStamp ∧ p'.reseedAt = p.reseedAt) ∧
        (∀ e, p.offsetValid = true → p.offset = some e → (tdiff o e).natAbs ≤ 500 →
          p'.offset = some (e + BitVec.ofInt 32 (roundDiv (tdiff o e) 16)) ∧ p'.offsetValid = true ∧
            p'.outliers = 0 ∧ p'.reseedStamp = p.reseedStamp ∧ p'.reseedAt = p.reseedAt) ∧
        (∀ e, p.offsetValid = true → p.offset = some e → 500 < (tdiff o e).natAbs → p.outliers ≠ 3 →
          p'.offset = some e ∧ p'.offsetValid = true ∧ p'.outliers = p.outliers + 1 ∧
            p'.reseedStamp = p.reseedStamp ∧ p'.reseedAt = p.reseedAt) ∧
        (∀ e, p.offsetValid = true → p.offset = some e → 500 < (tdiff o e).natAbs → p.outliers = 3 →
          p'.offset = some o ∧ p'.offsetValid = true ∧ p'.outliers = 0 ∧
            p'.reseedStamp = some f.rxStamp ∧ p'.reseedAt = some (after n.now 1073741824) ∧
            ∀ j, toSender j → (m.sub j).hist = []) ∧
        (∀ c, classOfCode f.cls ≠ some c →
          p'.rxSeq.get c = p.rxSeq.get c ∧ p'.missed.get c = p.missed.get c) ∧
        ∀ c, classOfCode f.cls = some c →
          (p.rxSeq.get c = none → p'.rxSeq.get c = some f.seq ∧
            p'.missed.get c = min (p.missed.get c) 65535 ∧
            ∀ j, toSender j → (m.sub j).gap = (n.sub j).gap) ∧
          ∀ r, p.rxSeq.get c = some r →
            let d := (f.seq - r).toNat
            p'.rxSeq.get c = some (if d = 0 ∨ 248 ≤ d then r else f.seq) ∧
              p'.missed.get c = min (p.missed.get c + if 2 ≤ d ∧ d ≤ 127 then d - 1 else 0) 65535 ∧
              ∀ j, toSender j → (m.sub j).gap =
                ((n.sub j).gap || decide (c = .sample ∧ 2 ≤ d ∧ d ≤ 127)))

/-- SAMPLE_ARRIVAL (R89, R91): the sample is entered with its converted time, which clears the stale flag and
restarts the timer, and is offered to its consumers, also where a restart emptied the peer's histories first; it is
dropped without an offset, before a re-seed, as a repeat or late, or out of time order, and a wrong length changes
nothing (R194). The consumers by the use of the subscription: a LOAD-SOURCE sample of a node without LOAD raises the
extensometer's force maximum (R52) and the sequencer's (R128), and reaches the control mode unit, the evaluator and
the watch; a STRAIN-SOURCE sample of a node without EXT reaches those three; a TRAVEL sample sets the datum its
source has awaited since START (R26) and reaches the watch. Beside the node's own source of the quantity it reaches
none. The order of the consumers (log 6) is the model's choice. The SAMPLE layout is spelled in
`CheckValueAndFrameRoundTrip`. -/
def Obligations.SampleEnteredOrDropped : Prop :=
  (∀ (n : Node) (i : Fin 4) (c : SubCfg) (e : HistEntry), n.subCfg i = some c →
    let counts : Prop := n.testInProgress = true ∧ e.flags.held = false
    let forced : Node := { n with
      exh := if counts ∧ n.roles.ext = true then
        { n.exh with forceMax := max n.exh.forceMax e.value } else n.exh
      seq := if counts then { n.seq with forceMax := max n.seq.forceMax e.value } else n.seq }
    let datum : Node := { n with datums := if n.datums.awaiting[i] then { n.datums with
      subs := n.datums.subs.set i (some e.value), awaiting := n.datums.awaiting.set i false } else n.datums }
    (c.use = .loadSource → n.roles.load = true → n.consumeSub i e = n) ∧
    (c.use = .loadSource → n.roles.load = false →
      n.consumeSub i e = ((forced.cmuArrival .loadRate e).evalLoad e).watchForce e) ∧
    (c.use = .strainSource → n.roles.ext = true → n.consumeSub i e = n) ∧
    (c.use = .strainSource → n.roles.ext = false →
      n.consumeSub i e = ((n.cmuArrival .strainRate e).evalStrain e).watchStrain e) ∧
    (c.use = .partnerTravel ∨ c.use = .otherTravel → n.consumeSub i e = datum.watchTravel)) ∧
  ∀ (n : Node) (q : List Instr) (f : RxFrame) (i : Fin 4), n.delivers .sample f →
    n.subOfSample f = some i →
    let p := n.peer f.header.sender
    let x := n.sub i
    let e (o : Time) : HistEntry := ⟨f.header.seq, word32At f.payload 4 + o, int32At f.payload 8,
      SampleFlags.ofBytes (byteAt f.payload 1) (byteAt f.payload 2)⟩
    let step (z : HistEntry) : Nat := (f.header.seq - z.seq).toNat
    let usable (o : Time) : Prop := f.payload.length = 12 ∧ p.offsetValid = true ∧ p.offset = some o ∧
      ∀ r, p.reseedStamp = some r → later r f.rxStamp = false
    (f.payload.length ≠ 12 ∨ p.offsetValid = false ∨
        (∃ r, p.reseedStamp = some r ∧ later r f.rxStamp = true) ∨
        (∃ z, newest? x.hist = some z ∧ (step z = 0 ∨ 248 ≤ step z)) ∨
        (∃ z o, newest? x.hist = some z ∧ p.offset = some o ∧ step z ≤ 127 ∧
          later (e o).time z.time = false) →
      exec .sampleArrival ⟨n, q⟩ = .next ⟨n.popped, q⟩) ∧
    (∀ o, usable o →
      (∀ z, newest? x.hist = some z → 1 ≤ step z ∧ step z ≤ 127 ∧ later (e o).time z.time = true) →
      let pta : Pta := { n.pta with subs := n.pta.subs.set i { x with
        hist := pushHist x.hist (e o), lastArrival := some n.now, stale := false
        staleAt := some (after n.now (n.img.staleMs * 1000)) } }
      ∃ m, exec .sampleArrival ⟨n, q⟩ = .next ⟨m, q⟩ ∧
        m = Node.consumeSub { n.popped with pta := pta } i (e o) ∧ m.pta = pta ∧
        m.pins = n.pins ∧ m.clk = n.clk ∧ m.sul = n.sul ∧ m.filters = n.filters) ∧
    (∀ o z, usable o → newest? x.hist = some z → 128 ≤ step z → step z ≤ 247 →
      ∃ m, exec .sampleArrival ⟨n, q⟩ = .next ⟨m, q⟩ ∧
        m = Node.consumeSub { n.popped with pta := m.pta } i (e o) ∧ m.pta.peers = n.pta.peers ∧
        m.sub i = { x with hist := [e o], lastArrival := some n.now, stale := false
                           staleAt := some (after n.now (n.img.staleMs * 1000)) } ∧
        (∀ j, j ≠ i → m.sub j = match n.subCfg j with
          | some c => if c.peer = f.header.sender then { n.sub j with hist := [] } else n.sub j
          | none => n.sub j) ∧
        m.pins = n.pins ∧ m.clk = n.clk ∧ m.sul = n.sul ∧ m.filters = n.filters)

/-- PRESENCE, STATE, RESEED_TIMER_EXPIRY and SILENCE_TIMER_EXPIRY (R85, R86, R87, R193, R194): the notices set what
the peer last reported, bits of the roles byte that no table names are not read, a wrong length changes nothing; the
re-seed stamp becomes absent; a silent peer is marked long-silent, loses its valid offset, and the histories of its
subscriptions are emptied. -/
def Obligations.PeerNoticesAndTimers : Prop :=
  ∀ (n : Node) (q : List Instr) (f : RxFrame) (i : Fin 16),
    let p := f.payload
    let put (m : Node) (i : Fin 16) (x : Peer) : Host.Outcome State Fault Refusal :=
      .next ⟨{ m with pta := { n.pta with peers := n.pta.peers.set i x } }, q⟩
    (n.delivers .presence f →
      (p.length = 5 → exec .presence ⟨n, q⟩ = put n.popped f.header.sender
        { n.peer f.header.sender with
          presence := some ⟨byteAt p 1 &&& 0x0F, byteAt p 2, byteAt p 3, byteAt p 4⟩ }) ∧
      (p.length ≠ 5 → exec .presence ⟨n, q⟩ = .next ⟨n.popped, q⟩)) ∧
    (n.delivers .state f →
      (p.length = 10 → exec .stateNotice ⟨n, q⟩ = put n.popped f.header.sender
        { n.peer f.header.sender with
          view := some ⟨byteAt p 0, nat16At p 1, byteAt p 3, byteAt p 4, byteAt p 5, byteAt p 6,
            byteAt p 7, byteAt p 8, byteAt p 9⟩ }) ∧
      (p.length ≠ 10 → exec .stateNotice ⟨n, q⟩ = .next ⟨n.popped, q⟩)) ∧
    (due n.now (n.peer i).reseedAt = true → exec (.reseedTimerExpiry i) ⟨n, q⟩ =
      put n i { n.peer i with reseedStamp := none, reseedAt := none }) ∧
    (due n.now (n.peer i).silenceAt = true →
      ∃ m, exec (.silenceTimerExpiry i) ⟨n, q⟩ = .next ⟨m, q⟩ ∧ m = { n with pta := m.pta } ∧
        m.pta.peers = n.pta.peers.set i
          { n.peer i with longSilent := true, offsetValid := false, silenceAt := none } ∧
        ∀ j, m.sub j = (match n.subCfg j with
          | some c => if c.peer = i then { n.sub j with hist := [] } else n.sub j
          | none => n.sub j))

/-- STALENESS_EXPIRY (R91, R92): the stale flag is set and the timer waits; OTHER-TRAVEL is delivered to no
block; LOAD-SOURCE raises LOAD-LOST in a DRIVE node in a test (R145), PARTNER-TRAVEL raises PARTNER-LOST
while the generator runs (R39), and STRAIN-SOURCE turns a STRAIN-RATE it controls into CROSSHEAD-RATE at the
wanted velocity (R111, R112), with a STATE notice (R78). The order of the deliveries is the model's choice (log 6). -/
def Obligations.StalenessExpiryDelivered : Prop :=
  ∀ (n : Node) (q : List Instr) (i : Fin 4) (c : SubCfg), n.inService = true →
    due n.now (n.sub i).staleAt = true → n.subCfg i = some c →
    ∃ m, exec (.stalenessExpiry i) ⟨n, q⟩ = .next ⟨m, q⟩ ∧
      m.pta = { n.pta with subs := n.pta.subs.set i { n.sub i with stale := true, staleAt := none } } ∧
      m.lc = n.lc ∧ m.hlm = n.hlm ∧ m.clk = n.clk ∧ m.sul = n.sul ∧ m.pins = n.pins ∧
      (c.use = .otherTravel → m = { n with pta := m.pta }) ∧
      (c.use = .loadSource → n.roles.drive = true → n.testInProgress = true →
        n.subOfUse .loadSource = some i → n.haltedBy m .loadLost n.nodeId) ∧
      (c.use = .partnerTravel → n.roles.drive = true → n.tsg.gen.st ≠ .stopped →
        n.seq.test ≠ some .halted → n.haltedBy m .partnerLost n.nodeId) ∧
      (c.use = .strainSource → n.roles.drive = true → n.cmu.requested = .strainRate →
        n.roles.ext = false → n.subOfUse .strainSource = some i →
        m.cmu.requested = .crossheadRate ∧ m.cmu.lock = none ∧ m.cmu.entryStep = false ∧
          m.cmu.fallback = true ∧ m.cmu.fallbackVel = some n.tsg.wanted ∧
          m.tsg.wanted = n.tsg.wanted ∧ n.notified m)

/-! ### Control mode unit -/

/-- What a history answers for a time t (R93 to R95, R53), by where t falls in it: an EMPTY history answers nothing;
before the oldest entry its value and flags with the held mark; on an entry that entry; between two the line through
them with the flags of both; after the newest the rule NEWEST takes the newest, EXTRAPOLATE the line through the
newest two, 5,000 µs at most beyond, and WAIT nothing; the bracketed value of R53 takes no answer outside the
entries or with HELD or FAULT. The rate estimate of a closed mode (R105): over the window's entries, in the
direction, and none where the history is too short or an end carries HELD. And what an arrival at the controlling
history brings (R103 to R105, R108, R111): a fallback at the wanted velocity, an update of the running law, or
nothing, which is so of an arrival that falls together with a request taken before it (R108). That the two fall
together where one local time covers both is the model's reading (log 40). A history keeps the eight newest entries
(R6, R90). -/
def Obligations.HistoryAnswersAndRateEstimate : Prop :=
  (∀ (t : Time) (pre post : List HistEntry) (a b : HistEntry),
    let passed (x : HistEntry) : Prop := x.time ≠ t ∧ later x.time t = false
    let waits (h : List HistEntry) : Option Answer := (locate h t).inside t
    let same (h : List HistEntry) (x : Answer) : Prop :=
      answerNewest h t = some x ∧ answerExtrapolate h t = some x ∧ waits h = some x
    let both : SampleFlags := a.flags.or b.flags
    (answerNewest [] t = none ∧ answerExtrapolate [] t = none ∧ waits [] = none ∧
      answerBracketed [] t = none) ∧
    (later a.time t = true →
      same (a :: post) ⟨a.value, a.flags, true⟩ ∧ answerBracketed (a :: post) t = none) ∧
    ((∀ x ∈ pre, passed x) → a.time = t →
      same (pre ++ a :: post) ⟨a.value, a.flags, false⟩ ∧
      answerBracketed (pre ++ a :: post) t =
        (if a.flags.held || a.flags.fault then none else some a.value)) ∧
    ((∀ x ∈ pre, passed x) → passed a → later b.time t = true →
      let v := a.value + roundDiv ((b.value - a.value) * tdiff t a.time) (tdiff b.time a.time)
      same (pre ++ a :: b :: post) ⟨v, both, false⟩ ∧
      answerBracketed (pre ++ a :: b :: post) t = (if both.held || both.fault then none else some v)) ∧
    ((∀ x ∈ pre, passed x) → passed a → passed b →
      (answerNewest (pre ++ [a, b]) t = some ⟨b.value, b.flags, false⟩ ∧ waits (pre ++ [a, b]) = none ∧
        answerBracketed (pre ++ [a, b]) t = none ∧
        answerExtrapolate (pre ++ [a, b]) t =
          some ⟨b.value + roundDiv ((b.value - a.value) * min (tdiff t b.time) 5000)
            (tdiff b.time a.time), both, false⟩) ∧
      answerNewest [b] t = some ⟨b.value, b.flags, false⟩ ∧
        answerExtrapolate [b] t = some ⟨b.value, b.flags, false⟩ ∧ waits [b] = none)) ∧
  (∀ (h : List HistEntry) (e : HistEntry), pushHist h e = (h ++ [e]).drop (h.length - 7)) ∧
  (∀ (n : Node) (mode : Mode),
    (n.controlHist mode).length < n.cmu.window → n.estimate mode = none) ∧
  (∀ (n : Node) (mode : Mode) (pre mid : List HistEntry) (o e : HistEntry),
    n.controlHist mode = pre ++ o :: (mid ++ [e]) → n.cmu.window = mid.length + 2 →
    n.estimate mode = if o.flags.held || e.flags.held then none else
      some (n.cmu.direction * roundDiv ((e.value - o.value) * 1000000) (tdiff e.time o.time))) ∧
  ∀ (n : Node) (mode : Mode) (e : HistEntry),
    let unfit : Prop := mode = .strainRate ∧ (e.flags.derived = true ∨ e.flags.fault = true)
    n.controlHist .loadRate = (if n.roles.load then n.lc.hist else n.histOfUse .loadSource) ∧
    n.controlHist .strainRate =
      (if n.roles.ext then n.exh.hist.map (·.entry) else n.histOfUse .strainSource) ∧
    (n.driveLive = false ∨ n.cmu.requested ≠ mode → n.cmuArrival mode e = n) ∧
    (n.driveLive = true → n.cmu.requested = mode →
      (unfit → (n.cmuArrival mode e).cmu.requested = .crossheadRate ∧
        (n.cmuArrival mode e).cmu.reqVel = n.tsg.wanted ∧ (n.cmuArrival mode e).cmu.lock = none ∧
        (n.cmuArrival mode e).cmu.fallback = true ∧
        (n.cmuArrival mode e).cmu.fallbackVel = some n.tsg.wanted ∧
        (n.cmuArrival mode e).tsg = n.tsg) ∧
      (¬unfit → n.cmu.lock = none ∨ n.cmu.requestNow = true ∨ n.estimate mode = none →
        n.cmuArrival mode e = n) ∧
      (∀ rm, ¬unfit → n.cmu.lock ≠ none → n.cmu.requestNow = false → n.estimate mode = some rm →
        n.cmuArrival mode e = n.applyEstimate mode rm))

/-- An estimate of a running law (R106, R109): the lock table, compared exactly, with a STATE notice at each change,
and then the new wanted velocity from the old one in the five steps of R106, never 0, which the drive takes in a
test in progress. The target rate r_t is the target of the request in STRAIN-RATE, and in LOAD-RATE the force rate
that the entry converted it to (R107). -/
def Obligations.EstimateUpdatesLockAndVelocity : Prop :=
  ∀ (n : Node) (mode : Mode) (rm : Int),
    let m := n.applyEstimate mode rm
    let c := n.cmu
    let rt : Int := if c.requested = .loadRate then c.forceTarget.getD c.target else c.target
    let band := n.img.control.lockBand
    let count := n.img.control.lockCount
    let dev : Int := (rm - rt).natAbs
    let g : Int := if mode = .loadRate then n.img.control.gainLoad else n.img.control.gainStrain
    let fq := 65536 + roundDiv (g * 256 * (rt - rm)) rt
    let v := roundDiv (n.tsg.wanted * clamp 32768 131072 fq) 65536
    (c.lock = some .acquiring → dev * 1000 ≤ rt * band →
      (c.inBand + 1 = count → m.cmu.lock = some .locked ∧ m.cmu.inBand = 0) ∧
      (c.inBand + 1 ≠ count → m.cmu.lock = some .acquiring ∧ m.cmu.inBand = c.inBand + 1)) ∧
    (c.lock = some .acquiring → ¬dev * 1000 ≤ rt * band →
      m.cmu.lock = some .acquiring ∧ m.cmu.inBand = 0) ∧
    (c.lock = some .locked → dev * 1000 > 2 * rt * band →
      (c.outBand + 1 = count → m.cmu.lock = some .acquiring ∧ m.cmu.outBand = 0) ∧
      (c.outBand + 1 ≠ count → m.cmu.lock = some .locked ∧ m.cmu.outBand = c.outBand + 1)) ∧
    (c.lock = some .locked → ¬dev * 1000 > 2 * rt * band →
      m.cmu.lock = some .locked ∧ m.cmu.outBand = 0) ∧
    (m.cmu.lock ≠ c.lock → n.notified m) ∧
    m.tsg = { n.tsg with wanted := if n.testInProgress then
        c.direction * clamp n.img.drive.vMin n.img.drive.vMax v.natAbs
      else n.tsg.wanted } ∧
    (n.testInProgress = true → 1 ≤ n.img.drive.vMin → n.img.drive.vMin ≤ n.img.drive.vMax →
      c.direction ≠ 0 → m.tsg.wanted ≠ 0) ∧
    m.cmu.requested = c.requested ∧ m.cmu.established = c.established ∧ m.cmu.rm = some rm

/-- A request for a closed mode, its entry, and the first lock (R99, R102 to R104, R107, R110, R112, R127). The
controlling source is unfit as R104 lists. A segment that opens clears the marks and requests its mode, under pause
nothing more. A closed mode with a fit source is entered at once on the direct path (from a segment before it,
established in motion, with a wanted velocity of the direction's sign, which carries over), and by the entry step
otherwise; with an unfit source the request falls back at the velocity of its path. Entry makes the mode established
and ACQUIRING with the counts 0, starts the lock timer, and converts a LOAD-RATE target to a force rate. The ramp
report that establishes the entry velocity enters the mode (log 16). The change to LOCKED cancels the timer, and the
first in a segment hands its time. Each change of a mode or of the lock brings a STATE notice (R78). A request is
marked for the arrivals that fall together with it (R108, log 40). That a report a close overtook is kept for the
next segment is the model's form of R114. -/
def Obligations.ClosedModeRequestedEnteredAndLocked : Prop :=
  (∀ n : Node,
    let stale (u : SubUse) : Prop := ∃ i, n.subOfUse u = some i ∧ (n.sub i).stale = true
    (n.sourceUnfit .loadRate = true ↔ n.roles.load = false ∧ stale .loadSource) ∧
    (n.sourceUnfit .strainRate = true ↔
      n.roles.ext = false ∧ (n.subOfUse .strainSource = none ∨ stale .strainSource) ∨
      ∃ e, n.strainHist.getLast? = some e ∧ (e.flags.derived = true ∨ e.flags.fault = true))) ∧
  (∀ (n : Node) (f : SegFields) (advance pause : Bool),
    let marked : Node := { n with cmu := { n.cmu with
      lockedInSeg := false, fallback := false, fallbackVel := none
      lateTimeout := n.cmu.lateTimeout || (n.cmu.lock == some .acquiring && due n.now n.cmu.lockAt) } }
    n.cmuOpen f advance pause = (if n.driveLive then
      if pause then marked else marked.requestSegment f advance else n)) ∧
  (∀ (n : Node) (f : SegFields) (advance : Bool), f.mode.closed = true →
    let m := n.requestSegment f advance
    let area : Int := match n.seq.order.bind (·.part1) with
      | some p => p.area
      | none => 0
    let base : Cmu := { n.cmu with
      target := f.target, entryVel := f.entryVel, window := f.window
      direction := if 0 < f.entryVel then 1 else if f.entryVel < 0 then -1 else 0
      lock := none, inBand := 0, outBand := 0, lockAt := none, entryStep := false, requestNow := true }
    let wants (v : Int) : Tsg := { n.tsg with wanted := if n.testInProgress then v else n.tsg.wanted }
    let direct : Prop := advance = true ∧ n.cmu.established ≠ .hold ∧ 0 < n.tsg.wanted * f.entryVel
    let entered (e : Segment) : Seq := { n.seq with segs := n.seq.segs.set n.seq.cursor e }
    let fallsBack (v : Int) : Prop :=
      m.tsg = wants v ∧
      m.cmu = { base with
        requested := .crossheadRate, reqVel := v, fallback := true, fallbackVel := some v } ∧
      (∀ e, n.seq.openEntry = some e →
        m.seq = entered { e with summary := { e.summary with fallback := true } }) ∧
      (n.seq.openEntry = none → m.seq = n.seq)
    m = { n with
      tsg := m.tsg, cmu := m.cmu, seq := m.seq, fbc := { n.fbc with stateSlot := m.fbc.stateSlot } } ∧
    ((m.cmu.requested, m.cmu.established, m.cmu.lock) ≠
      (n.cmu.requested, n.cmu.established, n.cmu.lock) → n.notified m) ∧
    (n.sourceUnfit f.mode = false → direct → m.tsg = n.tsg ∧ m.seq = n.seq ∧ m.cmu = { base with
      requested := f.mode, established := f.mode, lock := some .acquiring
      lockAt := some (after n.now (n.img.control.lockTimeoutMs * 1000))
      forceTarget := if f.mode = .loadRate
        then some (clamp 1 2000000000 (roundDiv (f.target * area) 10000)) else n.cmu.forceTarget }) ∧
    (n.sourceUnfit f.mode = false → ¬direct → m.tsg = wants f.entryVel ∧ m.seq = n.seq ∧
      m.cmu = { base with requested := f.mode, entryStep := true }) ∧
    (n.sourceUnfit f.mode = true → direct → fallsBack n.tsg.wanted) ∧
    (n.sourceUnfit f.mode = true → ¬direct → fallsBack f.entryVel)) ∧
  (∀ n : Node, n.driveLive = true → n.cmu.requested.closed = true →
    let m := n.rampReport
    let area : Int := match n.seq.order.bind (·.part1) with
      | some p => p.area
      | none => 0
    (n.cmu.entryStep = false ∨ n.tsg.commanded ≠ n.cmu.entryVel → m = n) ∧
    (n.cmu.entryStep = true → n.tsg.commanded = n.cmu.entryVel →
      m = { n with cmu := m.cmu, fbc := { n.fbc with stateSlot := m.fbc.stateSlot } } ∧
      ((m.cmu.established, m.cmu.lock) ≠ (n.cmu.established, n.cmu.lock) → n.notified m) ∧
      m.cmu = { n.cmu with
        established := n.cmu.requested, entryStep := false, lock := some .acquiring, inBand := 0
        outBand := 0, lockAt := some (after n.now (n.img.control.lockTimeoutMs * 1000))
        forceTarget := if n.cmu.requested = .loadRate
          then some (clamp 1 2000000000 (roundDiv (n.cmu.target * area) 10000))
          else n.cmu.forceTarget })) ∧
  ∀ (n : Node) (mode : Mode) (rm : Int),
    let m := n.applyEstimate mode rm
    let entered (e : Segment) : Seq := { n.seq with segs := n.seq.segs.set n.seq.cursor e }
    let locks : Prop := n.cmu.lock = some .acquiring ∧ m.cmu.lock = some .locked
    (locks → m.cmu.lockAt = none ∧ m.cmu.lockedInSeg = true ∧
      (n.cmu.lockedInSeg = true ∨ n.seq.openEntry = none → m.seq = n.seq) ∧
      ∀ e, n.cmu.lockedInSeg = false → n.seq.openEntry = some e →
        m.seq = entered { e with firstLock := e.firstLock.or (some n.now) }) ∧
    (¬locks → m.cmu.lockAt = n.cmu.lockAt ∧ m.cmu.lockedInSeg = n.cmu.lockedInSeg ∧ m.seq = n.seq)

/-- LOCK_TIMER_EXPIRY, SEGMENT_CLOCK_EXPIRY and DRAIN_LIMIT_EXPIRY (R110, R114, R127, R128, R130, R131, R170, R171,
R173): while ACQUIRING the open segment gets LOCK-TIMEOUT; where a close came first, the segment opened after it
gets the report; in RUNNING the open segment's elapsed count rises, and a TIME-AT-LEAST it meets closes it with
CONDITION, with a STATE notice where the test ends or the cursor moves (R78); in PAUSED the pause time rises; the
entries still queued at the drain limit go without a pair, the record becomes FINAL and its three RESULT parts enter
the FIFO where they fit. -/
def Obligations.TimedRowsOfControlSegmentAndDrain : Prop :=
  ∀ (n : Node) (q : List Instr),
    let left (c : Cmu) (s : Seq) : Host.Outcome State Fault Refusal :=
      .next ⟨{ n with cmu := c, seq := s }, q⟩
    let at_ (e : Segment) : Seq := { n.seq with segs := n.seq.segs.set n.seq.cursor e }
    let timedOut (e : Segment) : Segment := { e with summary := { e.summary with lockTimeout := true } }
    (n.driveLive = true → n.cmu.lateTimeout = false → due n.now n.cmu.lockAt = true →
      (∀ e, n.cmu.lock = some .acquiring → n.seq.openEntry = some e →
        exec .lockTimerExpiry ⟨n, q⟩ = left { n.cmu with lockAt := none } (at_ (timedOut e))) ∧
      (n.cmu.lock ≠ some .acquiring ∨ n.seq.openEntry = none →
        exec .lockTimerExpiry ⟨n, q⟩ = left { n.cmu with lockAt := none } n.seq)) ∧
    (n.driveLive = true → n.cmu.lateTimeout = true →
      (∀ e, n.seq.openEntry = some e →
        exec .lockTimerExpiry ⟨n, q⟩ = left { n.cmu with lateTimeout := false } (at_ (timedOut e))) ∧
      (n.seq.openEntry = none →
        exec .lockTimerExpiry ⟨n, q⟩ = left { n.cmu with lateTimeout := false } n.seq)) ∧
    (∀ e, n.seq.test = some .running → n.seq.openEntry = some e →
      (e.fields.endKind ≠ .timeAtLeast ∨ (e.elapsed : Int) + 1 < e.fields.endValue →
        exec .segmentClockExpiry ⟨n, q⟩ = left n.cmu (at_ { e with elapsed := e.elapsed + 1 })) ∧
      (e.fields.endKind = .timeAtLeast → e.fields.endValue ≤ (e.elapsed : Int) + 1 →
        ∃ m, exec .segmentClockExpiry ⟨n, q⟩ = .next ⟨m, q⟩ ∧
          Node.closedBy { n with seq := at_ { e with elapsed := e.elapsed + 1 } } m .condition n.now ∧
          (e.fields.last = true → m.seq.test = some .ended ∧ m.seq.endCause = some .lastSegment ∧
            n.notified m) ∧
          (e.fields.last = false → n.nextLoaded = none →
            m.seq.test = some .running ∧ m.seq.cursor = n.seq.cursor) ∧
          (∀ i, e.fields.last = false → n.nextLoaded = some i → n.staysOpen n.seq.segs[i].fields →
            m.seq.test = some .running ∧ m.seq.cursor = i ∧ m.seq.segs[i].status = .opened ∧ n.notified m ∧
              (n.driveLive = true → n.cmu.lock = some .acquiring → due n.now n.cmu.lockAt = true →
                m.cmu.lateTimeout = true)) ∧
          m.lc = n.lc ∧ m.pta = n.pta ∧ m.hlm = n.hlm)) ∧
    (n.seq.test = some .running → n.seq.openEntry = none →
      exec .segmentClockExpiry ⟨n, q⟩ = left n.cmu n.seq) ∧
    (n.seq.test = some .paused → exec .segmentClockExpiry ⟨n, q⟩ =
      left n.cmu { n.seq with pauseTime := n.seq.pauseTime + 1 }) ∧
    (n.collecting = true → n.evl.closing ≠ none → due n.now n.evl.drainAt = true →
      ∃ m, exec .drainLimitExpiry ⟨n, q⟩ = .next ⟨m, q⟩ ∧
        m = { n with evl := m.evl, fbc := m.fbc } ∧ m.evl.queue = [] ∧ m.evl.record.st = .final ∧
        m.evl.closing = none ∧ m.evl.drainAt = none ∧
        m.evl.record.endCause = n.evl.record.endCause ∧
        m.evl.record.pairCount = n.evl.record.pairCount ∧
        (n.active = true → n.fbc.fifo.length ≤ 5 → n.fbc.pendingResult = none → n.fbc.removal = false →
          m.fbc.fifo = n.fbc.fifo ++
            m.evl.resultParts.map (fun p => ⟨broadcastFrame .result p, n.now⟩)))

/-! ### Sequencer -/

/-- START taken (R122, R123, R18, R19, R26, R36, R50, R99, R127, R148, R154, R182): RUNNING with entry 0 OPEN, the
marks and counts of the last test cleared, and every block's part of START: a DRIVE node with a partner captures the
level datum, its own absolute position less the partner's extrapolated one, or NO-DATUM where no sample is held
(R37), and an EVAL node's new record COLLECTS with the parameters of parts 1 and 2 of the order. A STATE notice is
submitted (R78). A closed-mode entry 0 takes the entry step, and falls back at its entry velocity where its source
is unfit (R102, R112). A DRIVE node whose LOAD-SOURCE is stale takes the START so too, opens entry 0, and enters
HALTED with LOAD-LOST, which closes entry 0 with HALT (R145). The order of the blocks' parts is the model's choice
(log 7), and that check 4 of R122 judges the level the last STOP sample found its reading of R146 (log 13). -/
def Obligations.StartTaken : Prop :=
  ∀ (n : Node) (q : List Instr) (f : RxFrame) (o : Order), n.delivers (.command .start) f →
    n.active = true → n.seq.test = some .armed → n.seq.order = some o →
    n.mayStart (nat16At f.payload 1) →
    (n.roles.ext = true → n.pairClosed = true ∧ n.exh.releaseOut = false) →
    let entry := n.seq.segs[0]
    let opened : Segment := { status := .opened, fields := entry.fields, openTime := n.now }
    let level : Option Int := match n.roles.drive, n.subOfUse .partnerTravel with
      | true, some i => (answerExtrapolate (n.sub i).hist n.now).map fun p => n.absolutePos - p.value
      | _, _ => n.tsg.level
    let params : Option EvalParams := match o.part1, o.part2 with
      | some a, some b => some
          { area := a.area, sigmaLo := b.sigmaLo, sigmaHi := b.sigmaHi, eMin := b.eMin, eMax := b.eMax
            offset := b.proofOffset, yieldDrop := b.yieldDrop, transientSpan := b.transientSpan }
      | _, _ => none
    let started (m : Node) : Prop :=
      n.notified m ∧ m.tsg.level = level ∧
      m.seq.cursor = 0 ∧ m.seq.order = some o ∧ m.seq.pauseTime = 0 ∧ m.seq.yieldSeen = false ∧
      m.seq.forceMax = 0 ∧ m.seq.refusal = n.seq.refusal ∧
      (∀ i : Fin 32, i ≠ 0 → m.seq.segs[i] = n.seq.segs[i]) ∧
      m.lc = (if n.roles.load then { n.lc with fmax := 0, breakArmed := true } else n.lc) ∧
      m.exh = (if n.roles.ext then { n.exh with
          st := .attached, arm1 := ⟨n.exh.arm1.count, n.exh.arm1.count, false⟩
          arm2 := ⟨n.exh.arm2.count, n.exh.arm2.count, false⟩, k := o.part3.map (·.initialK)
          snap := {}, unplanned := false, releaseAt := none, forceMax := 0 }
        else n.exh) ∧
      m.datums.own = (if n.roles.drive then some n.absolutePos else none) ∧
      (∀ i : Fin 4, ((∃ c, n.subCfg i = some c ∧ c.channel = .travel) →
          m.datums.subs[i] = (newest? (n.sub i).hist).map (·.value) ∧
            m.datums.awaiting[i] = (n.sub i).hist.isEmpty) ∧
        ((∀ c, n.subCfg i = some c → c.channel ≠ .travel) →
          m.datums.subs[i] = none ∧ m.datums.awaiting[i] = false)) ∧
      m.hlm.zeroDrift = n.hlm.zeroDrift ∧ m.hlm.balanceResidue = n.hlm.balanceResidue ∧
      (∀ a, a ≠ .zeroDrift → a ≠ .balanceResidue →
        m.hlm.get a = { n.hlm.get a with value := 100, tripped := false, measure := 0 }) ∧
      m.pins = n.pins ∧ m.clk = n.clk ∧ m.sul = n.sul ∧ m.pta = n.pta
    ((n.roles.drive = true → n.staleUse .loadSource = false) →
      ∃ m, exec .start ⟨n, q⟩ = .next ⟨m, q⟩ ∧ started m ∧ m.seq.test = some .running ∧
        m.seq.endCause = none ∧ m.hlt = { n.hlt with breakRecord := none } ∧ m.tsg.jog = .idle ∧
        m.tsg.commanded = n.tsg.commanded ∧
        (n.roles.drive = false → m.seq.segs[0] = opened) ∧
        (n.roles.drive = true → entry.fields.mode = .hold → m.seq.segs[0] = opened ∧
          m.tsg.wanted = 0 ∧ m.cmu.requested = .hold) ∧
        (n.roles.drive = true → entry.fields.mode = .crossheadRate → m.seq.segs[0] = opened ∧
          m.tsg.wanted = entry.fields.target ∧ m.cmu.requested = .crossheadRate) ∧
        (n.roles.drive = true → entry.fields.mode.closed = true →
          n.sourceUnfit entry.fields.mode = false → m.seq.segs[0] = opened ∧
            m.tsg.wanted = entry.fields.entryVel ∧ m.cmu.requested = entry.fields.mode ∧
            m.cmu.entryStep = true ∧ m.cmu.lock = none ∧ m.cmu.fallback = false) ∧
        (n.roles.drive = true → entry.fields.mode.closed = true →
          n.sourceUnfit entry.fields.mode = true →
            m.seq.segs[0] = { opened with summary := { fallback := true } } ∧
            m.tsg.wanted = entry.fields.entryVel ∧ m.cmu.requested = .crossheadRate ∧
            m.cmu.entryStep = false ∧ m.cmu.lock = none ∧ m.cmu.fallback = true ∧
            m.cmu.fallbackVel = some entry.fields.entryVel) ∧
        (n.roles.eval = true →
          m.evl = { record := { st := .collecting, testId := o.testId }, params := params })) ∧
    (n.roles.drive = true → n.staleUse .loadSource = true →
      ∃ m, exec .start ⟨n, q⟩ = .next ⟨m, q⟩ ∧ started m ∧ n.haltedBy m .loadLost n.nodeId ∧
        m.seq.endCause = some .byHalt ∧ m.hlt.breakRecord = none ∧ m.seq.segs[0] = { opened with
          status := .closed
          summary := m.seq.segs[0].summary
          outcome := some
            { cause := .byHalt, openTime := n.now, closeTime := n.now, elapsed := 0
              strain := (answerNewest n.strainHist n.now).map (·.value)
              force := (answerNewest n.loadHist n.now).map (·.value)
              travel := m.travelAt n.now } } ∧
        (n.roles.eval = true → m.evl.record.endCause = some .byHalt ∧ m.evl.record.testId = o.testId ∧
          m.evl.params = params))

/-- Commands that have none of their effect (R11, R13, R35, R36, R50, R121, R122, R124, R125): a START that
may not start halts with NOT-READY, and one that finds the extensometer not ready with EXT-NOT-CLOSED; a
refused command changes the last refusal code alone; and a command that is ignored changes nothing. The STOP
level of R122 is the one the last sample found, the model's reading of R146 (log 13). -/
def Obligations.CommandsHaltedRefusedOrIgnored : Prop :=
  ∀ (n : Node) (q : List Instr) (f : RxFrame) (t : TestState), n.active = true → n.seq.test = some t →
    let ignored : Host.Outcome State Fault Refusal := .next ⟨n.popped, q⟩
    let refused (code : RefusalCode) : Host.Outcome State Fault Refusal :=
      .next ⟨{ n.popped with seq := { n.seq with refusal := some code } }, q⟩
    let busy : Prop := n.roles.load = true ∧ (n.lc.balance ≠ none ∨ n.lc.zero ≠ none)
    (n.delivers (.command .start) f →
      (t = .ready ∨ t = .armed ∧ ¬n.mayStart (nat16At f.payload 1) →
        ∃ m, exec .start ⟨n, q⟩ = .next ⟨m, q⟩ ∧ n.haltedBy m .notReady n.nodeId ∧ m.lc = n.lc ∧
          m.exh.arm1 = n.exh.arm1 ∧ m.hlm = n.hlm ∧ m.datums = n.datums) ∧
      (t = .armed → n.mayStart (nat16At f.payload 1) → n.roles.ext = true →
        n.pairClosed = false ∨ n.exh.releaseOut = true →
        ∃ m, exec .start ⟨n, q⟩ = .next ⟨m, q⟩ ∧ n.haltedBy m .extNotClosed n.nodeId ∧ m.lc = n.lc ∧
          m.exh.arm1 = n.exh.arm1 ∧ m.hlm = n.hlm ∧ m.datums = n.datums) ∧
      (t = .running ∨ t = .paused → exec .start ⟨n, q⟩ = ignored) ∧
      (t = .halted ∨ t = .ended → exec .start ⟨n, q⟩ = refused .notAllowed)) ∧
    (n.delivers (.command .pause) f →
      (t = .paused → exec .pause ⟨n, q⟩ = ignored) ∧
      (t ≠ .running → t ≠ .paused → exec .pause ⟨n, q⟩ = refused .notAllowed)) ∧
    (n.delivers (.command .resume) f →
      (t = .running → exec .resume ⟨n, q⟩ = ignored) ∧
      (t ≠ .running → t ≠ .paused → exec .resume ⟨n, q⟩ = refused .notAllowed)) ∧
    (n.delivers (.command .abort) f →
      (t = .ended → exec .abort ⟨n, q⟩ = ignored) ∧
      (t = .ready → exec .abort ⟨n, q⟩ = refused .notAllowed)) ∧
    (n.delivers (.command .clear) f →
      (t = .ready ∨ t = .armed → exec .clear ⟨n, q⟩ = ignored) ∧
      (t = .running ∨ t = .paused → exec .clear ⟨n, q⟩ = refused .notAllowed)) ∧
    (n.delivers .unknownCommand f → exec .unknownCommand ⟨n, q⟩ = refused .badField) ∧
    (n.delivers (.command .zero) f →
      (n.roles.load = false → n.roles.ext = false → exec .zero ⟨n, q⟩ = refused .noRole) ∧
      (n.roles.load = true ∨ n.roles.ext = true →
        (n.beforeTest = false → exec .zero ⟨n, q⟩ = refused .notAllowed) ∧
        (n.beforeTest = true → busy → exec .zero ⟨n, q⟩ = refused .busy))) ∧
    (n.delivers (.command .balance) f →
      (n.roles.load = false → exec .balance ⟨n, q⟩ = refused .noRole) ∧
      (n.roles.load = true →
        (n.beforeTest = false → exec .balance ⟨n, q⟩ = refused .notAllowed) ∧
        (n.beforeTest = true → busy → exec .balance ⟨n, q⟩ = refused .busy))) ∧
    (n.delivers (.command .jog) f →
      let v := int32At f.payload 1
      let jogs : Prop := t = .ready ∨ t = .armed ∨ t = .ended
      let inRange : Prop := v ≠ 0 ∧ (v.natAbs : Int) ≤ n.img.drive.vMax
      (n.roles.drive = false → exec .jog ⟨n, q⟩ = refused .noRole) ∧
      (n.roles.drive = true → ¬jogs → exec .jog ⟨n, q⟩ = refused .notAllowed) ∧
      (n.roles.drive = true → jogs → ¬inRange → exec .jog ⟨n, q⟩ = refused .badField) ∧
      (n.roles.drive = true → jogs → inRange → n.tsg.towardViolated v = true →
        exec .jog ⟨n, q⟩ = refused .limit)) ∧
    (n.delivers (.command .stopJog) f → n.roles.drive = false →
      exec .stopJog ⟨n, q⟩ = refused .noRole)

/-- PAUSE in RUNNING and RESUME in PAUSED (R99, R112, R124): PAUSE requests HOLD; RESUME requests the open segment's
mode by the re-entry path, which falls back at the entry velocity where the source is unfit, or CROSSHEAD-RATE at
the fallback velocity under the fallback mark, and nothing while STARVED. Both submit a STATE notice (R78). The open
segment does not end at YIELD-SEEN here, which the model judges at the RESUME (log 14). -/
def Obligations.PauseAndResumeTaken : Prop :=
  ∀ (n : Node) (q : List Instr) (f : RxFrame), n.active = true →
    (n.delivers (.command .pause) f → n.seq.test = some .running →
      ∃ m, exec .pause ⟨n, q⟩ = .next ⟨m, q⟩ ∧
        m = { n.popped with
          seq := { n.seq with test := some .paused }, tsg := { n.tsg with wanted := m.tsg.wanted }
          cmu := m.cmu, fbc := { n.popped.fbc with stateSlot := m.fbc.stateSlot } } ∧ n.notified m ∧
        (n.roles.drive = true → m.tsg.wanted = 0 ∧ m.cmu.requested = .hold ∧ m.cmu.lock = none ∧
          m.cmu.entryStep = false ∧ m.cmu.established = n.cmu.established) ∧
        (n.roles.drive = false → m.tsg = n.tsg ∧ m.cmu = n.cmu)) ∧
    (n.delivers (.command .resume) f → n.seq.test = some .paused →
      (∀ e, n.seq.openEntry = some e →
        e.fields.endKind ≠ .yieldSeen ∨ n.seq.yieldSeen = false ∨ n.roles.eval = false) →
      ∃ m, exec .resume ⟨n, q⟩ = .next ⟨m, q⟩ ∧ m.seq.test = some .running ∧ n.notified m ∧
        m.seq.cursor = n.seq.cursor ∧ m.seq.order = n.seq.order ∧ m.seq.pauseTime = n.seq.pauseTime ∧
        m.tsg = { n.tsg with wanted := m.tsg.wanted } ∧
        (n.seq.openEntry = none → m.tsg = n.tsg ∧ m.cmu = n.cmu) ∧
        (∀ e, n.roles.drive = true → n.seq.openEntry = some e →
          (∀ v, n.cmu.fallback = true → n.cmu.fallbackVel = some v →
            m.tsg.wanted = v ∧ m.cmu.requested = .crossheadRate) ∧
          (n.cmu.fallback = false → e.fields.mode = .hold →
            m.tsg.wanted = 0 ∧ m.cmu.requested = .hold) ∧
          (n.cmu.fallback = false → e.fields.mode = .crossheadRate →
            m.tsg.wanted = e.fields.target ∧ m.cmu.requested = .crossheadRate) ∧
          (n.cmu.fallback = false → e.fields.mode.closed = true → n.sourceUnfit e.fields.mode = false →
            m.tsg.wanted = e.fields.entryVel ∧ m.cmu.requested = e.fields.mode ∧
              m.cmu.entryStep = true ∧ m.cmu.lock = none) ∧
          (n.cmu.fallback = false → e.fields.mode.closed = true → n.sourceUnfit e.fields.mode = true →
            m.tsg.wanted = e.fields.entryVel ∧ m.cmu.requested = .crossheadRate ∧
              m.cmu.entryStep = false ∧ m.cmu.lock = none ∧ m.cmu.fallback = true ∧
              m.cmu.fallbackVel = some e.fields.entryVel ∧
              m.seq.segs[n.seq.cursor].summary.fallback = true)) ∧
        m.lc = n.lc ∧ m.pta = n.pta ∧ m.hlt = n.hlt ∧ m.evl = n.evl ∧ m.hlm = n.hlm ∧ m.exh = n.exh)

/-- ABORT and CLEAR taken (R19, R22, R40, R125, R138, R147): ABORT in ARMED drops the order and the segments and
stops the drive; in a test it ends it with ABORT; in HALTED it goes to ENDED with the record NOTED and drive enable
asserted; CLEAR in HALTED and ENDED drops order and segments, clears the halt record and goes to READY. Each changes
the test state, and so submits a STATE notice (R78). The level the last STOP sample found stays (log 13). -/
def Obligations.AbortAndClearTaken : Prop :=
  ∀ (n : Node) (q : List Instr) (f : RxFrame) (t : TestState), n.active = true → n.seq.test = some t →
    let empty : Vector Segment 32 := Vector.replicate 32 {}
    let synced (m : Node) : Prop :=
      n.roles.drive = true → m.tsg.pulses = roundDiv n.absolutePos n.img.drive.step
    (n.delivers (.command .abort) f →
      (t = .armed → ∃ m, exec .abort ⟨n, q⟩ = .next ⟨m, q⟩ ∧
        m.seq = { n.seq with test := some .ready, order := none, segs := empty, cursor := 0 } ∧
        n.notified m ∧
        (n.roles.drive = true → m.tsg.directlyStopped) ∧ m.lc = n.lc ∧ m.hlt = n.hlt ∧ m.evl = n.evl ∧
        m.pta = n.pta ∧ m.hlm = n.hlm) ∧
      (t = .running ∨ t = .paused → ∃ m, exec .abort ⟨n, q⟩ = .next ⟨m, q⟩ ∧
        m.seq.test = some .ended ∧ m.seq.endCause = some .byAbort ∧ n.closedBy m .byAbort n.now ∧
        n.notified m ∧
        (n.roles.drive = true → m.tsg.directlyStopped) ∧ m.seq.order = n.seq.order ∧ m.lc = n.lc ∧
        m.hlt = n.hlt ∧ m.pta = n.pta ∧ m.hlm = n.hlm) ∧
      (t = .halted → ∃ m, exec .abort ⟨n, q⟩ = .next ⟨m, q⟩ ∧
        m.seq.test = some .ended ∧ m.seq.endCause = some .byAbort ∧ n.notified m ∧
        m.hlt = { n.hlt with record := n.hlt.record.map fun r => { r with standing := false } } ∧
        m.faultOut = false ∧ m.drvEn = true ∧ (n.roles.drive = true → m.tsg.directlyStopped) ∧
        synced m ∧ m.seq.order = n.seq.order ∧ m.lc = n.lc ∧ m.pta = n.pta ∧ m.hlm = n.hlm)) ∧
    (n.delivers (.command .clear) f → t = .halted ∨ t = .ended →
      ∃ m, exec .clear ⟨n, q⟩ = .next ⟨m, q⟩ ∧
        m.seq = { n.seq with test := some .ready, order := none, segs := empty, cursor := 0 } ∧
        n.notified m ∧ m.hlt = { n.hlt with record := none, stopPrev := false } ∧ m.faultOut = false ∧
        m.drvEn = true ∧ m.lc = { n.lc with breakArmed := false } ∧
        (n.roles.drive = true → m.tsg.encFault = false) ∧ (t = .halted → synced m) ∧
        m.tsg.count = n.tsg.count ∧ m.evl = n.evl ∧ m.pta = n.pta ∧ m.hlm = n.hlm)

/-- FRAME_RESET (R126 with R16, R20, R40, R41, R60, R61, R72, R74 to R76, R78, R79, R97, R115, R153, R175, R185):
READY with nothing of the test held, every block's own part, and a PRESENCE; a drive that leaves HALTED has its
pulse count set to the encoder's position, the staleness timers restart, and the per-test measures of the health
monitor become 0. Of the transmit holders the urgent slots, the pending RESULT and the FIFO are emptied; a frame on
the line completes its attempt without a retry (R72), and where it is the front entry of the FIFO that entry stays,
before the PRESENCE (R76); the sample slots and the STATE slot stay (R75), and a change of the test state, the
extensometer state or a mode brings a STATE notice (R78). That the level the last STOP sample found stays (log 13),
and that the mark of a removal goes with the pending RESULT (log 12), is the model's reading. -/
def Obligations.FrameResetTaken : Prop :=
  ∀ (n : Node) (q : List Instr) (f : RxFrame) (t : TestState),
    n.delivers (.command .frameReset) f → n.active = true → n.seq.test = some t →
    let sent : Slot := ⟨broadcastFrame .presence n.presencePayload, n.now⟩
    let frontGoesOn : Prop := ∃ o, n.fbc.onLine = some o ∧ o.holder = .fifo
    ∃ m, exec .frameReset ⟨n, q⟩ = .next ⟨m, q⟩ ∧
      m.seq = { n.seq with
        test := some .ready, order := none, segs := Vector.replicate 32 {}, cursor := 0, pauseTime := 0
        yieldSeen := false, forceMax := 0, endCause := none } ∧
      m.hlt = { stopFound := n.hlt.stopFound } ∧ m.faultOut = false ∧ m.drvEn = true ∧ m.datums = {} ∧
      m.fbc = { n.popped.fbc with
        haltSlot := none, breakSlot := none, markSlot := none, pendingResult := none, removal := false
        fifo := m.fbc.fifo, stateSlot := m.fbc.stateSlot
        onLine := n.fbc.onLine.map fun o => { o with noRetry := true } } ∧
      (frontGoesOn → m.fbc.fifo = n.fbc.fifo.take 1 ++ [sent]) ∧ (¬frontGoesOn → m.fbc.fifo = [sent]) ∧
      ((t, n.exh.st, n.cmu.requested, n.cmu.lock) ≠ (.ready, m.exh.st, m.cmu.requested, m.cmu.lock) →
        n.notified m) ∧
      (n.roles.load = true → m.lc.balance = none ∧ m.lc.zero = none ∧ m.lc.hist = [] ∧ m.lc.fmax = 0 ∧
        m.lc.breakArmed = false ∧ m.lc.tare = n.lc.tare ∧ m.lc.lastGood = n.lc.lastGood ∧
        (n.lc.balance = none → m.lc.trim = n.lc.trim ∧ m.lc.range = n.lc.range) ∧
        ∀ bal, n.lc.balance = some bal → m.lc.trim = bal.heldTrim ∧ m.lc.range = bal.heldRange ∧
          m.lc.lastBalance = some ⟨.cancelled, none⟩) ∧
      (n.roles.drive = true → m.tsg.directlyStopped ∧ m.tsg.encFault = false ∧ m.tsg.level = none ∧
        m.tsg.hist = [] ∧ m.tsg.count = n.tsg.count ∧
        m.tsg.pulses = (if t = .halted then roundDiv n.absolutePos n.img.drive.step else n.tsg.pulses)) ∧
      (n.roles.drive = true → m.cmu = { n.cmu with
        requested := .hold, entryStep := false, lock := none, inBand := 0, outBand := 0, lockAt := none
        lockedInSeg := false, fallback := false, fallbackVel := none, lateTimeout := false
        requestNow := true, rm := none, forceTarget := none }) ∧
      (n.roles.ext = true → m.exh.st = (if n.pairClosed then .attached else .detached) ∧
        m.exh.arm1 = { n.exh.arm1 with fault := false } ∧
        m.exh.arm2 = { n.exh.arm2 with fault := false } ∧ m.exh.releaseAt = none ∧ m.exh.k = none ∧
        m.exh.snap = {} ∧ m.exh.unplanned = false ∧ m.exh.slip = false ∧ m.exh.forceMax = 0 ∧
        m.exh.hist = [] ∧ m.exh.releaseOut = n.exh.releaseOut ∧ m.exh.gauge = n.exh.gauge) ∧
      (n.roles.eval = true → m.evl = {}) ∧ m.pta.peers = n.pta.peers ∧
      (∀ i, m.sub i = { n.sub i with
        hist := [], stale := false, gap := false
        staleAt := if n.subCfg i = none then (n.sub i).staleAt
          else some (after n.now (n.img.staleMs * 1000)) }) ∧
      m.hlm.zeroDrift = n.hlm.zeroDrift ∧ m.hlm.balanceResidue = n.hlm.balanceResidue ∧
      (∀ a, a ≠ .zeroDrift → a ≠ .balanceResidue → m.hlm.get a = { n.hlm.get a with measure := 0 }) ∧
      m.pins = n.pins ∧ m.clk = n.clk ∧ m.sul = n.sul

/-- ORDER (R117, R118): a part in range is taken into the order of its test id, or into a new one, which in
ARMED discards the segments; a complete order in READY makes the test state ARMED; the gauge length in force
becomes that of part 1 when a part, whichever it is, completes the order, and at each part 1 while it is complete
(in EXT nodes alone, log 34); a part out of range or with test id 0 is BAD-FIELD, and one after ARMED NOT-ALLOWED. A
change of the test state submits a STATE notice (R78). The three parts are spelled with their lengths, their layouts
(12.2) and their ranges (7.2); a part fills its place, and the order is complete with all three. -/
def Obligations.OrderPartTakenOrRefused : Prop :=
  (∀ (p : List Byte) (x : OrderPart),
    let at_ (i : Nat) : Int := nat32At p i
    let half (i : Nat) : Int := nat16At p i
    let among (lo v hi : Int) : Prop := lo ≤ v ∧ v ≤ hi
    orderPartOf p = some x ↔
      (natAt p 0 = 1 ∧ p.length = 11 ∧ x = .one { area := at_ 3, gauge := at_ 7 } ∧
        among 1 (at_ 3) 100000000 ∧ among 10000000 (at_ 7) 1000000000) ∨
      (natAt p 0 = 2 ∧ p.length = 31 ∧ x = .two
          { sigmaLo := at_ 3, sigmaHi := at_ 7, eMin := at_ 11, eMax := at_ 15, proofOffset := at_ 19
            yieldDrop := at_ 23, transientSpan := at_ 27 } ∧
        0 ≤ at_ 3 ∧ at_ 3 < at_ 7 ∧ at_ 7 ≤ 10000000 ∧ 1 ≤ at_ 11 ∧ at_ 11 ≤ at_ 15 ∧ at_ 15 ≤ 1000000 ∧
        among 100000 (at_ 19) 10000000 ∧ among 1 (at_ 23) 100000 ∧ among 0 (at_ 27) 100000000) ∨
      (natAt p 0 = 3 ∧ p.length = 23 ∧ x = .three
          { breakFraction := half 3, breakMinimum := at_ 5, releaseStrain := at_ 9, releaseDrop := half 13
            compliance := at_ 15, initialK := at_ 19 } ∧
        among 50 (half 3) 900 ∧ among 1 (at_ 5) 30000000 ∧ among 0 (at_ 9) 2000000000 ∧
        among 0 (half 13) 999 ∧ among 0 (at_ 15) 1000000 ∧ among 4096 (at_ 19) 65536)) ∧
  (∀ (o : Order) (a : OrderPart1) (b : OrderPart2) (c : OrderPart3),
    o.put (.one a) = { o with part1 := some a } ∧ o.put (.two b) = { o with part2 := some b } ∧
      o.put (.three c) = { o with part3 := some c } ∧
      (o.complete = true ↔ o.part1 ≠ none ∧ o.part2 ≠ none ∧ o.part3 ≠ none)) ∧
  ∀ (n : Node) (q : List Instr) (f : RxFrame), n.delivers .order f → n.active = true →
    let id := nat16At f.payload 1
    let refused (code : RefusalCode) : Host.Outcome State Fault Refusal :=
      .next ⟨{ n.popped with seq := { n.seq with refusal := some code } }, q⟩
    let early : Prop := n.seq.test = some .ready ∨ n.seq.test = some .armed
    (¬early → exec .order ⟨n, q⟩ = refused .notAllowed) ∧
    (early → orderPartOf f.payload = none ∨ id = 0 →
      exec .order ⟨n, q⟩ = refused .badField) ∧
    (∀ x, early → orderPartOf f.payload = some x → id ≠ 0 →
      ∃ m, exec .order ⟨n, q⟩ = .next ⟨m, q⟩ ∧
        (∀ o, n.seq.order = some o → o.testId = id →
          m.seq.order = some (o.put x) ∧ m.seq.segs = n.seq.segs ∧ m.seq.cursor = n.seq.cursor ∧
          ((o.put x).complete = true → m.seq.test = some .armed) ∧
          ((o.put x).complete = false → m.seq.test = n.seq.test)) ∧
        ((∀ o, n.seq.order = some o → o.testId ≠ id) →
          m.seq.order = some ((⟨id, none, none, none⟩ : Order).put x) ∧
          (n.seq.order ≠ none → m.seq.test = some .ready) ∧
          (n.seq.test = some .armed → n.seq.order ≠ none →
            m.seq.segs = Vector.replicate 32 {} ∧ m.seq.cursor = 0)) ∧
        (∀ o p, n.extLive = true → n.seq.order = some o → o.testId = id →
          (o.put x).complete = true → o.complete = false ∨ (∃ y, x = .one y) →
          (o.put x).part1 = some p → m.exh.gauge = p.gauge) ∧
        (n.extLive = false ∨ (∀ o, n.seq.order = some o → o.testId ≠ id ∨ (o.put x).complete = false ∨
            o.complete = true ∧ ∀ y, x ≠ .one y) →
          m.exh.gauge = n.exh.gauge) ∧
        (m.seq.test ≠ n.seq.test → n.notified m) ∧ m.seq.refusal = n.seq.refusal ∧
        m.seq.endCause = n.seq.endCause ∧ m.lc = n.lc ∧ m.hlt = n.hlt ∧
        m.pta = n.pta ∧ m.hlm = n.hlm)

/-- SEGMENT (R119, R132): checked in the order of R119; an accepted one makes its entry LOADED, and at cursor + 1 it
ends a starvation: the entry opens with STARVED-BEFORE, and a STATE notice is submitted (R78). The layout of its
payload (12.2) and the ranges of its fields are spelled (7.3), with those of the end value by its end kind (7.5): an
entry 31 without LAST, a closed-mode target that is not positive and an entry velocity of 0 are out of range. A
wrong length is judged after the test state and before the test id, the model's choice (log 19). -/
def Obligations.SegmentLoadedOrRefused : Prop :=
  (∀ (p : List Byte) (i : Fin 32) (g : SegFields),
    let mode (m : Mode) : Nat := match m with
      | .hold => 0 | .crossheadRate => 1 | .loadRate => 2 | .strainRate => 3
    let ends (k : EndKind) : Nat := match k with
      | .strainAtLeast => 1 | .forceAtLeast => 2 | .travelAtLeast => 3 | .timeAtLeast => 4
      | .yieldSeen => 5 | .forceDrop => 6 | .breakOnly => 7
    let among (lo v hi : Int) : Prop := lo ≤ v ∧ v ≤ hi
    segmentOf p = some (i, g) ↔
      natAt p 2 = i.val ∧ natAt p 3 = mode g.mode ∧ natAt p 13 = ends g.endKind ∧
      g.target = int32At p 4 ∧ g.entryVel = int32At p 8 ∧ g.window = natAt p 12 ∧
      g.endValue = int32At p 14 ∧ g.last = (byteAt p 18).getLsbD 0 ∧
      g.releaseAllowed = (byteAt p 18).getLsbD 1 ∧
      (g.mode = .crossheadRate → among (-4000000) g.target 4000000) ∧
      (g.mode = .loadRate ∨ g.mode = .strainRate →
        among 1 g.target 2000000000 ∧ g.entryVel ≠ 0 ∧ among (-4000000) g.entryVel 4000000) ∧
      among 2 g.window 8 ∧
      (g.endKind = .strainAtLeast ∨ g.endKind = .travelAtLeast →
        among (-2000000000) g.endValue 2000000000) ∧
      (g.endKind = .forceAtLeast → among (-30000000) g.endValue 30000000) ∧
      (g.endKind = .timeAtLeast → among 1 g.endValue 86400000) ∧
      (g.endKind = .forceDrop → among 1 g.endValue 999) ∧ (i = 31 → g.last = true)) ∧
  ∀ (n : Node) (q : List Instr) (f : RxFrame) (t : TestState), n.delivers .segment f →
    n.active = true → n.seq.test = some t →
    let takes : Prop := t = .armed ∨ t = .running ∨ t = .paused
    (n.starved = true ↔ (t = .running ∨ t = .paused) ∧ n.seq.segs[n.seq.cursor].status = .closed) ∧
    let refused (code : RefusalCode) : Host.Outcome State Fault Refusal :=
      .next ⟨{ n.popped with seq := { n.seq with refusal := some code } }, q⟩
    (¬takes → exec .segment ⟨n, q⟩ = refused .notAllowed) ∧
    (takes → f.payload.length ≠ 19 → exec .segment ⟨n, q⟩ = refused .badField) ∧
    (takes → f.payload.length = 19 → nat16At f.payload 0 ≠ n.testId →
      exec .segment ⟨n, q⟩ = refused .wrongTest) ∧
    (takes → f.payload.length = 19 → nat16At f.payload 0 = n.testId → segmentOf f.payload = none →
      exec .segment ⟨n, q⟩ = refused .badField) ∧
    (∀ i g, takes → f.payload.length = 19 → nat16At f.payload 0 = n.testId →
      segmentOf f.payload = some (i, g) →
      (t ≠ .armed → i ≤ n.seq.cursor → exec .segment ⟨n, q⟩ = refused .notAllowed) ∧
      (t = .armed ∨ n.seq.cursor < i → n.starved = false ∨ i.val ≠ n.seq.cursor.val + 1 →
        exec .segment ⟨n, q⟩ = .next ⟨{ n.popped with seq := { n.seq with
          segs := n.seq.segs.set i { status := .loaded, fields := g } } }, q⟩) ∧
      (n.starved = true → i.val = n.seq.cursor.val + 1 → n.staysOpen g →
        ∃ m, exec .segment ⟨n, q⟩ = .next ⟨m, q⟩ ∧ n.notified m ∧ m.seq.test = some t ∧ m.seq.cursor = i ∧
          m.seq.segs[i].status = .opened ∧ m.seq.segs[i].fields = g ∧ m.seq.segs[i].openTime = n.now ∧
          m.seq.segs[i].elapsed = 0 ∧ m.seq.segs[i].summary.starvedBefore = true ∧
          m.lc = n.lc ∧ m.pta = n.pta ∧ m.hlt = n.hlt ∧ m.hlm = n.hlm))

/-- The record a close makes (R120, R130), with the sources it reads. Without an OPEN entry, which can only stand at
the cursor, nothing closes. The OPEN entry becomes CLOSED with its cause, its open, close and elapsed times, and the
strain, the force and the crosshead test travel that the histories answer at the close time under the rule NEWEST
(R95), each absent where its history is empty. The travel is the rounded mean over the travel sources that have a
datum of what each reads less its datum (R26), and the same of newest values is what TRAVEL-AT-LEAST judges. A
source is the node's own history where it holds the role, and otherwise that of the one subscription of the use
(R104, 9.1); it is stale where that subscription is (R91). That a source with a datum and an empty history is left
out of the mean is the model's reading (log 15). -/
def Obligations.CloseRecordsTheOutcome : Prop :=
  (∀ (n : Node) (cause : CloseCause) (t : Time),
    (∀ e, n.seq.openEntry = some e ↔
      n.seq.segs[n.seq.cursor].status = .opened ∧ n.seq.segs[n.seq.cursor] = e) ∧
    (n.seq.openEntry = none → n.closeOpen cause t = n) ∧
    ∀ e, n.seq.openEntry = some e → n.closeOpen cause t = { n with seq := { n.seq with
      segs := n.seq.segs.set n.seq.cursor { e with
        status := .closed
        outcome := some
          { cause := cause, openTime := e.openTime, closeTime := t, elapsed := e.elapsed
            strain := (answerNewest n.strainHist t).map (·.value)
            force := (answerNewest n.loadHist t).map (·.value)
            travel := n.travelAt t } } } }) ∧
  (∀ (n : Node) (t : Time),
    let less (v d : Option Int) : List Int := match v, d with
      | some v, some d => [v - d]
      | _, _ => []
    let mean (v : List HistEntry → Option Int) : Option Int :=
      let xs := less (v n.tsg.hist) n.datums.own ++ less (v (n.sub 0).hist) n.datums.subs[0] ++
        less (v (n.sub 1).hist) n.datums.subs[1] ++ less (v (n.sub 2).hist) n.datums.subs[2] ++
        less (v (n.sub 3).hist) n.datums.subs[3]
      if xs = [] then none else some (roundDiv xs.sum xs.length)
    n.travelAt t = mean (fun h => (answerNewest h t).map (·.value)) ∧
    n.travelNow = mean (fun h => h.getLast?.map (·.value))) ∧
  ∀ (n : Node) (u : SubUse),
    n.loadHist = (if n.roles.load then n.lc.hist else n.histOfUse .loadSource) ∧
    n.strainHist = (if n.roles.ext then n.exh.hist.map (·.entry) else n.histOfUse .strainSource) ∧
    n.latestForce = n.loadHist.getLast?.map (·.value) ∧
    (n.staleUse u = true ↔ ∃ i, n.subOfUse u = some i ∧ (n.sub i).stale = true) ∧
    (n.subOfUse u = none → n.histOfUse u = []) ∧
    (∀ i, n.subOfUse u = some i → n.histOfUse u = (n.sub i).hist) ∧
    (n.subOfUse u = none ↔ ∀ i c, n.subCfg i = some c → c.use ≠ u) ∧
    ∀ i, n.subOfUse u = some i ↔ (∃ c, n.subCfg i = some c ∧ c.use = u) ∧
      ∀ j c, j < i → n.subCfg j = some c → c.use ≠ u

/-- MARK (R131, R132, R134, R135): behind, or of another test, or outside a test it is ignored; level with an OPEN
entry it closes it with PEER-MARK at the converted close time, and the sequencer ends the test at LAST, opens the
next LOADED entry or is STARVED. Ahead it closes the OPEN entry so, with no walk where that carries LAST; then it
skips every entry up to its index, which ends the test at the first that carries LAST; and from the entry at its
index it opens the next where that is LOADED, with STARVED-BEFORE where the walk began STARVED, and is STARVED there
where it is not. Where the test state or the cursor changes, a STATE notice is submitted (R78). The fields of a
skipped entry that was never LOADED are the model's choice (log 32). -/
def Obligations.MarkClosesOrSkips : Prop :=
  ∀ (n : Node) (q : List Instr) (f : RxFrame), n.delivers .mark f →
    let j := natAt f.payload 0
    let taken : Prop := f.payload.length = 7 ∧ n.testInProgress = true ∧
      nat16At f.payload 1 = n.testId ∧ j ≤ 31
    let at_ := word32At f.payload 3
    let p := n.peer f.header.sender
    let closed : Time := match p.offset with
      | some o => if p.offsetValid then at_ + o else n.now
      | none => n.now
    let kept (m : Node) : Prop := m.lc = n.lc ∧ m.pta = n.pta ∧ m.hlt = n.hlt ∧ m.hlm = n.hlm
    let endsAt (m : Node) (k : Fin 32) : Prop :=
      m.seq.test = some .ended ∧ m.seq.endCause = some .lastSegment ∧ m.seq.cursor = k ∧ n.notified m
    let starvesAt (m : Node) (k : Fin 32) : Prop :=
      m.seq.test = n.seq.test ∧ m.seq.cursor = k ∧ m.starved = true ∧
        (k ≠ n.seq.cursor → n.notified m) ∧
        (n.roles.drive = true → m.cmu.requested = .hold)
    let opensAt (m : Node) (i : Fin 32) (starved : Bool) : Prop :=
      m.seq.test = n.seq.test ∧ m.seq.cursor = i ∧ m.seq.segs[i].status = .opened ∧
        m.seq.segs[i].fields = n.seq.segs[i].fields ∧ m.seq.segs[i].openTime = n.now ∧
        m.seq.segs[i].elapsed = 0 ∧ m.seq.segs[i].summary.starvedBefore = starved ∧ n.notified m
    let skippedTo (m : Node) (k : Fin 32) : Prop :=
      ∀ i : Fin 32, n.seq.cursor < i → i ≤ k → m.seq.segs[i] = { n.seq.segs[i] with
        status := .closed, openTime := n.now, elapsed := 0, firstLock := none, summary := {}
        outcome := some ⟨.skipped, n.now, n.now, 0, none, none, none⟩ }
    (¬taken ∨ j < n.seq.cursor.val ∨ j = n.seq.cursor.val ∧ n.seq.openEntry = none →
      exec .markFrame ⟨n, q⟩ = .next ⟨n.popped, q⟩) ∧
    (∀ e, taken → j = n.seq.cursor.val → n.seq.openEntry = some e →
      ∃ m, exec .markFrame ⟨n, q⟩ = .next ⟨m, q⟩ ∧ n.closedBy m .peerMark closed ∧
        (e.fields.last = true → endsAt m n.seq.cursor) ∧
        (e.fields.last = false → n.nextLoaded = none → starvesAt m n.seq.cursor) ∧
        (∀ i, e.fields.last = false → n.nextLoaded = some i → n.staysOpen n.seq.segs[i].fields →
          opensAt m i false) ∧ kept m) ∧
    (∀ e, taken → n.seq.cursor.val < j → n.seq.openEntry = some e → e.fields.last = true →
      ∃ m, exec .markFrame ⟨n, q⟩ = .next ⟨m, q⟩ ∧ n.closedBy m .peerMark closed ∧
        endsAt m n.seq.cursor ∧ kept m) ∧
    (taken → n.seq.cursor.val < j →
      n.starved = true ∨ (∃ e, n.seq.openEntry = some e ∧ e.fields.last = false) →
      ∃ m, exec .markFrame ⟨n, q⟩ = .next ⟨m, q⟩ ∧ n.closedBy m .peerMark closed ∧
        (∀ k : Fin 32, n.seq.cursor < k → k.val ≤ j → n.seq.segs[k].fields.last = true →
          (∀ i : Fin 32, n.seq.cursor < i → i < k → n.seq.segs[i].fields.last = false) →
          skippedTo m k ∧ (∀ i : Fin 32, k < i → m.seq.segs[i] = n.seq.segs[i]) ∧ endsAt m k) ∧
        (∀ k : Fin 32, k.val = j →
          (∀ i : Fin 32, n.seq.cursor < i → i ≤ k → n.seq.segs[i].fields.last = false) →
          skippedTo m k ∧
          ((∀ i : Fin 32, i.val = j + 1 → n.seq.segs[i].status ≠ .loaded) → starvesAt m k) ∧
          (∀ i : Fin 32, i.val = j + 1 → n.seq.segs[i].status = .loaded →
            n.staysOpen n.seq.segs[i].fields → opensAt m i n.starved)) ∧ kept m)

/-- The end conditions of the OPEN segment that a sample brings (R128, with 7.5), judged in RUNNING alone: a strain
without FAULT at or above STRAIN-AT-LEAST; a force without HELD at or above FORCE-AT-LEAST, or for FORCE-DROP at or
below the force maximum less the drop once that maximum has reached the break minimum; the newest crosshead test
travel at or above TRAVEL-AT-LEAST. A condition that is not met changes nothing. One that is met closes the segment
with CONDITION at this time (R130), an ACTIVE node submits the MARK (R133), and the sequencer ends the test at LAST,
is STARVED without a next LOADED entry, and opens it otherwise (R131); the end and the opening submit a STATE notice
(R78). -/
def Obligations.SegmentEndConditionsJudged : Prop :=
  ∀ (n : Node) (e : HistEntry),
    (n.seq.test ≠ some .running ∨ n.seq.openEntry = none →
      n.watchStrain e = n ∧ n.watchForce e = n ∧ n.watchTravel = n) ∧
    ∀ g, n.seq.test = some .running → n.seq.openEntry = some g →
      let kind := g.fields.endKind
      let least := g.fields.endValue
      let top := if n.roles.load then n.lc.fmax else n.seq.forceMax
      let drops : Prop := ∃ p, n.part3 = some p ∧ p.breakMinimum ≤ top ∧
        e.value ≤ roundDiv (top * (1000 - least)) 1000
      let judged (m : Node) (met : Prop) : Prop :=
        (¬met → m = n) ∧
        (met → n.closedBy m .condition n.now ∧
          (g.fields.last = true → m.seq.test = some .ended ∧ m.seq.endCause = some .lastSegment ∧
            n.notified m) ∧
          (g.fields.last = false → n.nextLoaded = none →
            m.seq.test = some .running ∧ m.seq.cursor = n.seq.cursor ∧ m.starved = true) ∧
          (∀ i, g.fields.last = false → n.nextLoaded = some i → n.staysOpen n.seq.segs[i].fields →
            m.seq.test = some .running ∧ m.seq.cursor = i ∧ m.seq.segs[i].status = .opened ∧
              m.seq.segs[i].openTime = n.now ∧ m.seq.segs[i].fields = n.seq.segs[i].fields ∧
              n.notified m) ∧
          ((∀ i, n.nextLoaded = some i → n.staysOpen n.seq.segs[i].fields) →
            n.active = true → n.fbc.markSlot = none → m.fbc.markSlot = some
              (broadcastFrame .mark (byteOf n.seq.cursor.val :: be16 n.testId ++ be32 n.now))) ∧
          m.lc = n.lc ∧ m.pta = n.pta ∧ m.hlm = n.hlm ∧ m.datums = n.datums ∧ m.pins = n.pins ∧
          m.clk = n.clk ∧ m.sul = n.sul)
      judged (n.watchStrain e) (kind = .strainAtLeast ∧ e.flags.fault = false ∧ least ≤ e.value) ∧
      judged (n.watchForce e) (e.flags.held = false ∧
        (kind = .forceAtLeast ∧ least ≤ e.value ∨ kind = .forceDrop ∧ drops)) ∧
      judged n.watchTravel (kind = .travelAtLeast ∧ ∃ t, n.travelNow = some t ∧ least ≤ t)

/-! ### Evaluator -/

/-- A pair and the stages of its pair operation (R159). The pair carries the stress on the area of the order and the
marks of its two sources. Its marks and the pair count (stage 1); TS, FM and the strain of the first highest
stress (R166); the yield tracker, from the peak to UYS, then LYS and YPE (R163, R164); the fit, which takes the
pairs within its window and closes at the first above it as NO-FIT, ACCEPTED or REJECTED (R160, R161); the proof
search, which an ACCEPTED fit starts and the first crossing ends (R162); and the break-scan queue of 16 (R167). -/
def Obligations.PairFormedUpdatesTheRecord : Prop :=
  (∀ (area : Int) (l : LoadEntry) (a : Answer), pairOf area l a =
    { time := l.time, force := l.force, stress := roundDiv (l.force * 10000) area, strain := a.value
      degraded := l.flags.degraded || a.flags.degraded, held := a.held, derived := a.flags.derived
      unplanned := a.flags.unplanned }) ∧
  ∀ (e : Evl) (p : EvalParams) (x : Pair),
    let r := e.record
    let v := r.values
    let withValues (v : ResultValues) : Evl := { e with record := { r with values := v } }
    (e.markStage x = { e with record := { r with
      pairCount := r.pairCount + 1
      causes := { r.causes with
        degraded := r.causes.degraded || x.degraded
        heldPairing := r.causes.heldPairing || x.held } } }) ∧
    ((v.ts = none ∨ ∃ ts fm at_, v.ts = some (ts, fm, at_) ∧ ts < x.stress) →
      e.maxStage x = withValues { v with ts := some (x.stress, x.force, x.strain) }) ∧
    (∀ ts fm at_, v.ts = some (ts, fm, at_) → x.stress ≤ ts → e.maxStage x = e) ∧
    (e.yield.st = .seeking →
      ((e.yield.peak = none ∨ ∃ y at_, e.yield.peak = some (y, at_) ∧ y < x.stress) →
        e.yieldStage p x = { e with yield := { e.yield with peak := some (x.stress, x.strain) } }) ∧
      ∀ y at_, e.yield.peak = some (y, at_) → x.stress ≤ y →
        (x.stress ≤ y - p.yieldDrop → e.yieldStage p x = { withValues { v with uys := some (y, at_) } with
          yield := { e.yield with st := .plateau } }) ∧
        (y - p.yieldDrop < x.stress → e.yieldStage p x = e)) ∧
    (∀ u at_, e.yield.st = .plateau → v.uys = some (u, at_) →
      (u < x.stress → e.yieldStage p x = { withValues { v with ype := some (x.strain - at_) } with
        yield := { e.yield with st := .closed } }) ∧
      (x.stress ≤ u → x.strain ≤ at_ + p.transientSpan → e.yieldStage p x = e) ∧
      (x.stress ≤ u → at_ + p.transientSpan < x.strain →
        (v.lys = none → e.yieldStage p x = withValues { v with lys := some x.stress }) ∧
        ∀ y, v.lys = some y → e.yieldStage p x = withValues { v with lys := some (min y x.stress) })) ∧
    (e.yield.st = .closed → e.yieldStage p x = e) ∧
    (let f := e.fit
    let den := f.n * f.sEE - f.sE * f.sE
    let num := f.n * f.sES - f.sE * f.sS
    let modulus := roundDiv (num * 10000000) den
    (f.st ≠ .fitOpen ∨ x.stress < p.sigmaLo ∧ p.sigmaLo ≤ p.sigmaHi → e.fitStage p x = e) ∧
    (f.st = .fitOpen → p.sigmaLo ≤ x.stress → x.stress ≤ p.sigmaHi →
      e.fitStage p x = { e with fit := { f with
        n := f.n + 1, sE := f.sE + x.strain, sS := f.sS + x.stress, sEE := f.sEE + x.strain * x.strain
        sES := f.sES + x.strain * x.stress } }) ∧
    (f.st = .fitOpen → p.sigmaHi < x.stress →
      (f.n < 16 ∨ den = 0 → e.fitStage p x = { e with
        fit := { f with st := .noFit }
        record := { r with causes := { r.causes with noFit := true } } }) ∧
      (16 ≤ f.n → den ≠ 0 → p.eMin ≤ modulus ∧ modulus ≤ p.eMax →
        e.fitStage p x = { e with
          fit := { f with st := .accepted }, proof := { st := .searching, prev := none }
          record := { r with values := { v with
            e := some modulus, epsInt := some (roundDiv (f.sE * num - f.sS * den) (f.n * num)) } } }) ∧
      (16 ≤ f.n → den ≠ 0 → modulus < p.eMin ∨ p.eMax < modulus →
        e.fitStage p x = { e with
          fit := { f with st := .rejected }
          record := { r with
            values := { v with e := some modulus }
            causes := { r.causes with fitRejected := true } } }))) ∧
    ((e.proof.st ≠ .searching → e.proofStage p x = e) ∧
    ∀ modulus epsInt, e.proof.st = .searching → v.e = some modulus → v.epsInt = some epsInt →
      let d := x.stress - roundDiv (modulus * (x.strain - epsInt - p.offset)) 10000000
      let searched : Evl := { e with proof := { e.proof with prev := some (d, x.stress, x.strain) } }
      (e.proof.prev = none → e.proofStage p x = searched) ∧
      ∀ dp sp ep, e.proof.prev = some (dp, sp, ep) →
        (0 < d ∨ dp ≤ 0 → e.proofStage p x = searched) ∧
        (d ≤ 0 → 0 < dp →
          let crossing (a b : Int) : Int := roundDiv (a * (dp - d) + dp * (b - a)) (dp - d)
          e.proofStage p x = { withValues { v with
            ps := some (crossing sp x.stress, crossing ep x.strain, p.offset) } with
            proof := { e.proof with st := .found } })) ∧
    e.scanStage x = { e with scan := pushBounded 16 e.scan ⟨x.stress, x.strain, x.derived⟩ }

/-- Pairing (R155 to R158) and the yield-seen report (R165). A load sample is taken into the queue of a COLLECTING
record by the four conditions of R155, after an overflow where the queue is full, and an attempt follows. A round
of an attempt takes the front entry: WAIT leaves it, an answer with FAULT removes it without a pair and sets
STRAIN-FAULT, and every other answer forms the pair. The overflow takes the front entry with the newest strain as
a held pair. A strain sample sets its causes and makes an attempt. A pair passes all its stages in order; where neither
tracker has found yield the record alone changes and a held pair marks the open segment; the first UYS or PS found
is reported once, sets the sequencer's mark, and closes an OPEN YIELD-SEEN entry in RUNNING. Where that entry is
LAST and ends the test, the record closes with LAST-SEGMENT and its drain limit runs, the stages that are left are
passed, and the drain ends at the end of the attempt (R159, R169, R170). That the entry a pair is formed from leaves
the queue after those stages is the model's reading (log 8). -/
def Obligations.PairingAttemptAndYieldSeen : Prop :=
  (∀ (n : Node) (e : HistEntry),
    let ordered : Prop := ∀ l, n.evl.queue.getLast? = some l → later e.time l.time = true
    let inTime : Prop := ∀ t, n.evl.closing = some t → later e.time t = false
    let taken : Prop := n.collecting = true ∧ e.flags.held = false ∧ inTime ∧ ordered
    let joins (m : Node) : Node :=
      { m with evl := { m.evl with queue := m.evl.queue ++ [⟨e.time, e.value, e.flags⟩] } }
    (¬taken → n.evalLoad e = n) ∧
    (taken → n.evl.queue.length < 16 → n.evalLoad e = (joins n).pairingAttempt) ∧
    (taken → 16 ≤ n.evl.queue.length → n.evalLoad e = (joins n.overflow).pairingAttempt) ∧
    (n.collecting = false → n.evalStrain e = n) ∧
    (n.collecting = true → n.evalStrain e = Node.pairingAttempt { n with evl := { n.evl with
      record := { n.evl.record with causes := { n.evl.record.causes with
        strainFault := n.evl.record.causes.strainFault || e.flags.fault
        unplannedHandover := n.evl.record.causes.unplannedHandover || e.flags.unplanned } } } }) ∧
    n.pairingAttempt = (if (n.pairRounds n.evl.queue.length).collecting then
      (n.pairRounds n.evl.queue.length).endDrain else n.pairRounds n.evl.queue.length)) ∧
  (∀ (n : Node) (p : EvalParams) (l : LoadEntry) (rest : List LoadEntry) (k : Nat),
    n.collecting = true → n.evl.params = some p → n.evl.queue = l :: rest →
    let pop (m : Node) : Node := { m with evl := { m.evl with queue := m.evl.queue.drop 1 } }
    let causes (c : Causes) : Node := { n with evl := { n.evl with
      queue := rest, record := { n.evl.record with causes := c } } }
    let c := n.evl.record.causes
    let answer := (locate n.strainHist l.time).inside l.time
    (answer = none → n.pairRounds (k + 1) = n) ∧
    (∀ a, answer = some a → a.flags.fault = true →
      n.pairRounds (k + 1) = (causes { c with strainFault := true }).pairRounds k) ∧
    (∀ a, answer = some a → a.flags.fault = false →
      n.pairRounds (k + 1) = (pop (n.passPair p (pairOf p.area l a))).pairRounds k) ∧
    (newest? n.strainHist = none → n.overflow = causes { c with heldPairing := true }) ∧
    (∀ e, newest? n.strainHist = some e →
      (e.flags.fault = true → n.overflow = causes { c with strainFault := true }) ∧
      (e.flags.fault = false →
        n.overflow = pop (n.passPair p (pairOf p.area l ⟨e.value, e.flags, true⟩))))) ∧
  ∀ (n : Node) (p : EvalParams) (x : Pair), n.collecting = true →
    let early := ((n.evl.markStage x).maxStage x).yieldStage p x
    let line := (early.fitStage p x).proofStage p x
    let found (e : Evl) : Bool := e.record.values.uys.isSome || e.record.values.ps.isSome
    let mark (g : Segment) : Segment := { g with summary := { g.summary with heldPair := true } }
    let marked : Seq := match x.held, n.seq.openEntry with
      | true, some g => { n.seq with segs := n.seq.segs.set n.seq.cursor (mark g) }
      | _, _ => n.seq
    let m := n.passPair p x
    (n.evl.yieldReported = true ∨ found line = false →
      m = { n with evl := line.scanStage x, seq := marked }) ∧
    let passed : Evl := { line.scanStage x with yieldReported := true }
    let lastClosed : Evl := { passed with
      record := { passed.record with endCause := some .lastSegment }
      closing := some n.now, drainAt := some (after n.now n.staleUs) }
    (n.evl.yieldReported = false → found line = true →
      m.seq.yieldSeen = true ∧ m.evl.yieldReported = true ∧
      (n.evl.queue ≠ [] → m.evl = passed ∨ m.evl = lastClosed) ∧
      (∀ g, n.evl.queue ≠ [] → n.evl.closing = none → n.seq.test = some .running →
        n.seq.openEntry = some g → g.fields.endKind = .yieldSeen → g.fields.last = true →
        m.evl = lastClosed) ∧
      (∀ g, n.seq.test = some .running → n.roles.eval = true → n.seq.openEntry = some g →
        g.fields.endKind = .yieldSeen →
        Node.closedBy { n with seq := marked } m .condition n.now) ∧
      (n.seq.test ≠ some .running ∨ n.seq.openEntry = none ∨
          (∃ g, n.seq.openEntry = some g ∧ g.fields.endKind ≠ .yieldSeen) →
        m = { n with
          evl := passed
          seq := { marked with yieldSeen := true } }))

/-- The end of an evaluation (R161, R166, R168 to R172). The first ending event that reaches a COLLECTING record whose
closing mark is clear sets the end cause, the closing mark with the closing time, and the drain limit of the
staleness time; where nothing is queued the record is completed at once, and otherwise when the queue has drained. The
completion closes a fit still OPEN, without a closing pair and so without a proof search; computes UE, and after a
BREAK alone FE, from the fracture pair: the earlier point of the largest drop above 0 between consecutive points of
the break-scan queue, the earliest of equal drops; both need an ACCEPTED fit. It makes the record FINAL, VALID without
causes and SUSPECT with one, and the closing mark and the drain limit go. -/
def Obligations.EvaluationEndsAndCompletes : Prop :=
  (∀ (n : Node) (cause : EndCause),
    let evl : Evl := { n.evl with
      record := { n.evl.record with endCause := some cause }, closing := some n.now
      drainAt := some (after n.now (n.img.staleMs * 1000)) }
    (n.collecting = false ∨ n.evl.closing ≠ none → n.evalEnding cause = n) ∧
    (n.collecting = true → n.evl.closing = none → n.evl.queue ≠ [] →
      n.evalEnding cause = { n with evl := evl }) ∧
    (n.collecting = true → n.evl.closing = none → n.evl.queue = [] →
      n.evalEnding cause = Node.completeRecord { n with evl := evl }) ∧
    (n.evl.closing = none ∨ n.evl.queue ≠ [] → n.endDrain = n) ∧
    (n.evl.closing ≠ none → n.evl.queue = [] → n.endDrain = n.completeRecord)) ∧
  ∀ (e : Evl) (p : EvalParams), e.params = some p →
    let r := e.record
    let v := r.values
    let f := e.fit
    let den := f.n * f.sEE - f.sE * f.sE
    let num := f.n * f.sES - f.sE * f.sS
    let modulus := roundDiv (num * 10000000) den
    let inside : Prop := p.eMin ≤ modulus ∧ modulus ≤ p.eMax
    let done (st : FitState) (w : ResultValues) (c : Causes) : Evl := { e with
      fit := { f with st := st }
      closing := none, drainAt := none
      record := { r with
        st := .final, values := w, causes := c
        validity := some (if c = {} then .valid else .suspect) } }
    let plain (w : ResultValues) : ResultValues := { w with ue := none, fe := none }
    let fe := e.completed.record.values.fe
    let accepted (w : ResultValues) (m : Int) : Prop :=
      let drop (a b : ScanPoint) : Int := a.stress - b.stress
      e.completed = done .accepted { w with
        ue := v.ts.map fun x => x.2.2 - roundDiv (x.1 * 10000000) m
        fe := fe } r.causes ∧
      (r.endCause ≠ some .byBreak → fe = none) ∧
      (r.endCause = some .byBreak →
        ((∀ pre a b post, e.scan = pre ++ a :: b :: post → drop a b ≤ 0) → fe = none) ∧
        ∀ pre a b post, e.scan = pre ++ a :: b :: post → 0 < drop a b →
          (∀ pre' x y post', e.scan = pre' ++ x :: y :: post' → drop x y ≤ drop a b ∧
            (pre'.length < pre.length → drop x y < drop a b)) →
          fe = some (a.strain - roundDiv (a.stress * 10000000) m, a.derived))
    (f.st = .fitOpen →
      (f.n < 16 ∨ den = 0 →
        e.completed = done .noFit (plain v) { r.causes with noFit := true }) ∧
      (16 ≤ f.n → den ≠ 0 → ¬inside → e.completed =
        done .rejected (plain { v with e := some modulus }) { r.causes with fitRejected := true }) ∧
      (16 ≤ f.n → den ≠ 0 → inside → accepted { v with
        e := some modulus, epsInt := some (roundDiv (f.sE * num - f.sS * den) (f.n * num)) } modulus)) ∧
    (f.st = .rejected ∨ f.st = .noFit ∨ f.st = .accepted ∧ v.e = none →
      e.completed = done f.st (plain v) r.causes) ∧
    (∀ m, f.st = .accepted → v.e = some m → accepted v m)

/-- The RESULT (R76, R173, 12.3). The three parts of a record, byte by byte: the part number, the test id and the
presence byte, then the part's fields in their order, an absent value sent as 0. At the completion of a record an
ACTIVE node submits them, broadcast: together at the back of the bulk FIFO where three entries are free and no
RESULT is pending, and else as the pending RESULT, which takes the place of an older one. That a removal from the
FIFO whose judging of the pending RESULT is still owed is judged first (log 12), and that no part has the fit's n
(log 38), is the model's reading. -/
def Obligations.ResultPartsSubmitted : Prop :=
  (∀ e : Evl,
    let r := e.record
    let v := r.values
    let c := r.causes
    let head (part : Byte) (present : List Bool) : List Byte :=
      part :: be16 r.testId ++ [bitsByte present]
    let or0 (x : Option Int) : List Byte := i32 (x.getD 0)
    let endCause : Byte := match r.endCause with
      | none => 0 | some .lastSegment => 1 | some .byBreak => 2 | some .byAbort => 3 | some .byHalt => 4
    let validity : Byte := match r.validity with
      | none => 0 | some .valid => 1 | some .suspect => 2
    let fit : Byte := match e.fit.st with
      | .fitOpen => 0 | .accepted => 1 | .rejected => 2 | .noFit => 3
    let source : Byte := match v.fe with
      | none => 0 | some (_, false) => 1 | some (_, true) => 2
    let part1 := head 1 [v.e.isSome, v.epsInt.isSome] ++ [endCause, validity,
        bitsByte [c.degraded, c.heldPairing, c.strainFault, c.unplannedHandover, c.noFit, c.fitRejected]] ++
      u32 r.pairCount ++ [fit] ++ or0 v.e ++ or0 v.epsInt
    let part2 := head 2 [v.uys.isSome, v.lys.isSome, v.ype.isSome, v.ps.isSome] ++
      or0 (v.uys.map (·.1)) ++ or0 (v.uys.map (·.2)) ++ or0 v.lys ++ or0 v.ype ++
      or0 (v.ps.map (·.1)) ++ or0 (v.ps.map (·.2.1)) ++ or0 (v.ps.map (·.2.2))
    let part3 := head 3 [v.ts.isSome, v.ue.isSome, v.fe.isSome] ++
      or0 (v.ts.map (·.1)) ++ or0 (v.ts.map (·.2.1)) ++ or0 (v.ts.map (·.2.2)) ++
      or0 v.ue ++ or0 (v.fe.map (·.1)) ++ [source]
    e.resultParts = [part1, part2, part3] ∧ part1.length = 20 ∧ part2.length = 32 ∧
      part3.length = 25) ∧
  ∀ n : Node,
    let evl := n.evl.completed
    let parts := evl.resultParts.map (broadcastFrame .result)
    let b := n.fbc
    let queued (l : List TxFrame) : List Slot := b.fifo ++ l.map (⟨·, n.now⟩)
    let put (b : Fbc) : Node := { n with evl := evl, fbc := b }
    let first (b : Fbc) : Node := Node.completeRecord { n with fbc := { b with removal := false } }
    (n.active = false → n.completeRecord = put b) ∧
    (n.active = true → b.removal = false →
      (b.pendingResult = none → b.fifo.length ≤ 5 →
        n.completeRecord = put { b with fifo := queued parts }) ∧
      (b.pendingResult ≠ none ∨ 5 < b.fifo.length →
        n.completeRecord = put { b with pendingResult := some parts })) ∧
    (n.active = true → b.removal = true →
      (b.pendingResult = none → n.completeRecord = first b) ∧
      ∀ old, b.pendingResult = some old →
        (b.fifo.length + old.length ≤ 8 →
          n.completeRecord = first { b with fifo := queued old, pendingResult := none }) ∧
        (8 < b.fifo.length + old.length → n.completeRecord = first b))

/-! ### Health, queries -/

/-- One update of a health attribute (R177, R178 to R181), taken while the node has a test state: the measure,
then the value by the attribute's formula, then the worst value, which never exceeds the value, then the
tripped flag; no other attribute and no other block changes. And the DEGRADED flag of a channel (R183). -/
def Obligations.HealthUpdateAndDegraded : Prop :=
  (∀ (n : Node) (a : HealthId) (x : Int),
    (n.inService = false → n.health a x = n) ∧
    (n.inService = true →
      let s := n.hlm.get a
      let m := n.health a x
      let s' := m.hlm.get a
      let left (x d : Int) : Int := max 0 (100 - roundDiv (100 * x) d)
      m = { n with hlm := m.hlm } ∧ s' = s.updated a n.img x ∧ (∀ b, b ≠ a → m.hlm.get b = n.hlm.get b) ∧
        s'.threshold = s.threshold ∧ s'.worst = min s.worst s'.value ∧ s'.worst ≤ s'.value ∧
        s'.tripped = (decide (s'.value < s.threshold) ||
          (s.tripped && decide (a ≠ .zeroDrift ∧ a ≠ .balanceResidue))) ∧
        (a = .zeroDrift → s'.measure = s.measure ∧ s'.value = left x n.img.health.driftAllowance) ∧
        (a = .balanceResidue → s'.measure = s.measure ∧ s'.value = left x n.img.load.balanceLimit) ∧
        (a = .armDisagree → s'.measure = max s.measure x ∧
          s'.value = left s'.measure n.img.health.disagreeAllowance) ∧
        (a = .slip → s'.measure = min (s.measure + 1) 65535 ∧
          s'.value = max 0 (100 - 25 * s'.measure)) ∧
        (a = .following → s'.measure = max s.measure x ∧
          s'.value = left s'.measure n.img.drive.followLimit) ∧
        (a = .level → s'.measure = max s.measure x ∧
          s'.value = left s'.measure n.img.drive.tiltLimit) ∧
        (a = .bus → s'.measure = min (s.measure + 1) 65535 ∧
          s'.value = max 0 (100 - 5 * s'.measure)))) ∧
  ∀ h : Hlm,
    (h.degraded .load = true ↔
      h.zeroDrift.tripped = true ∨ h.balanceResidue.tripped = true ∨ h.bus.tripped = true) ∧
    (h.degraded .travel = true ↔
      h.following.tripped = true ∨ h.level.tripped = true ∨ h.bus.tripped = true) ∧
    (h.degraded .strain = true ↔
      h.armDisagree.tripped = true ∨ h.slip.tripped = true ∨ h.bus.tripped = true)

/-- The five QUERY rows and QUERY_REFUSED (R96, R174, R184, R193 to R198). The REPLY, formed from the node as it
stands, joins the back of the FIFO for the querier, and is dropped where the FIFO is full; forming it changes
nothing but the gap flag that a PEER page reports. Every page of STATUS, SEGMENT, RESULT, HEALTH and PEER carries
the fields of its rule in their order. In CONFIG-FAULT a STATUS query alone is answered (R189). That a query of the
wrong length is the row QUERY_REFUSED, which sends nothing (R194), and that a STATUS query with a bad page is
answered as refused in CONFIG-FAULT too, is the model's choice (log 20); so is the 0 in the loaded fields of a
SKIPPED entry that was never LOADED (log 32), the id of an order complete or not on STATUS page 1 (log 37), and that
no RESULT page has the fit's n (log 38). The codes are those spelled in `CheckValueAndFrameRoundTrip`, and the
positions those in `PacerPublishesTravel`. -/
def Obligations.QueriesAnswered : Prop :=
  ∀ (n : Node) (q : List Instr) (f : RxFrame), n.fbc.removal = false →
    let p := f.payload
    let arg := natAt p 1
    let page := natAt p 2
    let sent (bytes : List Byte) : Node :=
      if n.fbc.fifo.length < 8 then { n.popped with fbc := { n.popped.fbc with
        fifo := n.fbc.fifo ++ [⟨directFrame .reply f.header.sender bytes, n.now⟩] } }
      else n.popped
    let answered (contents : List Byte) : Node :=
      sent ([byteAt p 0, byteAt p 1, byteAt p 2] ++ contents)
    let answers (c : Instr) (contents : List Byte) : Prop := exec c ⟨n, q⟩ = .next ⟨answered contents, q⟩
    let halt : List Byte := match n.hlt.record with
      | none => [0, 0, 0] ++ be32 0
      | some r => [if r.standing then 1 else 2, r.cause.code, byteOf r.originator.val] ++ be32 r.time
    let broke : List Byte := match n.hlt.breakRecord with
      | none => [0, 0] ++ be32 0
      | some r => [1, byteOf r.originator.val] ++ be32 r.time
    let status : Prop :=
      (page = 1 → answers .queryStatus ([n.seq.op.code, (n.seq.test.map TestState.code).getD 0] ++
        be16 n.testId ++ [byteOf n.seq.cursor.val, boolByte n.starved, refusalCode n.seq.refusal,
          endCauseCode n.seq.endCause] ++ halt ++ broke ++ u32 n.seq.pauseTime ++ n.configStatus ++
        [n.img.roles &&& 0x0F, Config.partRevision])) ∧
      (page = 2 → answers .queryStatus ([byteOf n.lc.range.val, byteOf n.lc.settle] ++
        be16 n.lc.trim.toNat ++ i32 n.lc.tare ++ balanceBytes n.lc.lastBalance ++
        [if n.lc.balance.isSome then 1 else if n.lc.zero.isSome then 2 else 0] ++ i32 n.lc.lastGood ++
        i32 n.lc.fmax ++ [boolByte n.lc.breakArmed, byteOf n.lc.down])) ∧
      (page = 3 → answers .queryStatus (i32 n.absolutePos ++ i32 n.commandedPos ++
        i32 n.followingError ++ [n.tsg.gen.st.code, n.tsg.jog.code,
          bitsByte [n.tsg.violLo, n.tsg.violHi], boolByte n.tsg.encFault,
          boolByte n.tsg.level.isSome] ++ i32 (n.tsg.level.getD 0) ++ i32 n.tsg.wanted ++
        i32 n.tsg.commanded)) ∧
      (page = 4 → answers .queryStatus ([n.exh.st.code] ++ i32 (n.exh.k.getD 0) ++
        i32 (n.exh.snap.elong.getD 0) ++ i32 (n.exh.snap.travel.getD 0) ++
        i32 (n.exh.snap.force.getD 0) ++
        [bitsByte [n.exh.snap.elong.isSome, n.exh.snap.travel.isSome, n.exh.snap.force.isSome,
            n.cmu.rm.isSome],
          bitsByte [n.exh.unplanned, n.cmu.entryStep, n.cmu.fallback, n.exh.releaseOut]] ++
        i32 (n.cmu.rm.getD 0) ++ [lockCode n.cmu.lock] ++ i32 (n.cmu.fallbackVel.getD 0)))
    (n.active = true →
      (n.delivers (.query .status) f → status) ∧
      (n.delivers (.query .segment) f → ∀ i : Fin 32, i.val = arg →
        let e := n.seq.segs[i]
        let g := e.fields
        (page = 1 → answers .querySegment ([e.status.code] ++
          (if g.window = 0 then List.replicate 16 0 else [g.mode.code] ++ i32 g.target ++
            i32 g.entryVel ++ [byteOf g.window, g.endKind.code] ++ i32 g.endValue ++
            [bitsByte [g.last, g.releaseAllowed]]) ++
          be32 (e.firstLock.getD 0) ++ [e.summary.byte])) ∧
        (page = 2 → e.status ≠ .closed ∨ e.outcome = none →
          answers .querySegment (List.replicate 26 0)) ∧
        ∀ o, page = 2 → e.status = .closed → e.outcome = some o → answers .querySegment (
          [bitsByte [true, o.strain.isSome, o.force.isSome, o.travel.isSome, e.firstLock.isSome],
            o.cause.code] ++ be32 o.openTime ++ be32 o.closeTime ++ u32 o.elapsed ++
          i32 (o.strain.getD 0) ++ i32 (o.force.getD 0) ++ i32 (o.travel.getD 0))) ∧
      (n.delivers (.query .result) f →
        let r := n.evl.record
        let v := r.values
        let head (presence : Byte) : List Byte :=
          [r.st.code] ++ be16 r.testId ++ [boolByte n.evl.closing.isSome, presence]
        (page = 1 → answers .queryResult (head (bitsByte [v.e.isSome, v.epsInt.isSome]) ++
          [endCauseCode r.endCause, validityCode r.validity, r.causes.byte] ++ u32 r.pairCount ++
          [n.evl.fit.st.code] ++ i32 (v.e.getD 0) ++ i32 (v.epsInt.getD 0))) ∧
        (page = 2 → answers .queryResult (
          head (bitsByte [v.uys.isSome, v.lys.isSome, v.ype.isSome, v.ps.isSome]) ++
          i32 ((v.uys.map (·.1)).getD 0) ++ i32 ((v.uys.map (·.2)).getD 0) ++ i32 (v.lys.getD 0) ++
          i32 (v.ype.getD 0))) ∧
        (page = 3 → answers .queryResult (
          head (bitsByte [v.uys.isSome, v.lys.isSome, v.ype.isSome, v.ps.isSome]) ++
          i32 ((v.ps.map (·.1)).getD 0) ++ i32 ((v.ps.map (·.2.1)).getD 0) ++
          i32 ((v.ps.map (·.2.2)).getD 0))) ∧
        (page = 4 → answers .queryResult (head (bitsByte [v.ts.isSome, v.ue.isSome, v.fe.isSome]) ++
          i32 ((v.ts.map (·.1)).getD 0) ++ i32 ((v.ts.map (·.2.1)).getD 0) ++
          i32 ((v.ts.map (·.2.2)).getD 0) ++ i32 (v.ue.getD 0) ++ i32 ((v.fe.map (·.1)).getD 0) ++
          [feSource v.fe]))) ∧
      (n.delivers (.query .health) f →
        let h := n.hlm
        let score (s : Score) : List Byte :=
          [byteOf s.value.toNat, byteOf s.worst.toNat, byteOf s.threshold]
        (page = 1 → answers .queryHealth (score h.zeroDrift ++ score h.balanceResidue ++
          score h.armDisagree ++ score h.slip ++ score h.following ++ score h.level ++ score h.bus ++
          [bitsByte [h.zeroDrift.tripped, h.balanceResidue.tripped, h.armDisagree.tripped,
            h.slip.tripped, h.following.tripped, h.level.tripped, h.bus.tripped]] ++
          be16 n.fbc.collisions)) ∧
        (page = 2 → answers .queryHealth (u32 h.armDisagree.measure.toNat ++
          be16 h.slip.measure.toNat ++ u32 h.following.measure.toNat ++ u32 h.level.measure.toNat ++
          be16 h.bus.measure.toNat))) ∧
      (n.delivers (.query .peer) f → ∀ id : Fin 16, id.val = arg →
        let x := n.peer id
        let pr := x.presence.getD ⟨0, 0, 0, 0⟩
        let age : BitVec 32 := if x.longSilent then 0xFFFFFFFF else match x.lastFrame with
          | some t => BitVec.ofNat 32 ((n.now - t).toNat / 1000)
          | none => 0
        (x.present = false → (page = 1 → answers .queryPeer (List.replicate 28 0)) ∧
          (page = 2 → answers .queryPeer (List.replicate 10 0))) ∧
        (x.present = true →
          (page = 1 → answers .queryPeer (
            [bitsByte [true, x.longSilent, x.offsetValid, x.reseedStamp.isSome, x.presence.isSome,
                x.view.isSome],
              bitsByte [x.rxSeq.urgent.isSome, x.rxSeq.sample.isSome, x.rxSeq.bulk.isSome]] ++
            be32 age ++ be32 (x.offset.getD 0) ++ [byteOf x.outliers] ++ be32 (x.reseedStamp.getD 0) ++
            [x.rxSeq.urgent.getD 0, x.rxSeq.sample.getD 0, x.rxSeq.bulk.getD 0] ++
            be16 x.missed.urgent ++ be16 x.missed.sample ++ be16 x.missed.bulk ++
            [pr.roles, pr.revision, pr.status, pr.field])) ∧
          (page = 2 → x.view = none → answers .queryPeer (List.replicate 10 0)) ∧
          ∀ v, page = 2 → x.view = some v → answers .queryPeer ([v.test] ++ be16 v.testId ++
            [v.cursor, v.requested, v.established, v.lock, v.ext, v.cause, v.originator])) ∧
        (∀ ch, (page, ch) ∈ [(3, Channel.load), (4, Channel.travel), (5, Channel.strain)] →
          (n.matchSub id ch = none → answers .queryPeer (List.replicate 16 0)) ∧
          ∀ i c, n.matchSub id ch = some i → n.subCfg i = some c →
            let s := n.sub i
            let e := newest? s.hist
            exec .queryPeer ⟨n, q⟩ = .next ⟨{ answered (
                [bitsByte [true, s.stale, s.gap, e.isSome, s.lastArrival.isSome], c.use.code,
                  byteOf s.hist.length, (e.map (·.seq)).getD 0] ++
                be32 ((e.map (·.time)).getD 0) ++ i32 ((e.map (·.value)).getD 0) ++
                be32 (s.lastArrival.getD 0)) with
              pta := { n.pta with subs := n.pta.subs.set i { s with gap := false } } }, q⟩)) ∧
      (n.delivers .queryRefused f →
        (p.length = 3 → exec .queryRefused ⟨n, q⟩ =
          .next ⟨sent [byteAt p 0, byteAt p 1, byteAt p 2 ||| 0x80], q⟩) ∧
        (p.length ≠ 3 → exec .queryRefused ⟨n, q⟩ = .next ⟨n.popped, q⟩))) ∧
    (n.seq.op = .configFault →
      (n.delivers (.query .status) f → status) ∧
      (n.delivers (.query .segment) f → exec .querySegment ⟨n, q⟩ = .next ⟨n.popped, q⟩) ∧
      (n.delivers (.query .result) f → exec .queryResult ⟨n, q⟩ = .next ⟨n.popped, q⟩) ∧
      (n.delivers (.query .health) f → exec .queryHealth ⟨n, q⟩ = .next ⟨n.popped, q⟩) ∧
      (n.delivers (.query .peer) f → exec .queryPeer ⟨n, q⟩ = .next ⟨n.popped, q⟩) ∧
      (n.delivers .queryRefused f →
        (p.length = 3 → byteAt p 0 = 1 → exec .queryRefused ⟨n, q⟩ =
          .next ⟨sent [byteAt p 0, byteAt p 1, byteAt p 2 ||| 0x80], q⟩) ∧
        (p.length ≠ 3 ∨ byteAt p 0 ≠ 1 → exec .queryRefused ⟨n, q⟩ = .next ⟨n.popped, q⟩)))

/-! ### Invariants -/

/-- Every step, a command or an oscillator count, keeps the bounds the manual sets to buffers and counts:
receive queues of 2 and 6, a bulk FIFO of 8, histories of 8, pairing and break-scan queues of 16, the idle
count to 107, the settle count to 4, the downward count below 64, missed and collision counts to 65,535,
at most three outliers, and worst health values not above the values (R6, R8, R9, R11, R67, R70, R72, R76,
R83, R85, R90, R167, R177, 9.2). -/
def Obligations.EveryStepKeepsTheBounds : Prop :=
  ∀ s t : State, s.node.Bounded → step s = .next t → t.node.Bounded

/-- Every step keeps the safety of the halt (R27, R33, R116, R141, R152): HALTED exactly while a halt record
stands, no test state before the image is accepted and one in ACTIVE, and a step generator that is
RUNNING only in a live drive whose DRV-EN is asserted, so no drive is stepped in HALTED, SILENT or
CONFIG-FAULT. -/
def Obligations.EveryStepKeepsTheHaltSafe : Prop :=
  ∀ s t : State, s.node.HaltSafe → step s = .next t → t.node.HaltSafe

/-- Every step keeps the segment table as R120 has it: CLOSED below the cursor, EMPTY or LOADED above it, so that only
the cursor's entry can be OPEN; cursor 0 and nothing OPEN or CLOSED before a test; the cursor's entry OPEN or CLOSED in
RUNNING and PAUSED, and in HALTED and ENDED CLOSED, or as it was where the test never left ARMED. The step needs of
its state that the test and the operating states go together, which `EveryStepKeepsTheHaltSafe` keeps. -/
def Obligations.EveryStepKeepsTheSegmentTable : Prop :=
  ∀ s t : State, s.node.HaltSafe → s.node.seq.TableKept → step s = .next t → t.node.seq.TableKept

/-- The node right after reset has the three invariants. -/
def Obligations.ResetHasTheInvariants : Prop :=
  State.reset.node.Bounded ∧ State.reset.node.HaltSafe ∧ State.reset.node.seq.TableKept
end

