-- ==== Sys2Proof/Decode.lean ====
section
/-! DEFINITION. The command a word spells. The opcode table gives no row any bits, so no word spells one. -/
namespace Sys2Proof

/-- The table gives no row any bits: no word spells a command (log 29). -/
def decodeTableWord (_nbits _w : Nat) : Option Instr := none

end Sys2Proof
end

