-- ==== Sys2Proof/Laws/State.lean ====
section
/-! SUPPORT. What replacing one block of the node leaves in every block: the block put there in its own
place, and every other block as it was. Later proofs cite these and unfold no record update. -/
namespace Sys2Proof.Laws
open Sys2Proof.Machine
-- One theorem at a time: the memory that many threads take together is bounded where this is checked.
set_option Elab.async false

/-! ### The short names of what a node reads -/

@[simp] theorem now_eq (n : Node) : n.now = n.clk.time := rfl
@[simp] theorem img_eq (n : Node) : n.img = n.sul.image := rfl
@[simp] theorem nodeId_eq (n : Node) : n.nodeId = n.sul.image.nodeId := rfl

/-! ### Replacing one block -/

@[simp] theorem setPins_fields (n : Node) (x : Pins) :
    (n.setPins x).pins = x ∧ (n.setPins x).filters = n.filters ∧ (n.setPins x).clk = n.clk ∧
    (n.setPins x).sul = n.sul ∧ (n.setPins x).lc = n.lc ∧ (n.setPins x).tsg = n.tsg ∧
    (n.setPins x).datums = n.datums ∧ (n.setPins x).exh = n.exh ∧ (n.setPins x).fbc = n.fbc ∧
    (n.setPins x).pta = n.pta ∧ (n.setPins x).cmu = n.cmu ∧ (n.setPins x).seq = n.seq ∧
    (n.setPins x).hlt = n.hlt ∧ (n.setPins x).evl = n.evl ∧ (n.setPins x).hlm = n.hlm := by
  refine ⟨?_, ?_, ?_, ?_, ?_, ?_, ?_, ?_, ?_, ?_, ?_, ?_, ?_, ?_, ?_⟩ <;> rfl

@[simp] theorem setFilters_fields (n : Node) (x : Filters) :
    (n.setFilters x).pins = n.pins ∧ (n.setFilters x).filters = x ∧ (n.setFilters x).clk = n.clk ∧
    (n.setFilters x).sul = n.sul ∧ (n.setFilters x).lc = n.lc ∧ (n.setFilters x).tsg = n.tsg ∧
    (n.setFilters x).datums = n.datums ∧ (n.setFilters x).exh = n.exh ∧ (n.setFilters x).fbc = n.fbc ∧
    (n.setFilters x).pta = n.pta ∧ (n.setFilters x).cmu = n.cmu ∧ (n.setFilters x).seq = n.seq ∧
    (n.setFilters x).hlt = n.hlt ∧ (n.setFilters x).evl = n.evl ∧ (n.setFilters x).hlm = n.hlm := by
  refine ⟨?_, ?_, ?_, ?_, ?_, ?_, ?_, ?_, ?_, ?_, ?_, ?_, ?_, ?_, ?_⟩ <;> rfl

@[simp] theorem setClk_fields (n : Node) (x : Clock) :
    (n.setClk x).pins = n.pins ∧ (n.setClk x).filters = n.filters ∧ (n.setClk x).clk = x ∧
    (n.setClk x).sul = n.sul ∧ (n.setClk x).lc = n.lc ∧ (n.setClk x).tsg = n.tsg ∧
    (n.setClk x).datums = n.datums ∧ (n.setClk x).exh = n.exh ∧ (n.setClk x).fbc = n.fbc ∧
    (n.setClk x).pta = n.pta ∧ (n.setClk x).cmu = n.cmu ∧ (n.setClk x).seq = n.seq ∧
    (n.setClk x).hlt = n.hlt ∧ (n.setClk x).evl = n.evl ∧ (n.setClk x).hlm = n.hlm := by
  refine ⟨?_, ?_, ?_, ?_, ?_, ?_, ?_, ?_, ?_, ?_, ?_, ?_, ?_, ?_, ?_⟩ <;> rfl

@[simp] theorem setSul_fields (n : Node) (x : Sul) :
    (n.setSul x).pins = n.pins ∧ (n.setSul x).filters = n.filters ∧ (n.setSul x).clk = n.clk ∧
    (n.setSul x).sul = x ∧ (n.setSul x).lc = n.lc ∧ (n.setSul x).tsg = n.tsg ∧
    (n.setSul x).datums = n.datums ∧ (n.setSul x).exh = n.exh ∧ (n.setSul x).fbc = n.fbc ∧
    (n.setSul x).pta = n.pta ∧ (n.setSul x).cmu = n.cmu ∧ (n.setSul x).seq = n.seq ∧
    (n.setSul x).hlt = n.hlt ∧ (n.setSul x).evl = n.evl ∧ (n.setSul x).hlm = n.hlm := by
  refine ⟨?_, ?_, ?_, ?_, ?_, ?_, ?_, ?_, ?_, ?_, ?_, ?_, ?_, ?_, ?_⟩ <;> rfl

@[simp] theorem setLc_fields (n : Node) (x : Lc) :
    (n.setLc x).pins = n.pins ∧ (n.setLc x).filters = n.filters ∧ (n.setLc x).clk = n.clk ∧
    (n.setLc x).sul = n.sul ∧ (n.setLc x).lc = x ∧ (n.setLc x).tsg = n.tsg ∧
    (n.setLc x).datums = n.datums ∧ (n.setLc x).exh = n.exh ∧ (n.setLc x).fbc = n.fbc ∧
    (n.setLc x).pta = n.pta ∧ (n.setLc x).cmu = n.cmu ∧ (n.setLc x).seq = n.seq ∧
    (n.setLc x).hlt = n.hlt ∧ (n.setLc x).evl = n.evl ∧ (n.setLc x).hlm = n.hlm := by
  refine ⟨?_, ?_, ?_, ?_, ?_, ?_, ?_, ?_, ?_, ?_, ?_, ?_, ?_, ?_, ?_⟩ <;> rfl

@[simp] theorem setTsg_fields (n : Node) (x : Tsg) :
    (n.setTsg x).pins = n.pins ∧ (n.setTsg x).filters = n.filters ∧ (n.setTsg x).clk = n.clk ∧
    (n.setTsg x).sul = n.sul ∧ (n.setTsg x).lc = n.lc ∧ (n.setTsg x).tsg = x ∧
    (n.setTsg x).datums = n.datums ∧ (n.setTsg x).exh = n.exh ∧ (n.setTsg x).fbc = n.fbc ∧
    (n.setTsg x).pta = n.pta ∧ (n.setTsg x).cmu = n.cmu ∧ (n.setTsg x).seq = n.seq ∧
    (n.setTsg x).hlt = n.hlt ∧ (n.setTsg x).evl = n.evl ∧ (n.setTsg x).hlm = n.hlm := by
  refine ⟨?_, ?_, ?_, ?_, ?_, ?_, ?_, ?_, ?_, ?_, ?_, ?_, ?_, ?_, ?_⟩ <;> rfl

@[simp] theorem setDatums_fields (n : Node) (x : Datums) :
    (n.setDatums x).pins = n.pins ∧ (n.setDatums x).filters = n.filters ∧ (n.setDatums x).clk = n.clk ∧
    (n.setDatums x).sul = n.sul ∧ (n.setDatums x).lc = n.lc ∧ (n.setDatums x).tsg = n.tsg ∧
    (n.setDatums x).datums = x ∧ (n.setDatums x).exh = n.exh ∧ (n.setDatums x).fbc = n.fbc ∧
    (n.setDatums x).pta = n.pta ∧ (n.setDatums x).cmu = n.cmu ∧ (n.setDatums x).seq = n.seq ∧
    (n.setDatums x).hlt = n.hlt ∧ (n.setDatums x).evl = n.evl ∧ (n.setDatums x).hlm = n.hlm := by
  refine ⟨?_, ?_, ?_, ?_, ?_, ?_, ?_, ?_, ?_, ?_, ?_, ?_, ?_, ?_, ?_⟩ <;> rfl

@[simp] theorem setExh_fields (n : Node) (x : Exh) :
    (n.setExh x).pins = n.pins ∧ (n.setExh x).filters = n.filters ∧ (n.setExh x).clk = n.clk ∧
    (n.setExh x).sul = n.sul ∧ (n.setExh x).lc = n.lc ∧ (n.setExh x).tsg = n.tsg ∧
    (n.setExh x).datums = n.datums ∧ (n.setExh x).exh = x ∧ (n.setExh x).fbc = n.fbc ∧
    (n.setExh x).pta = n.pta ∧ (n.setExh x).cmu = n.cmu ∧ (n.setExh x).seq = n.seq ∧
    (n.setExh x).hlt = n.hlt ∧ (n.setExh x).evl = n.evl ∧ (n.setExh x).hlm = n.hlm := by
  refine ⟨?_, ?_, ?_, ?_, ?_, ?_, ?_, ?_, ?_, ?_, ?_, ?_, ?_, ?_, ?_⟩ <;> rfl

@[simp] theorem setFbc_fields (n : Node) (x : Fbc) :
    (n.setFbc x).pins = n.pins ∧ (n.setFbc x).filters = n.filters ∧ (n.setFbc x).clk = n.clk ∧
    (n.setFbc x).sul = n.sul ∧ (n.setFbc x).lc = n.lc ∧ (n.setFbc x).tsg = n.tsg ∧
    (n.setFbc x).datums = n.datums ∧ (n.setFbc x).exh = n.exh ∧ (n.setFbc x).fbc = x ∧
    (n.setFbc x).pta = n.pta ∧ (n.setFbc x).cmu = n.cmu ∧ (n.setFbc x).seq = n.seq ∧
    (n.setFbc x).hlt = n.hlt ∧ (n.setFbc x).evl = n.evl ∧ (n.setFbc x).hlm = n.hlm := by
  refine ⟨?_, ?_, ?_, ?_, ?_, ?_, ?_, ?_, ?_, ?_, ?_, ?_, ?_, ?_, ?_⟩ <;> rfl

@[simp] theorem setPta_fields (n : Node) (x : Pta) :
    (n.setPta x).pins = n.pins ∧ (n.setPta x).filters = n.filters ∧ (n.setPta x).clk = n.clk ∧
    (n.setPta x).sul = n.sul ∧ (n.setPta x).lc = n.lc ∧ (n.setPta x).tsg = n.tsg ∧
    (n.setPta x).datums = n.datums ∧ (n.setPta x).exh = n.exh ∧ (n.setPta x).fbc = n.fbc ∧
    (n.setPta x).pta = x ∧ (n.setPta x).cmu = n.cmu ∧ (n.setPta x).seq = n.seq ∧
    (n.setPta x).hlt = n.hlt ∧ (n.setPta x).evl = n.evl ∧ (n.setPta x).hlm = n.hlm := by
  refine ⟨?_, ?_, ?_, ?_, ?_, ?_, ?_, ?_, ?_, ?_, ?_, ?_, ?_, ?_, ?_⟩ <;> rfl

@[simp] theorem setCmu_fields (n : Node) (x : Cmu) :
    (n.setCmu x).pins = n.pins ∧ (n.setCmu x).filters = n.filters ∧ (n.setCmu x).clk = n.clk ∧
    (n.setCmu x).sul = n.sul ∧ (n.setCmu x).lc = n.lc ∧ (n.setCmu x).tsg = n.tsg ∧
    (n.setCmu x).datums = n.datums ∧ (n.setCmu x).exh = n.exh ∧ (n.setCmu x).fbc = n.fbc ∧
    (n.setCmu x).pta = n.pta ∧ (n.setCmu x).cmu = x ∧ (n.setCmu x).seq = n.seq ∧
    (n.setCmu x).hlt = n.hlt ∧ (n.setCmu x).evl = n.evl ∧ (n.setCmu x).hlm = n.hlm := by
  refine ⟨?_, ?_, ?_, ?_, ?_, ?_, ?_, ?_, ?_, ?_, ?_, ?_, ?_, ?_, ?_⟩ <;> rfl

@[simp] theorem setSeq_fields (n : Node) (x : Seq) :
    (n.setSeq x).pins = n.pins ∧ (n.setSeq x).filters = n.filters ∧ (n.setSeq x).clk = n.clk ∧
    (n.setSeq x).sul = n.sul ∧ (n.setSeq x).lc = n.lc ∧ (n.setSeq x).tsg = n.tsg ∧
    (n.setSeq x).datums = n.datums ∧ (n.setSeq x).exh = n.exh ∧ (n.setSeq x).fbc = n.fbc ∧
    (n.setSeq x).pta = n.pta ∧ (n.setSeq x).cmu = n.cmu ∧ (n.setSeq x).seq = x ∧
    (n.setSeq x).hlt = n.hlt ∧ (n.setSeq x).evl = n.evl ∧ (n.setSeq x).hlm = n.hlm := by
  refine ⟨?_, ?_, ?_, ?_, ?_, ?_, ?_, ?_, ?_, ?_, ?_, ?_, ?_, ?_, ?_⟩ <;> rfl

@[simp] theorem setHlt_fields (n : Node) (x : Hlt) :
    (n.setHlt x).pins = n.pins ∧ (n.setHlt x).filters = n.filters ∧ (n.setHlt x).clk = n.clk ∧
    (n.setHlt x).sul = n.sul ∧ (n.setHlt x).lc = n.lc ∧ (n.setHlt x).tsg = n.tsg ∧
    (n.setHlt x).datums = n.datums ∧ (n.setHlt x).exh = n.exh ∧ (n.setHlt x).fbc = n.fbc ∧
    (n.setHlt x).pta = n.pta ∧ (n.setHlt x).cmu = n.cmu ∧ (n.setHlt x).seq = n.seq ∧
    (n.setHlt x).hlt = x ∧ (n.setHlt x).evl = n.evl ∧ (n.setHlt x).hlm = n.hlm := by
  refine ⟨?_, ?_, ?_, ?_, ?_, ?_, ?_, ?_, ?_, ?_, ?_, ?_, ?_, ?_, ?_⟩ <;> rfl

@[simp] theorem setEvl_fields (n : Node) (x : Evl) :
    (n.setEvl x).pins = n.pins ∧ (n.setEvl x).filters = n.filters ∧ (n.setEvl x).clk = n.clk ∧
    (n.setEvl x).sul = n.sul ∧ (n.setEvl x).lc = n.lc ∧ (n.setEvl x).tsg = n.tsg ∧
    (n.setEvl x).datums = n.datums ∧ (n.setEvl x).exh = n.exh ∧ (n.setEvl x).fbc = n.fbc ∧
    (n.setEvl x).pta = n.pta ∧ (n.setEvl x).cmu = n.cmu ∧ (n.setEvl x).seq = n.seq ∧
    (n.setEvl x).hlt = n.hlt ∧ (n.setEvl x).evl = x ∧ (n.setEvl x).hlm = n.hlm := by
  refine ⟨?_, ?_, ?_, ?_, ?_, ?_, ?_, ?_, ?_, ?_, ?_, ?_, ?_, ?_, ?_⟩ <;> rfl

@[simp] theorem setHlm_fields (n : Node) (x : Hlm) :
    (n.setHlm x).pins = n.pins ∧ (n.setHlm x).filters = n.filters ∧ (n.setHlm x).clk = n.clk ∧
    (n.setHlm x).sul = n.sul ∧ (n.setHlm x).lc = n.lc ∧ (n.setHlm x).tsg = n.tsg ∧
    (n.setHlm x).datums = n.datums ∧ (n.setHlm x).exh = n.exh ∧ (n.setHlm x).fbc = n.fbc ∧
    (n.setHlm x).pta = n.pta ∧ (n.setHlm x).cmu = n.cmu ∧ (n.setHlm x).seq = n.seq ∧
    (n.setHlm x).hlt = n.hlt ∧ (n.setHlm x).evl = n.evl ∧ (n.setHlm x).hlm = x := by
  refine ⟨?_, ?_, ?_, ?_, ?_, ?_, ?_, ?_, ?_, ?_, ?_, ?_, ?_, ?_, ?_⟩ <;> rfl

/-- Two nodes whose blocks are the same are the same node. -/
@[ext] theorem node_ext (n m : Node) (pins : n.pins = m.pins) (filters : n.filters = m.filters)
    (clk : n.clk = m.clk) (sul : n.sul = m.sul) (lc : n.lc = m.lc) (tsg : n.tsg = m.tsg)
    (datums : n.datums = m.datums) (exh : n.exh = m.exh) (fbc : n.fbc = m.fbc) (pta : n.pta = m.pta)
    (cmu : n.cmu = m.cmu) (seq : n.seq = m.seq) (hlt : n.hlt = m.hlt) (evl : n.evl = m.evl)
    (hlm : n.hlm = m.hlm) : n = m := by
  cases n; cases m; simp_all

/-- A command that runs answers the node it leaves, with the queue as it stands. -/
theorem ran_eq (s : State) (n : Node) : s.ran n = .next { s with node := n } := rfl

end Sys2Proof.Laws
end

