-- ==== Sys2Proof/Laws/Frames.lean ====
section
/-! SUPPORT. The frame of every operation on the node: the blocks it leaves as they were. One lemma for
each operation, tagged for simp, so that no later proof unfolds an operation to see what it cannot touch. -/
namespace Sys2Proof.Laws
open Sys2Proof Sys2Proof.Machine
-- One theorem at a time: the memory that many threads take together is bounded where this is checked.
set_option Elab.async false

/-! ### Health -/

@[simp] theorem health_frame (n : Node) (a : HealthId) (x : Int) :
    (n.health a x).pins = n.pins ∧ (n.health a x).filters = n.filters ∧ (n.health a x).clk = n.clk ∧
    (n.health a x).sul = n.sul ∧ (n.health a x).lc = n.lc ∧ (n.health a x).tsg = n.tsg ∧
    (n.health a x).datums = n.datums ∧ (n.health a x).exh = n.exh ∧ (n.health a x).fbc = n.fbc ∧
    (n.health a x).pta = n.pta ∧ (n.health a x).cmu = n.cmu ∧ (n.health a x).seq = n.seq ∧
    (n.health a x).hlt = n.hlt ∧ (n.health a x).evl = n.evl := by
  unfold Node.health
  repeat' split
  all_goals simp

/-! ### Bus -/

@[simp] theorem sendHalt_frame (n : Node) (cause : HaltCause) :
    (n.sendHalt cause).pins = n.pins ∧ (n.sendHalt cause).filters = n.filters ∧
    (n.sendHalt cause).clk = n.clk ∧ (n.sendHalt cause).sul = n.sul ∧ (n.sendHalt cause).lc = n.lc ∧
    (n.sendHalt cause).tsg = n.tsg ∧ (n.sendHalt cause).datums = n.datums ∧
    (n.sendHalt cause).exh = n.exh ∧ (n.sendHalt cause).pta = n.pta ∧ (n.sendHalt cause).cmu = n.cmu ∧
    (n.sendHalt cause).seq = n.seq ∧ (n.sendHalt cause).hlt = n.hlt ∧ (n.sendHalt cause).evl = n.evl ∧
    (n.sendHalt cause).hlm = n.hlm := by
  unfold Node.sendHalt
  repeat' split
  all_goals simp

@[simp] theorem sendBreak_frame (n : Node) (testId : Nat) :
    (n.sendBreak testId).pins = n.pins ∧ (n.sendBreak testId).filters = n.filters ∧
    (n.sendBreak testId).clk = n.clk ∧ (n.sendBreak testId).sul = n.sul ∧
    (n.sendBreak testId).lc = n.lc ∧ (n.sendBreak testId).tsg = n.tsg ∧
    (n.sendBreak testId).datums = n.datums ∧ (n.sendBreak testId).exh = n.exh ∧
    (n.sendBreak testId).pta = n.pta ∧ (n.sendBreak testId).cmu = n.cmu ∧
    (n.sendBreak testId).seq = n.seq ∧ (n.sendBreak testId).hlt = n.hlt ∧
    (n.sendBreak testId).evl = n.evl ∧ (n.sendBreak testId).hlm = n.hlm := by
  unfold Node.sendBreak
  repeat' split
  all_goals simp

@[simp] theorem sendMark_frame (n : Node) (index : Fin 32) (testId : Nat) (close : Time) :
    (n.sendMark index testId close).pins = n.pins ∧
    (n.sendMark index testId close).filters = n.filters ∧ (n.sendMark index testId close).clk = n.clk ∧
    (n.sendMark index testId close).sul = n.sul ∧ (n.sendMark index testId close).lc = n.lc ∧
    (n.sendMark index testId close).tsg = n.tsg ∧ (n.sendMark index testId close).datums = n.datums ∧
    (n.sendMark index testId close).exh = n.exh ∧ (n.sendMark index testId close).pta = n.pta ∧
    (n.sendMark index testId close).cmu = n.cmu ∧ (n.sendMark index testId close).seq = n.seq ∧
    (n.sendMark index testId close).hlt = n.hlt ∧ (n.sendMark index testId close).evl = n.evl ∧
    (n.sendMark index testId close).hlm = n.hlm := by
  unfold Node.sendMark
  repeat' split
  all_goals simp

@[simp] theorem sendSample_frame (n : Node) (ch : Channel) (payload : List Byte) :
    (n.sendSample ch payload).pins = n.pins ∧ (n.sendSample ch payload).filters = n.filters ∧
    (n.sendSample ch payload).clk = n.clk ∧ (n.sendSample ch payload).sul = n.sul ∧
    (n.sendSample ch payload).lc = n.lc ∧ (n.sendSample ch payload).tsg = n.tsg ∧
    (n.sendSample ch payload).datums = n.datums ∧ (n.sendSample ch payload).exh = n.exh ∧
    (n.sendSample ch payload).pta = n.pta ∧ (n.sendSample ch payload).cmu = n.cmu ∧
    (n.sendSample ch payload).seq = n.seq ∧ (n.sendSample ch payload).hlt = n.hlt ∧
    (n.sendSample ch payload).evl = n.evl ∧ (n.sendSample ch payload).hlm = n.hlm := by
  unfold Node.sendSample
  repeat' split
  all_goals simp

@[simp] theorem notice_frame (n : Node) :
    (n.notice).pins = n.pins ∧ (n.notice).filters = n.filters ∧ (n.notice).clk = n.clk ∧
    (n.notice).sul = n.sul ∧ (n.notice).lc = n.lc ∧ (n.notice).tsg = n.tsg ∧
    (n.notice).datums = n.datums ∧ (n.notice).exh = n.exh ∧ (n.notice).pta = n.pta ∧
    (n.notice).cmu = n.cmu ∧ (n.notice).seq = n.seq ∧ (n.notice).hlt = n.hlt ∧ (n.notice).evl = n.evl ∧
    (n.notice).hlm = n.hlm := by
  unfold Node.notice
  repeat' split
  all_goals simp

@[simp] theorem sendResult_frame (n : Node) (parts : List (List Byte)) :
    (n.sendResult parts).pins = n.pins ∧ (n.sendResult parts).filters = n.filters ∧
    (n.sendResult parts).clk = n.clk ∧ (n.sendResult parts).sul = n.sul ∧
    (n.sendResult parts).lc = n.lc ∧ (n.sendResult parts).tsg = n.tsg ∧
    (n.sendResult parts).datums = n.datums ∧ (n.sendResult parts).exh = n.exh ∧
    (n.sendResult parts).pta = n.pta ∧ (n.sendResult parts).cmu = n.cmu ∧
    (n.sendResult parts).seq = n.seq ∧ (n.sendResult parts).hlt = n.hlt ∧
    (n.sendResult parts).evl = n.evl ∧ (n.sendResult parts).hlm = n.hlm := by
  unfold Node.sendResult
  repeat' split
  all_goals simp

@[simp] theorem sendReply_frame (n : Node) (target : Fin 16) (payload : List Byte) :
    (n.sendReply target payload).pins = n.pins ∧ (n.sendReply target payload).filters = n.filters ∧
    (n.sendReply target payload).clk = n.clk ∧ (n.sendReply target payload).sul = n.sul ∧
    (n.sendReply target payload).lc = n.lc ∧ (n.sendReply target payload).tsg = n.tsg ∧
    (n.sendReply target payload).datums = n.datums ∧ (n.sendReply target payload).exh = n.exh ∧
    (n.sendReply target payload).pta = n.pta ∧ (n.sendReply target payload).cmu = n.cmu ∧
    (n.sendReply target payload).seq = n.seq ∧ (n.sendReply target payload).hlt = n.hlt ∧
    (n.sendReply target payload).evl = n.evl ∧ (n.sendReply target payload).hlm = n.hlm := by
  unfold Node.sendReply
  repeat' split
  all_goals simp

@[simp] theorem sendPresence_frame (n : Node) :
    (n.sendPresence).pins = n.pins ∧ (n.sendPresence).filters = n.filters ∧
    (n.sendPresence).clk = n.clk ∧ (n.sendPresence).sul = n.sul ∧ (n.sendPresence).lc = n.lc ∧
    (n.sendPresence).tsg = n.tsg ∧ (n.sendPresence).datums = n.datums ∧ (n.sendPresence).exh = n.exh ∧
    (n.sendPresence).pta = n.pta ∧ (n.sendPresence).cmu = n.cmu ∧ (n.sendPresence).seq = n.seq ∧
    (n.sendPresence).hlt = n.hlt ∧ (n.sendPresence).evl = n.evl ∧ (n.sendPresence).hlm = n.hlm := by
  unfold Node.sendPresence
  repeat' split
  all_goals simp

@[simp] theorem startAttempt_frame (n : Node) (h : Holder) (f : TxFrame) :
    (n.startAttempt h f).pins = n.pins ∧ (n.startAttempt h f).filters = n.filters ∧
    (n.startAttempt h f).clk = n.clk ∧ (n.startAttempt h f).sul = n.sul ∧
    (n.startAttempt h f).lc = n.lc ∧ (n.startAttempt h f).tsg = n.tsg ∧
    (n.startAttempt h f).datums = n.datums ∧ (n.startAttempt h f).exh = n.exh ∧
    (n.startAttempt h f).pta = n.pta ∧ (n.startAttempt h f).cmu = n.cmu ∧
    (n.startAttempt h f).seq = n.seq ∧ (n.startAttempt h f).hlt = n.hlt ∧
    (n.startAttempt h f).evl = n.evl ∧ (n.startAttempt h f).hlm = n.hlm := by
  unfold Node.startAttempt
  repeat' split
  all_goals simp

@[simp] theorem attemptFailed_frame (n : Node) (o : OnLine) (framing : Bool) :
    (n.attemptFailed o framing).pins = n.pins ∧ (n.attemptFailed o framing).filters = n.filters ∧
    (n.attemptFailed o framing).clk = n.clk ∧ (n.attemptFailed o framing).sul = n.sul ∧ (n.attemptFailed o framing).lc = n.lc ∧
    (n.attemptFailed o framing).tsg = n.tsg ∧ (n.attemptFailed o framing).datums = n.datums ∧
    (n.attemptFailed o framing).exh = n.exh ∧ (n.attemptFailed o framing).pta = n.pta ∧
    (n.attemptFailed o framing).cmu = n.cmu ∧ (n.attemptFailed o framing).seq = n.seq ∧
    (n.attemptFailed o framing).hlt = n.hlt ∧ (n.attemptFailed o framing).evl = n.evl := by
  simp only [Node.attemptFailed]
  repeat' split
  all_goals simp

/-! ### Peers -/

@[simp] theorem setPeer_frame (n : Node) (i : Fin 16) (p : Peer) :
    (n.setPeer i p).pins = n.pins ∧ (n.setPeer i p).filters = n.filters ∧ (n.setPeer i p).clk = n.clk ∧
    (n.setPeer i p).sul = n.sul ∧ (n.setPeer i p).lc = n.lc ∧ (n.setPeer i p).tsg = n.tsg ∧
    (n.setPeer i p).datums = n.datums ∧ (n.setPeer i p).exh = n.exh ∧ (n.setPeer i p).fbc = n.fbc ∧
    (n.setPeer i p).cmu = n.cmu ∧ (n.setPeer i p).seq = n.seq ∧ (n.setPeer i p).hlt = n.hlt ∧
    (n.setPeer i p).evl = n.evl ∧ (n.setPeer i p).hlm = n.hlm := by
  unfold Node.setPeer
  repeat' split
  all_goals simp

@[simp] theorem setSub_frame (n : Node) (i : Fin 4) (x : Sub) :
    (n.setSub i x).pins = n.pins ∧ (n.setSub i x).filters = n.filters ∧ (n.setSub i x).clk = n.clk ∧
    (n.setSub i x).sul = n.sul ∧ (n.setSub i x).lc = n.lc ∧ (n.setSub i x).tsg = n.tsg ∧
    (n.setSub i x).datums = n.datums ∧ (n.setSub i x).exh = n.exh ∧ (n.setSub i x).fbc = n.fbc ∧
    (n.setSub i x).cmu = n.cmu ∧ (n.setSub i x).seq = n.seq ∧ (n.setSub i x).hlt = n.hlt ∧
    (n.setSub i x).evl = n.evl ∧ (n.setSub i x).hlm = n.hlm := by
  unfold Node.setSub
  repeat' split
  all_goals simp

@[simp] theorem mapSubsOf_frame (n : Node) (peer : Fin 16) (f : Sub → Sub) :
    (n.mapSubsOf peer f).pins = n.pins ∧ (n.mapSubsOf peer f).filters = n.filters ∧
    (n.mapSubsOf peer f).clk = n.clk ∧ (n.mapSubsOf peer f).sul = n.sul ∧
    (n.mapSubsOf peer f).lc = n.lc ∧ (n.mapSubsOf peer f).tsg = n.tsg ∧
    (n.mapSubsOf peer f).datums = n.datums ∧ (n.mapSubsOf peer f).exh = n.exh ∧
    (n.mapSubsOf peer f).fbc = n.fbc ∧ (n.mapSubsOf peer f).cmu = n.cmu ∧
    (n.mapSubsOf peer f).seq = n.seq ∧ (n.mapSubsOf peer f).hlt = n.hlt ∧
    (n.mapSubsOf peer f).evl = n.evl ∧ (n.mapSubsOf peer f).hlm = n.hlm := by
  unfold Node.mapSubsOf
  repeat' split
  all_goals simp

@[simp] theorem emptyHistsOf_frame (n : Node) (peer : Fin 16) :
    (n.emptyHistsOf peer).pins = n.pins ∧ (n.emptyHistsOf peer).filters = n.filters ∧
    (n.emptyHistsOf peer).clk = n.clk ∧ (n.emptyHistsOf peer).sul = n.sul ∧
    (n.emptyHistsOf peer).lc = n.lc ∧ (n.emptyHistsOf peer).tsg = n.tsg ∧
    (n.emptyHistsOf peer).datums = n.datums ∧ (n.emptyHistsOf peer).exh = n.exh ∧
    (n.emptyHistsOf peer).fbc = n.fbc ∧ (n.emptyHistsOf peer).cmu = n.cmu ∧
    (n.emptyHistsOf peer).seq = n.seq ∧ (n.emptyHistsOf peer).hlt = n.hlt ∧
    (n.emptyHistsOf peer).evl = n.evl ∧ (n.emptyHistsOf peer).hlm = n.hlm := by
  unfold Node.emptyHistsOf
  repeat' split
  all_goals simp

@[simp] theorem takeFacts_frame (n : Node) (f : HeaderFacts) :
    (n.takeFacts f).pins = n.pins ∧ (n.takeFacts f).filters = n.filters ∧ (n.takeFacts f).clk = n.clk ∧
    (n.takeFacts f).sul = n.sul ∧ (n.takeFacts f).lc = n.lc ∧ (n.takeFacts f).tsg = n.tsg ∧
    (n.takeFacts f).datums = n.datums ∧ (n.takeFacts f).exh = n.exh ∧ (n.takeFacts f).fbc = n.fbc ∧
    (n.takeFacts f).cmu = n.cmu ∧ (n.takeFacts f).seq = n.seq ∧ (n.takeFacts f).hlt = n.hlt ∧
    (n.takeFacts f).evl = n.evl ∧ (n.takeFacts f).hlm = n.hlm := by
  simp only [Node.takeFacts]
  repeat' split
  all_goals simp

@[simp] theorem takePresence_frame (n : Node) (f : RxFrame) :
    (n.takePresence f).pins = n.pins ∧ (n.takePresence f).filters = n.filters ∧
    (n.takePresence f).clk = n.clk ∧ (n.takePresence f).sul = n.sul ∧ (n.takePresence f).lc = n.lc ∧
    (n.takePresence f).tsg = n.tsg ∧ (n.takePresence f).datums = n.datums ∧
    (n.takePresence f).exh = n.exh ∧ (n.takePresence f).fbc = n.fbc ∧ (n.takePresence f).cmu = n.cmu ∧
    (n.takePresence f).seq = n.seq ∧ (n.takePresence f).hlt = n.hlt ∧ (n.takePresence f).evl = n.evl ∧
    (n.takePresence f).hlm = n.hlm := by
  unfold Node.takePresence
  repeat' split
  all_goals simp

@[simp] theorem takeState_frame (n : Node) (f : RxFrame) :
    (n.takeState f).pins = n.pins ∧ (n.takeState f).filters = n.filters ∧ (n.takeState f).clk = n.clk ∧
    (n.takeState f).sul = n.sul ∧ (n.takeState f).lc = n.lc ∧ (n.takeState f).tsg = n.tsg ∧
    (n.takeState f).datums = n.datums ∧ (n.takeState f).exh = n.exh ∧ (n.takeState f).fbc = n.fbc ∧
    (n.takeState f).cmu = n.cmu ∧ (n.takeState f).seq = n.seq ∧ (n.takeState f).hlt = n.hlt ∧
    (n.takeState f).evl = n.evl ∧ (n.takeState f).hlm = n.hlm := by
  unfold Node.takeState
  repeat' split
  all_goals simp

@[simp] theorem enterSample_frame (n : Node) (i : Fin 4) (e : HistEntry) :
    (n.enterSample i e).pins = n.pins ∧ (n.enterSample i e).filters = n.filters ∧
    (n.enterSample i e).clk = n.clk ∧ (n.enterSample i e).sul = n.sul ∧ (n.enterSample i e).lc = n.lc ∧
    (n.enterSample i e).tsg = n.tsg ∧ (n.enterSample i e).datums = n.datums ∧
    (n.enterSample i e).exh = n.exh ∧ (n.enterSample i e).fbc = n.fbc ∧
    (n.enterSample i e).cmu = n.cmu ∧ (n.enterSample i e).seq = n.seq ∧
    (n.enterSample i e).hlt = n.hlt ∧ (n.enterSample i e).evl = n.evl ∧ (n.enterSample i e).hlm = n.hlm := by
  unfold Node.enterSample
  repeat' split
  all_goals simp

@[simp] theorem judgeSample_frame (n : Node) (i : Fin 4) (f : RxFrame) :
    (n.judgeSample i f).1.pins = n.pins ∧ (n.judgeSample i f).1.filters = n.filters ∧
    (n.judgeSample i f).1.clk = n.clk ∧ (n.judgeSample i f).1.sul = n.sul ∧
    (n.judgeSample i f).1.lc = n.lc ∧ (n.judgeSample i f).1.tsg = n.tsg ∧
    (n.judgeSample i f).1.datums = n.datums ∧ (n.judgeSample i f).1.exh = n.exh ∧
    (n.judgeSample i f).1.fbc = n.fbc ∧ (n.judgeSample i f).1.cmu = n.cmu ∧
    (n.judgeSample i f).1.seq = n.seq ∧ (n.judgeSample i f).1.hlt = n.hlt ∧
    (n.judgeSample i f).1.evl = n.evl ∧ (n.judgeSample i f).1.hlm = n.hlm := by
  simp only [Node.judgeSample]
  repeat' split
  all_goals simp

@[simp] theorem reseedExpires_frame (n : Node) (i : Fin 16) :
    (n.reseedExpires i).pins = n.pins ∧ (n.reseedExpires i).filters = n.filters ∧
    (n.reseedExpires i).clk = n.clk ∧ (n.reseedExpires i).sul = n.sul ∧ (n.reseedExpires i).lc = n.lc ∧
    (n.reseedExpires i).tsg = n.tsg ∧ (n.reseedExpires i).datums = n.datums ∧
    (n.reseedExpires i).exh = n.exh ∧ (n.reseedExpires i).fbc = n.fbc ∧
    (n.reseedExpires i).cmu = n.cmu ∧ (n.reseedExpires i).seq = n.seq ∧
    (n.reseedExpires i).hlt = n.hlt ∧ (n.reseedExpires i).evl = n.evl ∧ (n.reseedExpires i).hlm = n.hlm := by
  unfold Node.reseedExpires
  repeat' split
  all_goals simp

@[simp] theorem silenceExpires_frame (n : Node) (i : Fin 16) :
    (n.silenceExpires i).pins = n.pins ∧ (n.silenceExpires i).filters = n.filters ∧
    (n.silenceExpires i).clk = n.clk ∧ (n.silenceExpires i).sul = n.sul ∧
    (n.silenceExpires i).lc = n.lc ∧ (n.silenceExpires i).tsg = n.tsg ∧
    (n.silenceExpires i).datums = n.datums ∧ (n.silenceExpires i).exh = n.exh ∧
    (n.silenceExpires i).fbc = n.fbc ∧ (n.silenceExpires i).cmu = n.cmu ∧
    (n.silenceExpires i).seq = n.seq ∧ (n.silenceExpires i).hlt = n.hlt ∧
    (n.silenceExpires i).evl = n.evl ∧ (n.silenceExpires i).hlm = n.hlm := by
  unfold Node.silenceExpires
  repeat' split
  all_goals simp

@[simp] theorem goesStale_frame (n : Node) (i : Fin 4) :
    (n.goesStale i).pins = n.pins ∧ (n.goesStale i).filters = n.filters ∧ (n.goesStale i).clk = n.clk ∧
    (n.goesStale i).sul = n.sul ∧ (n.goesStale i).lc = n.lc ∧ (n.goesStale i).tsg = n.tsg ∧
    (n.goesStale i).datums = n.datums ∧ (n.goesStale i).exh = n.exh ∧ (n.goesStale i).fbc = n.fbc ∧
    (n.goesStale i).cmu = n.cmu ∧ (n.goesStale i).seq = n.seq ∧ (n.goesStale i).hlt = n.hlt ∧
    (n.goesStale i).evl = n.evl ∧ (n.goesStale i).hlm = n.hlm := by
  unfold Node.goesStale
  repeat' split
  all_goals simp

@[simp] theorem startStaleness_frame (n : Node) :
    (n.startStaleness).pins = n.pins ∧ (n.startStaleness).filters = n.filters ∧
    (n.startStaleness).clk = n.clk ∧ (n.startStaleness).sul = n.sul ∧ (n.startStaleness).lc = n.lc ∧
    (n.startStaleness).tsg = n.tsg ∧ (n.startStaleness).datums = n.datums ∧
    (n.startStaleness).exh = n.exh ∧ (n.startStaleness).fbc = n.fbc ∧ (n.startStaleness).cmu = n.cmu ∧
    (n.startStaleness).seq = n.seq ∧ (n.startStaleness).hlt = n.hlt ∧ (n.startStaleness).evl = n.evl ∧
    (n.startStaleness).hlm = n.hlm := by
  unfold Node.startStaleness
  repeat' split
  all_goals simp

@[simp] theorem ptaFrameReset_frame (n : Node) :
    (n.ptaFrameReset).pins = n.pins ∧ (n.ptaFrameReset).filters = n.filters ∧
    (n.ptaFrameReset).clk = n.clk ∧ (n.ptaFrameReset).sul = n.sul ∧ (n.ptaFrameReset).lc = n.lc ∧
    (n.ptaFrameReset).tsg = n.tsg ∧ (n.ptaFrameReset).datums = n.datums ∧
    (n.ptaFrameReset).exh = n.exh ∧ (n.ptaFrameReset).fbc = n.fbc ∧ (n.ptaFrameReset).cmu = n.cmu ∧
    (n.ptaFrameReset).seq = n.seq ∧ (n.ptaFrameReset).hlt = n.hlt ∧ (n.ptaFrameReset).evl = n.evl ∧
    (n.ptaFrameReset).hlm = n.hlm := by
  unfold Node.ptaFrameReset
  repeat' split
  all_goals simp

/-! ### Travel -/

@[simp] theorem setWanted_frame (n : Node) (v : Int) :
    (n.setWanted v).pins = n.pins ∧ (n.setWanted v).filters = n.filters ∧ (n.setWanted v).clk = n.clk ∧
    (n.setWanted v).sul = n.sul ∧ (n.setWanted v).lc = n.lc ∧ (n.setWanted v).datums = n.datums ∧
    (n.setWanted v).exh = n.exh ∧ (n.setWanted v).fbc = n.fbc ∧ (n.setWanted v).pta = n.pta ∧
    (n.setWanted v).cmu = n.cmu ∧ (n.setWanted v).seq = n.seq ∧ (n.setWanted v).hlt = n.hlt ∧
    (n.setWanted v).evl = n.evl ∧ (n.setWanted v).hlm = n.hlm := by
  unfold Node.setWanted
  repeat' split
  all_goals simp

@[simp] theorem directStop_frame (n : Node) :
    (n.directStop).pins = n.pins ∧ (n.directStop).filters = n.filters ∧ (n.directStop).clk = n.clk ∧
    (n.directStop).sul = n.sul ∧ (n.directStop).lc = n.lc ∧ (n.directStop).datums = n.datums ∧
    (n.directStop).exh = n.exh ∧ (n.directStop).fbc = n.fbc ∧ (n.directStop).pta = n.pta ∧
    (n.directStop).cmu = n.cmu ∧ (n.directStop).seq = n.seq ∧ (n.directStop).hlt = n.hlt ∧
    (n.directStop).evl = n.evl ∧ (n.directStop).hlm = n.hlm := by
  unfold Node.directStop
  repeat' split
  all_goals simp

@[simp] theorem resync_frame (n : Node) :
    (n.resync).pins = n.pins ∧ (n.resync).filters = n.filters ∧ (n.resync).clk = n.clk ∧
    (n.resync).sul = n.sul ∧ (n.resync).lc = n.lc ∧ (n.resync).datums = n.datums ∧
    (n.resync).exh = n.exh ∧ (n.resync).fbc = n.fbc ∧ (n.resync).pta = n.pta ∧ (n.resync).cmu = n.cmu ∧
    (n.resync).seq = n.seq ∧ (n.resync).hlt = n.hlt ∧ (n.resync).evl = n.evl ∧ (n.resync).hlm = n.hlm := by
  unfold Node.resync
  repeat' split
  all_goals simp

@[simp] theorem captureLevel_frame (n : Node) :
    (n.captureLevel).pins = n.pins ∧ (n.captureLevel).filters = n.filters ∧
    (n.captureLevel).clk = n.clk ∧ (n.captureLevel).sul = n.sul ∧ (n.captureLevel).lc = n.lc ∧
    (n.captureLevel).datums = n.datums ∧ (n.captureLevel).exh = n.exh ∧ (n.captureLevel).fbc = n.fbc ∧
    (n.captureLevel).pta = n.pta ∧ (n.captureLevel).cmu = n.cmu ∧ (n.captureLevel).seq = n.seq ∧
    (n.captureLevel).hlt = n.hlt ∧ (n.captureLevel).evl = n.evl ∧ (n.captureLevel).hlm = n.hlm := by
  unfold Node.captureLevel
  repeat' split
  all_goals simp

@[simp] theorem recordDatums_frame (n : Node) :
    (n.recordDatums).pins = n.pins ∧ (n.recordDatums).filters = n.filters ∧
    (n.recordDatums).clk = n.clk ∧ (n.recordDatums).sul = n.sul ∧ (n.recordDatums).lc = n.lc ∧
    (n.recordDatums).tsg = n.tsg ∧ (n.recordDatums).exh = n.exh ∧ (n.recordDatums).fbc = n.fbc ∧
    (n.recordDatums).pta = n.pta ∧ (n.recordDatums).cmu = n.cmu ∧ (n.recordDatums).seq = n.seq ∧
    (n.recordDatums).hlt = n.hlt ∧ (n.recordDatums).evl = n.evl ∧ (n.recordDatums).hlm = n.hlm := by
  unfold Node.recordDatums
  repeat' split
  all_goals simp

@[simp] theorem awaitedDatum_frame (n : Node) (i : Fin 4) (value : Int) :
    (n.awaitedDatum i value).pins = n.pins ∧ (n.awaitedDatum i value).filters = n.filters ∧
    (n.awaitedDatum i value).clk = n.clk ∧ (n.awaitedDatum i value).sul = n.sul ∧
    (n.awaitedDatum i value).lc = n.lc ∧ (n.awaitedDatum i value).tsg = n.tsg ∧
    (n.awaitedDatum i value).exh = n.exh ∧ (n.awaitedDatum i value).fbc = n.fbc ∧
    (n.awaitedDatum i value).pta = n.pta ∧ (n.awaitedDatum i value).cmu = n.cmu ∧
    (n.awaitedDatum i value).seq = n.seq ∧ (n.awaitedDatum i value).hlt = n.hlt ∧
    (n.awaitedDatum i value).evl = n.evl ∧ (n.awaitedDatum i value).hlm = n.hlm := by
  unfold Node.awaitedDatum
  repeat' split
  all_goals simp

@[simp] theorem reportSeg_frame (n : Node) (f : Segment → Segment) :
    (n.reportSeg f).pins = n.pins ∧ (n.reportSeg f).filters = n.filters ∧ (n.reportSeg f).clk = n.clk ∧
    (n.reportSeg f).sul = n.sul ∧ (n.reportSeg f).lc = n.lc ∧ (n.reportSeg f).tsg = n.tsg ∧
    (n.reportSeg f).datums = n.datums ∧ (n.reportSeg f).exh = n.exh ∧ (n.reportSeg f).fbc = n.fbc ∧
    (n.reportSeg f).pta = n.pta ∧ (n.reportSeg f).cmu = n.cmu ∧ (n.reportSeg f).hlt = n.hlt ∧
    (n.reportSeg f).evl = n.evl ∧ (n.reportSeg f).hlm = n.hlm := by
  unfold Node.reportSeg
  repeat' split
  all_goals simp

@[simp] theorem reportFlag_frame (n : Node) (f : Summary → Summary) :
    (n.reportFlag f).pins = n.pins ∧ (n.reportFlag f).filters = n.filters ∧
    (n.reportFlag f).clk = n.clk ∧ (n.reportFlag f).sul = n.sul ∧ (n.reportFlag f).lc = n.lc ∧
    (n.reportFlag f).tsg = n.tsg ∧ (n.reportFlag f).datums = n.datums ∧ (n.reportFlag f).exh = n.exh ∧
    (n.reportFlag f).fbc = n.fbc ∧ (n.reportFlag f).pta = n.pta ∧ (n.reportFlag f).cmu = n.cmu ∧
    (n.reportFlag f).hlt = n.hlt ∧ (n.reportFlag f).evl = n.evl ∧ (n.reportFlag f).hlm = n.hlm := by
  unfold Node.reportFlag
  repeat' split
  all_goals simp

@[simp] theorem reportLock_frame (n : Node) (t : Time) :
    (n.reportLock t).pins = n.pins ∧ (n.reportLock t).filters = n.filters ∧
    (n.reportLock t).clk = n.clk ∧ (n.reportLock t).sul = n.sul ∧ (n.reportLock t).lc = n.lc ∧
    (n.reportLock t).tsg = n.tsg ∧ (n.reportLock t).datums = n.datums ∧ (n.reportLock t).exh = n.exh ∧
    (n.reportLock t).fbc = n.fbc ∧ (n.reportLock t).pta = n.pta ∧ (n.reportLock t).cmu = n.cmu ∧
    (n.reportLock t).hlt = n.hlt ∧ (n.reportLock t).evl = n.evl ∧ (n.reportLock t).hlm = n.hlm := by
  unfold Node.reportLock
  repeat' split
  all_goals simp

/-! ### Control -/

@[simp] theorem putCmu_frame (n : Node) (c : Cmu) :
    (n.putCmu c).pins = n.pins ∧ (n.putCmu c).filters = n.filters ∧ (n.putCmu c).clk = n.clk ∧
    (n.putCmu c).sul = n.sul ∧ (n.putCmu c).lc = n.lc ∧ (n.putCmu c).tsg = n.tsg ∧
    (n.putCmu c).datums = n.datums ∧ (n.putCmu c).exh = n.exh ∧ (n.putCmu c).pta = n.pta ∧
    (n.putCmu c).seq = n.seq ∧ (n.putCmu c).hlt = n.hlt ∧ (n.putCmu c).evl = n.evl ∧
    (n.putCmu c).hlm = n.hlm := by
  unfold Node.putCmu
  repeat' split
  all_goals simp

@[simp] theorem requestHold_frame (n : Node) :
    (n.requestHold).pins = n.pins ∧ (n.requestHold).filters = n.filters ∧ (n.requestHold).clk = n.clk ∧
    (n.requestHold).sul = n.sul ∧ (n.requestHold).lc = n.lc ∧ (n.requestHold).datums = n.datums ∧
    (n.requestHold).exh = n.exh ∧ (n.requestHold).pta = n.pta ∧ (n.requestHold).seq = n.seq ∧
    (n.requestHold).hlt = n.hlt ∧ (n.requestHold).evl = n.evl ∧ (n.requestHold).hlm = n.hlm := by
  unfold Node.requestHold
  repeat' split
  all_goals simp

@[simp] theorem requestCrosshead_frame (n : Node) (v : Int) :
    (n.requestCrosshead v).pins = n.pins ∧ (n.requestCrosshead v).filters = n.filters ∧
    (n.requestCrosshead v).clk = n.clk ∧ (n.requestCrosshead v).sul = n.sul ∧
    (n.requestCrosshead v).lc = n.lc ∧ (n.requestCrosshead v).datums = n.datums ∧
    (n.requestCrosshead v).exh = n.exh ∧ (n.requestCrosshead v).pta = n.pta ∧
    (n.requestCrosshead v).seq = n.seq ∧ (n.requestCrosshead v).hlt = n.hlt ∧
    (n.requestCrosshead v).evl = n.evl ∧ (n.requestCrosshead v).hlm = n.hlm := by
  unfold Node.requestCrosshead
  repeat' split
  all_goals simp

@[simp] theorem fallBack_frame (n : Node) (v : Int) :
    (n.fallBack v).pins = n.pins ∧ (n.fallBack v).filters = n.filters ∧ (n.fallBack v).clk = n.clk ∧
    (n.fallBack v).sul = n.sul ∧ (n.fallBack v).lc = n.lc ∧ (n.fallBack v).datums = n.datums ∧
    (n.fallBack v).exh = n.exh ∧ (n.fallBack v).pta = n.pta ∧ (n.fallBack v).hlt = n.hlt ∧
    (n.fallBack v).evl = n.evl ∧ (n.fallBack v).hlm = n.hlm := by
  unfold Node.fallBack
  repeat' split
  all_goals simp

@[simp] theorem enterClosed_frame (n : Node) (m : Mode) :
    (n.enterClosed m).pins = n.pins ∧ (n.enterClosed m).filters = n.filters ∧
    (n.enterClosed m).clk = n.clk ∧ (n.enterClosed m).sul = n.sul ∧ (n.enterClosed m).lc = n.lc ∧
    (n.enterClosed m).tsg = n.tsg ∧ (n.enterClosed m).datums = n.datums ∧
    (n.enterClosed m).exh = n.exh ∧ (n.enterClosed m).pta = n.pta ∧ (n.enterClosed m).seq = n.seq ∧
    (n.enterClosed m).hlt = n.hlt ∧ (n.enterClosed m).evl = n.evl ∧ (n.enterClosed m).hlm = n.hlm := by
  unfold Node.enterClosed
  repeat' split
  all_goals simp

@[simp] theorem entryStepTo_frame (n : Node) (m : Mode) :
    (n.entryStepTo m).pins = n.pins ∧ (n.entryStepTo m).filters = n.filters ∧
    (n.entryStepTo m).clk = n.clk ∧ (n.entryStepTo m).sul = n.sul ∧ (n.entryStepTo m).lc = n.lc ∧
    (n.entryStepTo m).datums = n.datums ∧ (n.entryStepTo m).exh = n.exh ∧
    (n.entryStepTo m).pta = n.pta ∧ (n.entryStepTo m).seq = n.seq ∧ (n.entryStepTo m).hlt = n.hlt ∧
    (n.entryStepTo m).evl = n.evl ∧ (n.entryStepTo m).hlm = n.hlm := by
  unfold Node.entryStepTo
  repeat' split
  all_goals simp

@[simp] theorem requestClosed_frame (n : Node) (f : SegFields) (advance : Bool) :
    (n.requestClosed f advance).pins = n.pins ∧ (n.requestClosed f advance).filters = n.filters ∧
    (n.requestClosed f advance).clk = n.clk ∧ (n.requestClosed f advance).sul = n.sul ∧
    (n.requestClosed f advance).lc = n.lc ∧ (n.requestClosed f advance).datums = n.datums ∧
    (n.requestClosed f advance).exh = n.exh ∧ (n.requestClosed f advance).pta = n.pta ∧
    (n.requestClosed f advance).hlt = n.hlt ∧ (n.requestClosed f advance).evl = n.evl ∧
    (n.requestClosed f advance).hlm = n.hlm := by
  simp only [Node.requestClosed]
  repeat' split
  all_goals simp

@[simp] theorem requestSegment_frame (n : Node) (f : SegFields) (advance : Bool) :
    (n.requestSegment f advance).pins = n.pins ∧ (n.requestSegment f advance).filters = n.filters ∧
    (n.requestSegment f advance).clk = n.clk ∧ (n.requestSegment f advance).sul = n.sul ∧
    (n.requestSegment f advance).lc = n.lc ∧ (n.requestSegment f advance).datums = n.datums ∧
    (n.requestSegment f advance).exh = n.exh ∧ (n.requestSegment f advance).pta = n.pta ∧
    (n.requestSegment f advance).hlt = n.hlt ∧ (n.requestSegment f advance).evl = n.evl ∧
    (n.requestSegment f advance).hlm = n.hlm := by
  unfold Node.requestSegment
  repeat' split
  all_goals simp

@[simp] theorem cmuOpen_frame (n : Node) (f : SegFields) (advance underPause : Bool) :
    (n.cmuOpen f advance underPause).pins = n.pins ∧
    (n.cmuOpen f advance underPause).filters = n.filters ∧
    (n.cmuOpen f advance underPause).clk = n.clk ∧ (n.cmuOpen f advance underPause).sul = n.sul ∧
    (n.cmuOpen f advance underPause).lc = n.lc ∧ (n.cmuOpen f advance underPause).datums = n.datums ∧
    (n.cmuOpen f advance underPause).exh = n.exh ∧ (n.cmuOpen f advance underPause).pta = n.pta ∧
    (n.cmuOpen f advance underPause).hlt = n.hlt ∧ (n.cmuOpen f advance underPause).evl = n.evl ∧
    (n.cmuOpen f advance underPause).hlm = n.hlm := by
  unfold Node.cmuOpen
  repeat' split
  all_goals simp

@[simp] theorem cmuHold_frame (n : Node) :
    (n.cmuHold).pins = n.pins ∧ (n.cmuHold).filters = n.filters ∧ (n.cmuHold).clk = n.clk ∧
    (n.cmuHold).sul = n.sul ∧ (n.cmuHold).lc = n.lc ∧ (n.cmuHold).datums = n.datums ∧
    (n.cmuHold).exh = n.exh ∧ (n.cmuHold).pta = n.pta ∧ (n.cmuHold).seq = n.seq ∧
    (n.cmuHold).hlt = n.hlt ∧ (n.cmuHold).evl = n.evl ∧ (n.cmuHold).hlm = n.hlm := by
  unfold Node.cmuHold
  repeat' split
  all_goals simp

@[simp] theorem cmuResume_frame (n : Node) (f : SegFields) :
    (n.cmuResume f).pins = n.pins ∧ (n.cmuResume f).filters = n.filters ∧ (n.cmuResume f).clk = n.clk ∧
    (n.cmuResume f).sul = n.sul ∧ (n.cmuResume f).lc = n.lc ∧ (n.cmuResume f).datums = n.datums ∧
    (n.cmuResume f).exh = n.exh ∧ (n.cmuResume f).pta = n.pta ∧ (n.cmuResume f).hlt = n.hlt ∧
    (n.cmuResume f).evl = n.evl ∧ (n.cmuResume f).hlm = n.hlm := by
  unfold Node.cmuResume
  repeat' split
  all_goals simp

@[simp] theorem rampReport_frame (n : Node) :
    (n.rampReport).pins = n.pins ∧ (n.rampReport).filters = n.filters ∧ (n.rampReport).clk = n.clk ∧
    (n.rampReport).sul = n.sul ∧ (n.rampReport).lc = n.lc ∧ (n.rampReport).tsg = n.tsg ∧
    (n.rampReport).datums = n.datums ∧ (n.rampReport).exh = n.exh ∧ (n.rampReport).pta = n.pta ∧
    (n.rampReport).seq = n.seq ∧ (n.rampReport).hlt = n.hlt ∧ (n.rampReport).evl = n.evl ∧
    (n.rampReport).hlm = n.hlm := by
  unfold Node.rampReport
  repeat' split
  all_goals simp

@[simp] theorem handLock_frame (n : Node) (before : Option LockState) :
    (n.handLock before).pins = n.pins ∧ (n.handLock before).filters = n.filters ∧
    (n.handLock before).clk = n.clk ∧ (n.handLock before).sul = n.sul ∧ (n.handLock before).lc = n.lc ∧
    (n.handLock before).tsg = n.tsg ∧ (n.handLock before).datums = n.datums ∧
    (n.handLock before).exh = n.exh ∧ (n.handLock before).fbc = n.fbc ∧
    (n.handLock before).pta = n.pta ∧ (n.handLock before).hlt = n.hlt ∧
    (n.handLock before).evl = n.evl ∧ (n.handLock before).hlm = n.hlm := by
  unfold Node.handLock
  repeat' split
  all_goals simp

@[simp] theorem applyEstimate_frame (n : Node) (m : Mode) (rm : Int) :
    (n.applyEstimate m rm).pins = n.pins ∧ (n.applyEstimate m rm).filters = n.filters ∧
    (n.applyEstimate m rm).clk = n.clk ∧ (n.applyEstimate m rm).sul = n.sul ∧
    (n.applyEstimate m rm).lc = n.lc ∧ (n.applyEstimate m rm).datums = n.datums ∧
    (n.applyEstimate m rm).exh = n.exh ∧ (n.applyEstimate m rm).pta = n.pta ∧
    (n.applyEstimate m rm).hlt = n.hlt ∧ (n.applyEstimate m rm).evl = n.evl ∧
    (n.applyEstimate m rm).hlm = n.hlm := by
  unfold Node.applyEstimate
  repeat' split
  all_goals simp

@[simp] theorem cmuArrival_frame (n : Node) (m : Mode) (e : HistEntry) :
    (n.cmuArrival m e).pins = n.pins ∧ (n.cmuArrival m e).filters = n.filters ∧
    (n.cmuArrival m e).clk = n.clk ∧ (n.cmuArrival m e).sul = n.sul ∧ (n.cmuArrival m e).lc = n.lc ∧
    (n.cmuArrival m e).datums = n.datums ∧ (n.cmuArrival m e).exh = n.exh ∧
    (n.cmuArrival m e).pta = n.pta ∧ (n.cmuArrival m e).hlt = n.hlt ∧ (n.cmuArrival m e).evl = n.evl ∧
    (n.cmuArrival m e).hlm = n.hlm := by
  unfold Node.cmuArrival
  repeat' split
  all_goals simp

@[simp] theorem cmuStale_frame (n : Node) (i : Fin 4) :
    (n.cmuStale i).pins = n.pins ∧ (n.cmuStale i).filters = n.filters ∧ (n.cmuStale i).clk = n.clk ∧
    (n.cmuStale i).sul = n.sul ∧ (n.cmuStale i).lc = n.lc ∧ (n.cmuStale i).datums = n.datums ∧
    (n.cmuStale i).exh = n.exh ∧ (n.cmuStale i).pta = n.pta ∧ (n.cmuStale i).hlt = n.hlt ∧
    (n.cmuStale i).evl = n.evl ∧ (n.cmuStale i).hlm = n.hlm := by
  unfold Node.cmuStale
  repeat' split
  all_goals simp

@[simp] theorem lockTimeout_frame (n : Node) :
    (n.lockTimeout).pins = n.pins ∧ (n.lockTimeout).filters = n.filters ∧ (n.lockTimeout).clk = n.clk ∧
    (n.lockTimeout).sul = n.sul ∧ (n.lockTimeout).lc = n.lc ∧ (n.lockTimeout).tsg = n.tsg ∧
    (n.lockTimeout).datums = n.datums ∧ (n.lockTimeout).exh = n.exh ∧ (n.lockTimeout).fbc = n.fbc ∧
    (n.lockTimeout).pta = n.pta ∧ (n.lockTimeout).hlt = n.hlt ∧ (n.lockTimeout).evl = n.evl ∧
    (n.lockTimeout).hlm = n.hlm := by
  unfold Node.lockTimeout
  repeat' split
  all_goals simp

@[simp] theorem lateLockTimeout_frame (n : Node) :
    (n.lateLockTimeout).pins = n.pins ∧ (n.lateLockTimeout).filters = n.filters ∧
    (n.lateLockTimeout).clk = n.clk ∧ (n.lateLockTimeout).sul = n.sul ∧ (n.lateLockTimeout).lc = n.lc ∧
    (n.lateLockTimeout).tsg = n.tsg ∧ (n.lateLockTimeout).datums = n.datums ∧
    (n.lateLockTimeout).exh = n.exh ∧ (n.lateLockTimeout).fbc = n.fbc ∧
    (n.lateLockTimeout).pta = n.pta ∧ (n.lateLockTimeout).hlt = n.hlt ∧
    (n.lateLockTimeout).evl = n.evl ∧ (n.lateLockTimeout).hlm = n.hlm := by
  simp [Node.lateLockTimeout]

@[simp] theorem cmuFrameReset_frame (n : Node) :
    (n.cmuFrameReset).pins = n.pins ∧ (n.cmuFrameReset).filters = n.filters ∧
    (n.cmuFrameReset).clk = n.clk ∧ (n.cmuFrameReset).sul = n.sul ∧ (n.cmuFrameReset).lc = n.lc ∧
    (n.cmuFrameReset).datums = n.datums ∧ (n.cmuFrameReset).exh = n.exh ∧
    (n.cmuFrameReset).pta = n.pta ∧ (n.cmuFrameReset).seq = n.seq ∧ (n.cmuFrameReset).hlt = n.hlt ∧
    (n.cmuFrameReset).evl = n.evl ∧ (n.cmuFrameReset).hlm = n.hlm := by
  unfold Node.cmuFrameReset
  repeat' split
  all_goals simp

/-! ### Evaluator -/

@[simp] theorem evalStart_frame (n : Node) :
    (n.evalStart).pins = n.pins ∧ (n.evalStart).filters = n.filters ∧ (n.evalStart).clk = n.clk ∧
    (n.evalStart).sul = n.sul ∧ (n.evalStart).lc = n.lc ∧ (n.evalStart).tsg = n.tsg ∧
    (n.evalStart).datums = n.datums ∧ (n.evalStart).exh = n.exh ∧ (n.evalStart).fbc = n.fbc ∧
    (n.evalStart).pta = n.pta ∧ (n.evalStart).cmu = n.cmu ∧ (n.evalStart).seq = n.seq ∧
    (n.evalStart).hlt = n.hlt ∧ (n.evalStart).hlm = n.hlm := by
  unfold Node.evalStart
  repeat' split
  all_goals simp

@[simp] theorem evalFrameReset_frame (n : Node) :
    (n.evalFrameReset).pins = n.pins ∧ (n.evalFrameReset).filters = n.filters ∧
    (n.evalFrameReset).clk = n.clk ∧ (n.evalFrameReset).sul = n.sul ∧ (n.evalFrameReset).lc = n.lc ∧
    (n.evalFrameReset).tsg = n.tsg ∧ (n.evalFrameReset).datums = n.datums ∧
    (n.evalFrameReset).exh = n.exh ∧ (n.evalFrameReset).fbc = n.fbc ∧ (n.evalFrameReset).pta = n.pta ∧
    (n.evalFrameReset).cmu = n.cmu ∧ (n.evalFrameReset).seq = n.seq ∧ (n.evalFrameReset).hlt = n.hlt ∧
    (n.evalFrameReset).hlm = n.hlm := by
  unfold Node.evalFrameReset
  repeat' split
  all_goals simp

@[simp] theorem completeRecord_frame (n : Node) :
    (n.completeRecord).pins = n.pins ∧ (n.completeRecord).filters = n.filters ∧
    (n.completeRecord).clk = n.clk ∧ (n.completeRecord).sul = n.sul ∧ (n.completeRecord).lc = n.lc ∧
    (n.completeRecord).tsg = n.tsg ∧ (n.completeRecord).datums = n.datums ∧
    (n.completeRecord).exh = n.exh ∧ (n.completeRecord).pta = n.pta ∧ (n.completeRecord).cmu = n.cmu ∧
    (n.completeRecord).seq = n.seq ∧ (n.completeRecord).hlt = n.hlt ∧ (n.completeRecord).hlm = n.hlm := by
  unfold Node.completeRecord
  repeat' split
  all_goals simp

@[simp] theorem endDrain_frame (n : Node) :
    (n.endDrain).pins = n.pins ∧ (n.endDrain).filters = n.filters ∧ (n.endDrain).clk = n.clk ∧
    (n.endDrain).sul = n.sul ∧ (n.endDrain).lc = n.lc ∧ (n.endDrain).tsg = n.tsg ∧
    (n.endDrain).datums = n.datums ∧ (n.endDrain).exh = n.exh ∧ (n.endDrain).pta = n.pta ∧
    (n.endDrain).cmu = n.cmu ∧ (n.endDrain).seq = n.seq ∧ (n.endDrain).hlt = n.hlt ∧
    (n.endDrain).hlm = n.hlm := by
  unfold Node.endDrain
  repeat' split
  all_goals simp

@[simp] theorem evalEnding_frame (n : Node) (cause : EndCause) :
    (n.evalEnding cause).pins = n.pins ∧ (n.evalEnding cause).filters = n.filters ∧
    (n.evalEnding cause).clk = n.clk ∧ (n.evalEnding cause).sul = n.sul ∧
    (n.evalEnding cause).lc = n.lc ∧ (n.evalEnding cause).tsg = n.tsg ∧
    (n.evalEnding cause).datums = n.datums ∧ (n.evalEnding cause).exh = n.exh ∧
    (n.evalEnding cause).pta = n.pta ∧ (n.evalEnding cause).cmu = n.cmu ∧
    (n.evalEnding cause).seq = n.seq ∧ (n.evalEnding cause).hlt = n.hlt ∧
    (n.evalEnding cause).hlm = n.hlm := by
  unfold Node.evalEnding
  repeat' split
  all_goals simp

@[simp] theorem drainLimit_frame (n : Node) :
    (n.drainLimit).pins = n.pins ∧ (n.drainLimit).filters = n.filters ∧ (n.drainLimit).clk = n.clk ∧
    (n.drainLimit).sul = n.sul ∧ (n.drainLimit).lc = n.lc ∧ (n.drainLimit).tsg = n.tsg ∧
    (n.drainLimit).datums = n.datums ∧ (n.drainLimit).exh = n.exh ∧ (n.drainLimit).pta = n.pta ∧
    (n.drainLimit).cmu = n.cmu ∧ (n.drainLimit).seq = n.seq ∧ (n.drainLimit).hlt = n.hlt ∧
    (n.drainLimit).hlm = n.hlm := by
  unfold Node.drainLimit
  repeat' split
  all_goals simp

/-! ### Extensometer -/

@[simp] theorem putExh_frame (n : Node) (x : Exh) :
    (n.putExh x).pins = n.pins ∧ (n.putExh x).filters = n.filters ∧ (n.putExh x).clk = n.clk ∧
    (n.putExh x).sul = n.sul ∧ (n.putExh x).lc = n.lc ∧ (n.putExh x).tsg = n.tsg ∧
    (n.putExh x).datums = n.datums ∧ (n.putExh x).pta = n.pta ∧ (n.putExh x).cmu = n.cmu ∧
    (n.putExh x).seq = n.seq ∧ (n.putExh x).hlt = n.hlt ∧ (n.putExh x).evl = n.evl ∧
    (n.putExh x).hlm = n.hlm := by
  unfold Node.putExh
  repeat' split
  all_goals simp

@[simp] theorem keepReading_frame (n : Node) :
    (n.keepReading).pins = n.pins ∧ (n.keepReading).filters = n.filters ∧ (n.keepReading).clk = n.clk ∧
    (n.keepReading).sul = n.sul ∧ (n.keepReading).lc = n.lc ∧ (n.keepReading).tsg = n.tsg ∧
    (n.keepReading).datums = n.datums ∧ (n.keepReading).fbc = n.fbc ∧ (n.keepReading).pta = n.pta ∧
    (n.keepReading).cmu = n.cmu ∧ (n.keepReading).seq = n.seq ∧ (n.keepReading).hlt = n.hlt ∧
    (n.keepReading).evl = n.evl ∧ (n.keepReading).hlm = n.hlm := by
  unfold Node.keepReading
  repeat' split
  all_goals simp

@[simp] theorem slipStage_frame (n : Node) :
    (n.slipStage).pins = n.pins ∧ (n.slipStage).filters = n.filters ∧ (n.slipStage).clk = n.clk ∧
    (n.slipStage).sul = n.sul ∧ (n.slipStage).lc = n.lc ∧ (n.slipStage).tsg = n.tsg ∧
    (n.slipStage).datums = n.datums ∧ (n.slipStage).fbc = n.fbc ∧ (n.slipStage).pta = n.pta ∧
    (n.slipStage).cmu = n.cmu ∧ (n.slipStage).seq = n.seq ∧ (n.slipStage).hlt = n.hlt ∧
    (n.slipStage).evl = n.evl := by
  unfold Node.slipStage
  repeat' split
  all_goals simp

@[simp] theorem handDisagree_frame (n : Node) (r : Reading) (e : StrainEntry) :
    (n.handDisagree r e).pins = n.pins ∧ (n.handDisagree r e).filters = n.filters ∧
    (n.handDisagree r e).clk = n.clk ∧ (n.handDisagree r e).sul = n.sul ∧
    (n.handDisagree r e).lc = n.lc ∧ (n.handDisagree r e).tsg = n.tsg ∧
    (n.handDisagree r e).datums = n.datums ∧ (n.handDisagree r e).exh = n.exh ∧
    (n.handDisagree r e).fbc = n.fbc ∧ (n.handDisagree r e).pta = n.pta ∧
    (n.handDisagree r e).cmu = n.cmu ∧ (n.handDisagree r e).seq = n.seq ∧
    (n.handDisagree r e).hlt = n.hlt ∧ (n.handDisagree r e).evl = n.evl := by
  unfold Node.handDisagree
  repeat' split
  all_goals simp

@[simp] theorem learnStage_frame (n : Node) :
    (n.learnStage).pins = n.pins ∧ (n.learnStage).filters = n.filters ∧ (n.learnStage).clk = n.clk ∧
    (n.learnStage).sul = n.sul ∧ (n.learnStage).lc = n.lc ∧ (n.learnStage).tsg = n.tsg ∧
    (n.learnStage).datums = n.datums ∧ (n.learnStage).fbc = n.fbc ∧ (n.learnStage).pta = n.pta ∧
    (n.learnStage).cmu = n.cmu ∧ (n.learnStage).seq = n.seq ∧ (n.learnStage).hlt = n.hlt ∧
    (n.learnStage).evl = n.evl ∧ (n.learnStage).hlm = n.hlm := by
  unfold Node.learnStage
  repeat' split
  all_goals simp

@[simp] theorem release_frame (n : Node) :
    (n.release).pins = n.pins ∧ (n.release).filters = n.filters ∧ (n.release).clk = n.clk ∧
    (n.release).sul = n.sul ∧ (n.release).lc = n.lc ∧ (n.release).tsg = n.tsg ∧
    (n.release).datums = n.datums ∧ (n.release).pta = n.pta ∧ (n.release).cmu = n.cmu ∧
    (n.release).seq = n.seq ∧ (n.release).hlt = n.hlt ∧ (n.release).evl = n.evl ∧
    (n.release).hlm = n.hlm := by
  unfold Node.release
  repeat' split
  all_goals simp

@[simp] theorem releaseStage_frame (n : Node) (e : HistEntry) :
    (n.releaseStage e).pins = n.pins ∧ (n.releaseStage e).filters = n.filters ∧
    (n.releaseStage e).clk = n.clk ∧ (n.releaseStage e).sul = n.sul ∧ (n.releaseStage e).lc = n.lc ∧
    (n.releaseStage e).tsg = n.tsg ∧ (n.releaseStage e).datums = n.datums ∧
    (n.releaseStage e).pta = n.pta ∧ (n.releaseStage e).cmu = n.cmu ∧ (n.releaseStage e).seq = n.seq ∧
    (n.releaseStage e).hlt = n.hlt ∧ (n.releaseStage e).evl = n.evl ∧ (n.releaseStage e).hlm = n.hlm := by
  unfold Node.releaseStage
  repeat' split
  all_goals simp

@[simp] theorem exhBreak_frame (n : Node) :
    (n.exhBreak).pins = n.pins ∧ (n.exhBreak).filters = n.filters ∧ (n.exhBreak).clk = n.clk ∧
    (n.exhBreak).sul = n.sul ∧ (n.exhBreak).lc = n.lc ∧ (n.exhBreak).tsg = n.tsg ∧
    (n.exhBreak).datums = n.datums ∧ (n.exhBreak).pta = n.pta ∧ (n.exhBreak).cmu = n.cmu ∧
    (n.exhBreak).seq = n.seq ∧ (n.exhBreak).hlt = n.hlt ∧ (n.exhBreak).evl = n.evl ∧
    (n.exhBreak).hlm = n.hlm := by
  unfold Node.exhBreak
  repeat' split
  all_goals simp

@[simp] theorem judgeOpen_frame (n : Node) :
    (n.judgeOpen).pins = n.pins ∧ (n.judgeOpen).filters = n.filters ∧ (n.judgeOpen).clk = n.clk ∧
    (n.judgeOpen).sul = n.sul ∧ (n.judgeOpen).lc = n.lc ∧ (n.judgeOpen).tsg = n.tsg ∧
    (n.judgeOpen).datums = n.datums ∧ (n.judgeOpen).pta = n.pta ∧ (n.judgeOpen).cmu = n.cmu ∧
    (n.judgeOpen).seq = n.seq ∧ (n.judgeOpen).hlt = n.hlt ∧ (n.judgeOpen).evl = n.evl ∧
    (n.judgeOpen).hlm = n.hlm := by
  unfold Node.judgeOpen
  repeat' split
  all_goals simp

@[simp] theorem unplannedOpening_frame (n : Node) :
    (n.unplannedOpening).pins = n.pins ∧ (n.unplannedOpening).filters = n.filters ∧
    (n.unplannedOpening).clk = n.clk ∧ (n.unplannedOpening).sul = n.sul ∧
    (n.unplannedOpening).lc = n.lc ∧ (n.unplannedOpening).tsg = n.tsg ∧
    (n.unplannedOpening).datums = n.datums ∧ (n.unplannedOpening).pta = n.pta ∧
    (n.unplannedOpening).cmu = n.cmu ∧ (n.unplannedOpening).seq = n.seq ∧
    (n.unplannedOpening).hlt = n.hlt ∧ (n.unplannedOpening).evl = n.evl ∧
    (n.unplannedOpening).hlm = n.hlm := by
  unfold Node.unplannedOpening
  repeat' split
  all_goals simp

@[simp] theorem followInputs_frame (n : Node) :
    (n.followInputs).pins = n.pins ∧ (n.followInputs).filters = n.filters ∧
    (n.followInputs).clk = n.clk ∧ (n.followInputs).sul = n.sul ∧ (n.followInputs).lc = n.lc ∧
    (n.followInputs).tsg = n.tsg ∧ (n.followInputs).datums = n.datums ∧ (n.followInputs).pta = n.pta ∧
    (n.followInputs).cmu = n.cmu ∧ (n.followInputs).seq = n.seq ∧ (n.followInputs).hlt = n.hlt ∧
    (n.followInputs).evl = n.evl ∧ (n.followInputs).hlm = n.hlm := by
  unfold Node.followInputs
  repeat' split
  all_goals simp

@[simp] theorem exhRejudge_frame (n : Node) :
    (n.exhRejudge).pins = n.pins ∧ (n.exhRejudge).filters = n.filters ∧ (n.exhRejudge).clk = n.clk ∧
    (n.exhRejudge).sul = n.sul ∧ (n.exhRejudge).lc = n.lc ∧ (n.exhRejudge).tsg = n.tsg ∧
    (n.exhRejudge).datums = n.datums ∧ (n.exhRejudge).pta = n.pta ∧ (n.exhRejudge).cmu = n.cmu ∧
    (n.exhRejudge).seq = n.seq ∧ (n.exhRejudge).hlt = n.hlt ∧ (n.exhRejudge).evl = n.evl ∧
    (n.exhRejudge).hlm = n.hlm := by
  unfold Node.exhRejudge
  repeat' split
  all_goals simp

@[simp] theorem zeroArms_frame (n : Node) :
    (n.zeroArms).pins = n.pins ∧ (n.zeroArms).filters = n.filters ∧ (n.zeroArms).clk = n.clk ∧
    (n.zeroArms).sul = n.sul ∧ (n.zeroArms).lc = n.lc ∧ (n.zeroArms).tsg = n.tsg ∧
    (n.zeroArms).datums = n.datums ∧ (n.zeroArms).fbc = n.fbc ∧ (n.zeroArms).pta = n.pta ∧
    (n.zeroArms).cmu = n.cmu ∧ (n.zeroArms).seq = n.seq ∧ (n.zeroArms).hlt = n.hlt ∧
    (n.zeroArms).evl = n.evl ∧ (n.zeroArms).hlm = n.hlm := by
  unfold Node.zeroArms
  repeat' split
  all_goals simp

@[simp] theorem exhStart_frame (n : Node) :
    (n.exhStart).pins = n.pins ∧ (n.exhStart).filters = n.filters ∧ (n.exhStart).clk = n.clk ∧
    (n.exhStart).sul = n.sul ∧ (n.exhStart).lc = n.lc ∧ (n.exhStart).tsg = n.tsg ∧
    (n.exhStart).datums = n.datums ∧ (n.exhStart).pta = n.pta ∧ (n.exhStart).cmu = n.cmu ∧
    (n.exhStart).seq = n.seq ∧ (n.exhStart).hlt = n.hlt ∧ (n.exhStart).evl = n.evl ∧
    (n.exhStart).hlm = n.hlm := by
  unfold Node.exhStart
  repeat' split
  all_goals simp

@[simp] theorem exhStartFails_frame (n : Node) :
    (n.exhStartFails).pins = n.pins ∧ (n.exhStartFails).filters = n.filters ∧
    (n.exhStartFails).clk = n.clk ∧ (n.exhStartFails).sul = n.sul ∧ (n.exhStartFails).lc = n.lc ∧
    (n.exhStartFails).tsg = n.tsg ∧ (n.exhStartFails).datums = n.datums ∧
    (n.exhStartFails).pta = n.pta ∧ (n.exhStartFails).cmu = n.cmu ∧ (n.exhStartFails).seq = n.seq ∧
    (n.exhStartFails).hlt = n.hlt ∧ (n.exhStartFails).evl = n.evl ∧ (n.exhStartFails).hlm = n.hlm := by
  unfold Node.exhStartFails
  repeat' split
  all_goals simp

@[simp] theorem exhFrameReset_frame (n : Node) :
    (n.exhFrameReset).pins = n.pins ∧ (n.exhFrameReset).filters = n.filters ∧
    (n.exhFrameReset).clk = n.clk ∧ (n.exhFrameReset).sul = n.sul ∧ (n.exhFrameReset).lc = n.lc ∧
    (n.exhFrameReset).tsg = n.tsg ∧ (n.exhFrameReset).datums = n.datums ∧
    (n.exhFrameReset).pta = n.pta ∧ (n.exhFrameReset).cmu = n.cmu ∧ (n.exhFrameReset).seq = n.seq ∧
    (n.exhFrameReset).hlt = n.hlt ∧ (n.exhFrameReset).evl = n.evl ∧ (n.exhFrameReset).hlm = n.hlm := by
  unfold Node.exhFrameReset
  repeat' split
  all_goals simp

@[simp] theorem exhForce_frame (n : Node) (e : HistEntry) :
    (n.exhForce e).pins = n.pins ∧ (n.exhForce e).filters = n.filters ∧ (n.exhForce e).clk = n.clk ∧
    (n.exhForce e).sul = n.sul ∧ (n.exhForce e).lc = n.lc ∧ (n.exhForce e).tsg = n.tsg ∧
    (n.exhForce e).datums = n.datums ∧ (n.exhForce e).fbc = n.fbc ∧ (n.exhForce e).pta = n.pta ∧
    (n.exhForce e).cmu = n.cmu ∧ (n.exhForce e).seq = n.seq ∧ (n.exhForce e).hlt = n.hlt ∧
    (n.exhForce e).evl = n.evl ∧ (n.exhForce e).hlm = n.hlm := by
  unfold Node.exhForce
  repeat' split
  all_goals simp

/-! ### Sequencer -/

@[simp] theorem setTest_frame (n : Node) (t : TestState) :
    (n.setTest t).pins = n.pins ∧ (n.setTest t).filters = n.filters ∧ (n.setTest t).clk = n.clk ∧
    (n.setTest t).sul = n.sul ∧ (n.setTest t).lc = n.lc ∧ (n.setTest t).datums = n.datums ∧
    (n.setTest t).pta = n.pta ∧ (n.setTest t).hlt = n.hlt ∧ (n.setTest t).evl = n.evl ∧
    (n.setTest t).hlm = n.hlm := by
  unfold Node.setTest
  repeat' split
  all_goals simp

@[simp] theorem refuse_frame (n : Node) (c : RefusalCode) :
    (n.refuse c).pins = n.pins ∧ (n.refuse c).filters = n.filters ∧ (n.refuse c).clk = n.clk ∧
    (n.refuse c).sul = n.sul ∧ (n.refuse c).lc = n.lc ∧ (n.refuse c).tsg = n.tsg ∧
    (n.refuse c).datums = n.datums ∧ (n.refuse c).exh = n.exh ∧ (n.refuse c).fbc = n.fbc ∧
    (n.refuse c).pta = n.pta ∧ (n.refuse c).cmu = n.cmu ∧ (n.refuse c).hlt = n.hlt ∧
    (n.refuse c).evl = n.evl ∧ (n.refuse c).hlm = n.hlm := by
  unfold Node.refuse
  repeat' split
  all_goals simp

@[simp] theorem closeOpen_frame (n : Node) (cause : CloseCause) (t : Time) :
    (n.closeOpen cause t).pins = n.pins ∧ (n.closeOpen cause t).filters = n.filters ∧
    (n.closeOpen cause t).clk = n.clk ∧ (n.closeOpen cause t).sul = n.sul ∧
    (n.closeOpen cause t).lc = n.lc ∧ (n.closeOpen cause t).tsg = n.tsg ∧
    (n.closeOpen cause t).datums = n.datums ∧ (n.closeOpen cause t).exh = n.exh ∧
    (n.closeOpen cause t).fbc = n.fbc ∧ (n.closeOpen cause t).pta = n.pta ∧
    (n.closeOpen cause t).cmu = n.cmu ∧ (n.closeOpen cause t).hlt = n.hlt ∧
    (n.closeOpen cause t).evl = n.evl ∧ (n.closeOpen cause t).hlm = n.hlm := by
  unfold Node.closeOpen
  repeat' split
  all_goals simp

@[simp] theorem skipTo_frame (n : Node) (i : Fin 32) :
    (n.skipTo i).pins = n.pins ∧ (n.skipTo i).filters = n.filters ∧ (n.skipTo i).clk = n.clk ∧
    (n.skipTo i).sul = n.sul ∧ (n.skipTo i).lc = n.lc ∧ (n.skipTo i).tsg = n.tsg ∧
    (n.skipTo i).datums = n.datums ∧ (n.skipTo i).exh = n.exh ∧ (n.skipTo i).pta = n.pta ∧
    (n.skipTo i).cmu = n.cmu ∧ (n.skipTo i).hlt = n.hlt ∧ (n.skipTo i).evl = n.evl ∧
    (n.skipTo i).hlm = n.hlm := by
  unfold Node.skipTo
  repeat' split
  all_goals simp

@[simp] theorem enterEnded_frame (n : Node) (cause : EndCause) (close : CloseCause) :
    (n.enterEnded cause close).pins = n.pins ∧ (n.enterEnded cause close).filters = n.filters ∧
    (n.enterEnded cause close).clk = n.clk ∧ (n.enterEnded cause close).sul = n.sul ∧
    (n.enterEnded cause close).lc = n.lc ∧ (n.enterEnded cause close).datums = n.datums ∧
    (n.enterEnded cause close).pta = n.pta ∧ (n.enterEnded cause close).hlt = n.hlt ∧
    (n.enterEnded cause close).hlm = n.hlm := by
  unfold Node.enterEnded
  repeat' split
  all_goals simp

@[simp] theorem enterHalted_frame (n : Node) :
    (n.enterHalted).pins = n.pins ∧ (n.enterHalted).filters = n.filters ∧ (n.enterHalted).clk = n.clk ∧
    (n.enterHalted).sul = n.sul ∧ (n.enterHalted).lc = n.lc ∧ (n.enterHalted).datums = n.datums ∧
    (n.enterHalted).pta = n.pta ∧ (n.enterHalted).hlt = n.hlt ∧ (n.enterHalted).hlm = n.hlm := by
  unfold Node.enterHalted
  repeat' split
  all_goals simp

@[simp] theorem openAt_frame (n : Node) (i : Fin 32) (starved advance : Bool) :
    (n.openAt i starved advance).pins = n.pins ∧ (n.openAt i starved advance).filters = n.filters ∧
    (n.openAt i starved advance).clk = n.clk ∧ (n.openAt i starved advance).sul = n.sul ∧
    (n.openAt i starved advance).lc = n.lc ∧ (n.openAt i starved advance).datums = n.datums ∧
    (n.openAt i starved advance).exh = n.exh ∧ (n.openAt i starved advance).pta = n.pta ∧
    (n.openAt i starved advance).hlt = n.hlt ∧ (n.openAt i starved advance).evl = n.evl ∧
    (n.openAt i starved advance).hlm = n.hlm := by
  unfold Node.openAt
  repeat' split
  all_goals simp

@[simp] theorem closeByCondition_frame (n : Node) :
    (n.closeByCondition).pins = n.pins ∧ (n.closeByCondition).filters = n.filters ∧
    (n.closeByCondition).clk = n.clk ∧ (n.closeByCondition).sul = n.sul ∧
    (n.closeByCondition).lc = n.lc ∧ (n.closeByCondition).tsg = n.tsg ∧
    (n.closeByCondition).datums = n.datums ∧ (n.closeByCondition).exh = n.exh ∧
    (n.closeByCondition).pta = n.pta ∧ (n.closeByCondition).cmu = n.cmu ∧
    (n.closeByCondition).hlt = n.hlt ∧ (n.closeByCondition).evl = n.evl ∧
    (n.closeByCondition).hlm = n.hlm := by
  unfold Node.closeByCondition
  repeat' split
  all_goals simp

@[simp] theorem goOn_frame (k : Nat) (starved : Bool) (n : Node) :
    (Node.goOn k starved n).pins = n.pins ∧ (Node.goOn k starved n).filters = n.filters ∧
    (Node.goOn k starved n).clk = n.clk ∧ (Node.goOn k starved n).sul = n.sul ∧
    (Node.goOn k starved n).lc = n.lc ∧ (Node.goOn k starved n).datums = n.datums ∧
    (Node.goOn k starved n).pta = n.pta ∧ (Node.goOn k starved n).hlt = n.hlt ∧
    (Node.goOn k starved n).hlm = n.hlm := by
  induction k generalizing starved n with
  | zero => simp [Node.goOn]
  | succ k ih =>
    simp only [Node.goOn]
    repeat' split
    all_goals simp [ih]

@[simp] theorem closeAndGoOn_frame (n : Node) :
    (n.closeAndGoOn).pins = n.pins ∧ (n.closeAndGoOn).filters = n.filters ∧
    (n.closeAndGoOn).clk = n.clk ∧ (n.closeAndGoOn).sul = n.sul ∧ (n.closeAndGoOn).lc = n.lc ∧
    (n.closeAndGoOn).datums = n.datums ∧ (n.closeAndGoOn).pta = n.pta ∧ (n.closeAndGoOn).hlt = n.hlt ∧
    (n.closeAndGoOn).hlm = n.hlm := by
  simp [Node.closeAndGoOn]

@[simp] theorem openAndJudge_frame (n : Node) (i : Fin 32) (starved : Bool) :
    (n.openAndJudge i starved).pins = n.pins ∧ (n.openAndJudge i starved).filters = n.filters ∧
    (n.openAndJudge i starved).clk = n.clk ∧ (n.openAndJudge i starved).sul = n.sul ∧
    (n.openAndJudge i starved).lc = n.lc ∧ (n.openAndJudge i starved).datums = n.datums ∧
    (n.openAndJudge i starved).pta = n.pta ∧ (n.openAndJudge i starved).hlt = n.hlt ∧
    (n.openAndJudge i starved).hlm = n.hlm := by
  simp only [Node.openAndJudge]
  repeat' split
  all_goals simp

@[simp] theorem judgeEnd_frame (n : Node) (met : SegFields → Bool) :
    (n.judgeEnd met).pins = n.pins ∧ (n.judgeEnd met).filters = n.filters ∧
    (n.judgeEnd met).clk = n.clk ∧ (n.judgeEnd met).sul = n.sul ∧ (n.judgeEnd met).lc = n.lc ∧
    (n.judgeEnd met).datums = n.datums ∧ (n.judgeEnd met).pta = n.pta ∧ (n.judgeEnd met).hlt = n.hlt ∧
    (n.judgeEnd met).hlm = n.hlm := by
  unfold Node.judgeEnd
  repeat' split
  all_goals simp

@[simp] theorem watchStrain_frame (n : Node) (e : HistEntry) :
    (n.watchStrain e).pins = n.pins ∧ (n.watchStrain e).filters = n.filters ∧
    (n.watchStrain e).clk = n.clk ∧ (n.watchStrain e).sul = n.sul ∧ (n.watchStrain e).lc = n.lc ∧
    (n.watchStrain e).datums = n.datums ∧ (n.watchStrain e).pta = n.pta ∧
    (n.watchStrain e).hlt = n.hlt ∧ (n.watchStrain e).hlm = n.hlm := by
  unfold Node.watchStrain
  repeat' split
  all_goals simp

@[simp] theorem watchForce_frame (n : Node) (e : HistEntry) :
    (n.watchForce e).pins = n.pins ∧ (n.watchForce e).filters = n.filters ∧
    (n.watchForce e).clk = n.clk ∧ (n.watchForce e).sul = n.sul ∧ (n.watchForce e).lc = n.lc ∧
    (n.watchForce e).datums = n.datums ∧ (n.watchForce e).pta = n.pta ∧ (n.watchForce e).hlt = n.hlt ∧
    (n.watchForce e).hlm = n.hlm := by
  unfold Node.watchForce
  repeat' split
  all_goals simp

@[simp] theorem watchTravel_frame (n : Node) :
    (n.watchTravel).pins = n.pins ∧ (n.watchTravel).filters = n.filters ∧ (n.watchTravel).clk = n.clk ∧
    (n.watchTravel).sul = n.sul ∧ (n.watchTravel).lc = n.lc ∧ (n.watchTravel).datums = n.datums ∧
    (n.watchTravel).pta = n.pta ∧ (n.watchTravel).hlt = n.hlt ∧ (n.watchTravel).hlm = n.hlm := by
  unfold Node.watchTravel
  repeat' split
  all_goals simp

@[simp] theorem watchTime_frame (n : Node) :
    (n.watchTime).pins = n.pins ∧ (n.watchTime).filters = n.filters ∧ (n.watchTime).clk = n.clk ∧
    (n.watchTime).sul = n.sul ∧ (n.watchTime).lc = n.lc ∧ (n.watchTime).datums = n.datums ∧
    (n.watchTime).pta = n.pta ∧ (n.watchTime).hlt = n.hlt ∧ (n.watchTime).hlm = n.hlm := by
  unfold Node.watchTime
  repeat' split
  all_goals simp

@[simp] theorem yieldReport_frame (n : Node) :
    (n.yieldReport).pins = n.pins ∧ (n.yieldReport).filters = n.filters ∧ (n.yieldReport).clk = n.clk ∧
    (n.yieldReport).sul = n.sul ∧ (n.yieldReport).lc = n.lc ∧ (n.yieldReport).datums = n.datums ∧
    (n.yieldReport).pta = n.pta ∧ (n.yieldReport).hlt = n.hlt ∧ (n.yieldReport).hlm = n.hlm := by
  simp only [Node.yieldReport]
  repeat' split
  all_goals simp

@[simp] theorem seqForce_frame (n : Node) (e : HistEntry) :
    (n.seqForce e).pins = n.pins ∧ (n.seqForce e).filters = n.filters ∧ (n.seqForce e).clk = n.clk ∧
    (n.seqForce e).sul = n.sul ∧ (n.seqForce e).lc = n.lc ∧ (n.seqForce e).tsg = n.tsg ∧
    (n.seqForce e).datums = n.datums ∧ (n.seqForce e).exh = n.exh ∧ (n.seqForce e).fbc = n.fbc ∧
    (n.seqForce e).pta = n.pta ∧ (n.seqForce e).cmu = n.cmu ∧ (n.seqForce e).hlt = n.hlt ∧
    (n.seqForce e).evl = n.evl ∧ (n.seqForce e).hlm = n.hlm := by
  unfold Node.seqForce
  repeat' split
  all_goals simp

@[simp] theorem walk_frame (k : Nat) (n : Node) :
    (Node.walk k n).1.pins = n.pins ∧ (Node.walk k n).1.filters = n.filters ∧
    (Node.walk k n).1.clk = n.clk ∧ (Node.walk k n).1.sul = n.sul ∧ (Node.walk k n).1.lc = n.lc ∧
    (Node.walk k n).1.tsg = n.tsg ∧ (Node.walk k n).1.datums = n.datums ∧
    (Node.walk k n).1.exh = n.exh ∧ (Node.walk k n).1.pta = n.pta ∧ (Node.walk k n).1.cmu = n.cmu ∧
    (Node.walk k n).1.hlt = n.hlt ∧ (Node.walk k n).1.evl = n.evl ∧ (Node.walk k n).1.hlm = n.hlm := by
  induction k generalizing n with
  | zero => simp [Node.walk]
  | succ k ih =>
    simp only [Node.walk]
    repeat' split
    all_goals simp [ih]

@[simp] theorem walkAndGoOn_frame (n : Node) (k : Nat) (starved : Bool) :
    (n.walkAndGoOn k starved).pins = n.pins ∧ (n.walkAndGoOn k starved).filters = n.filters ∧
    (n.walkAndGoOn k starved).clk = n.clk ∧ (n.walkAndGoOn k starved).sul = n.sul ∧
    (n.walkAndGoOn k starved).lc = n.lc ∧ (n.walkAndGoOn k starved).datums = n.datums ∧
    (n.walkAndGoOn k starved).pta = n.pta ∧ (n.walkAndGoOn k starved).hlt = n.hlt ∧
    (n.walkAndGoOn k starved).hlm = n.hlm := by
  have h := walk_frame k n
  unfold Node.walkAndGoOn
  split <;> simp_all

@[simp] theorem markAhead_frame (n : Node) (k : Nat) (t : Time) :
    (n.markAhead k t).pins = n.pins ∧ (n.markAhead k t).filters = n.filters ∧
    (n.markAhead k t).clk = n.clk ∧ (n.markAhead k t).sul = n.sul ∧ (n.markAhead k t).lc = n.lc ∧
    (n.markAhead k t).datums = n.datums ∧ (n.markAhead k t).pta = n.pta ∧
    (n.markAhead k t).hlt = n.hlt ∧ (n.markAhead k t).hlm = n.hlm := by
  simp only [Node.markAhead]
  repeat' split
  all_goals simp

@[simp] theorem judgeMark_frame (n : Node) (j : Nat) (t : Time) :
    (n.judgeMark j t).pins = n.pins ∧ (n.judgeMark j t).filters = n.filters ∧
    (n.judgeMark j t).clk = n.clk ∧ (n.judgeMark j t).sul = n.sul ∧ (n.judgeMark j t).lc = n.lc ∧
    (n.judgeMark j t).datums = n.datums ∧ (n.judgeMark j t).pta = n.pta ∧
    (n.judgeMark j t).hlt = n.hlt ∧ (n.judgeMark j t).hlm = n.hlm := by
  simp only [Node.judgeMark]
  repeat' split
  all_goals simp

@[simp] theorem takeMark_frame (n : Node) (f : RxFrame) :
    (n.takeMark f).pins = n.pins ∧ (n.takeMark f).filters = n.filters ∧ (n.takeMark f).clk = n.clk ∧
    (n.takeMark f).sul = n.sul ∧ (n.takeMark f).lc = n.lc ∧ (n.takeMark f).datums = n.datums ∧
    (n.takeMark f).pta = n.pta ∧ (n.takeMark f).hlt = n.hlt ∧ (n.takeMark f).hlm = n.hlm := by
  unfold Node.takeMark
  repeat' split
  all_goals simp

@[simp] theorem seqBreak_frame (n : Node) :
    (n.seqBreak).pins = n.pins ∧ (n.seqBreak).filters = n.filters ∧ (n.seqBreak).clk = n.clk ∧
    (n.seqBreak).sul = n.sul ∧ (n.seqBreak).lc = n.lc ∧ (n.seqBreak).datums = n.datums ∧
    (n.seqBreak).pta = n.pta ∧ (n.seqBreak).hlt = n.hlt ∧ (n.seqBreak).hlm = n.hlm := by
  unfold Node.seqBreak
  repeat' split
  all_goals simp

/-! ### Halts -/

@[simp] theorem setRecord_frame (n : Node) (cause : HaltCause) (originator : Fin 16) (standing : Bool) :
    (n.setRecord cause originator standing).pins = n.pins ∧
    (n.setRecord cause originator standing).filters = n.filters ∧
    (n.setRecord cause originator standing).clk = n.clk ∧
    (n.setRecord cause originator standing).sul = n.sul ∧
    (n.setRecord cause originator standing).lc = n.lc ∧
    (n.setRecord cause originator standing).tsg = n.tsg ∧
    (n.setRecord cause originator standing).datums = n.datums ∧
    (n.setRecord cause originator standing).exh = n.exh ∧
    (n.setRecord cause originator standing).fbc = n.fbc ∧
    (n.setRecord cause originator standing).pta = n.pta ∧
    (n.setRecord cause originator standing).cmu = n.cmu ∧
    (n.setRecord cause originator standing).seq = n.seq ∧
    (n.setRecord cause originator standing).evl = n.evl ∧
    (n.setRecord cause originator standing).hlm = n.hlm := by
  unfold Node.setRecord
  repeat' split
  all_goals simp

@[simp] theorem localCause_frame (n : Node) (cause : HaltCause) :
    (n.localCause cause).pins = n.pins ∧ (n.localCause cause).filters = n.filters ∧
    (n.localCause cause).clk = n.clk ∧ (n.localCause cause).sul = n.sul ∧
    (n.localCause cause).lc = n.lc ∧ (n.localCause cause).datums = n.datums ∧
    (n.localCause cause).pta = n.pta ∧ (n.localCause cause).hlm = n.hlm := by
  unfold Node.localCause
  repeat' split
  all_goals simp

@[simp] theorem stopJogging_frame (n : Node) :
    (n.stopJogging).pins = n.pins ∧ (n.stopJogging).filters = n.filters ∧ (n.stopJogging).clk = n.clk ∧
    (n.stopJogging).sul = n.sul ∧ (n.stopJogging).lc = n.lc ∧ (n.stopJogging).datums = n.datums ∧
    (n.stopJogging).exh = n.exh ∧ (n.stopJogging).fbc = n.fbc ∧ (n.stopJogging).pta = n.pta ∧
    (n.stopJogging).cmu = n.cmu ∧ (n.stopJogging).seq = n.seq ∧ (n.stopJogging).hlt = n.hlt ∧
    (n.stopJogging).evl = n.evl ∧ (n.stopJogging).hlm = n.hlm := by
  unfold Node.stopJogging
  repeat' split
  all_goals simp

@[simp] theorem receivedCause_frame (n : Node) (cause : HaltCause) (originator : Fin 16) :
    (n.receivedCause cause originator).pins = n.pins ∧
    (n.receivedCause cause originator).filters = n.filters ∧
    (n.receivedCause cause originator).clk = n.clk ∧ (n.receivedCause cause originator).sul = n.sul ∧
    (n.receivedCause cause originator).lc = n.lc ∧
    (n.receivedCause cause originator).datums = n.datums ∧
    (n.receivedCause cause originator).pta = n.pta ∧ (n.receivedCause cause originator).hlm = n.hlm := by
  unfold Node.receivedCause
  repeat' split
  all_goals simp

@[simp] theorem takeHalt_frame (n : Node) (f : RxFrame) :
    (n.takeHalt f).pins = n.pins ∧ (n.takeHalt f).filters = n.filters ∧ (n.takeHalt f).clk = n.clk ∧
    (n.takeHalt f).sul = n.sul ∧ (n.takeHalt f).lc = n.lc ∧ (n.takeHalt f).datums = n.datums ∧
    (n.takeHalt f).pta = n.pta ∧ (n.takeHalt f).hlm = n.hlm := by
  unfold Node.takeHalt
  repeat' split
  all_goals simp

@[simp] theorem deliverBreak_frame (n : Node) :
    (n.deliverBreak).pins = n.pins ∧ (n.deliverBreak).filters = n.filters ∧
    (n.deliverBreak).clk = n.clk ∧ (n.deliverBreak).sul = n.sul ∧ (n.deliverBreak).lc = n.lc ∧
    (n.deliverBreak).datums = n.datums ∧ (n.deliverBreak).pta = n.pta ∧ (n.deliverBreak).hlt = n.hlt ∧
    (n.deliverBreak).hlm = n.hlm := by
  unfold Node.deliverBreak
  repeat' split
  all_goals simp

@[simp] theorem setBreak_frame (n : Node) (originator : Fin 16) :
    (n.setBreak originator).pins = n.pins ∧ (n.setBreak originator).filters = n.filters ∧
    (n.setBreak originator).clk = n.clk ∧ (n.setBreak originator).sul = n.sul ∧
    (n.setBreak originator).lc = n.lc ∧ (n.setBreak originator).tsg = n.tsg ∧
    (n.setBreak originator).datums = n.datums ∧ (n.setBreak originator).exh = n.exh ∧
    (n.setBreak originator).fbc = n.fbc ∧ (n.setBreak originator).pta = n.pta ∧
    (n.setBreak originator).cmu = n.cmu ∧ (n.setBreak originator).seq = n.seq ∧
    (n.setBreak originator).evl = n.evl ∧ (n.setBreak originator).hlm = n.hlm := by
  unfold Node.setBreak
  repeat' split
  all_goals simp

@[simp] theorem raiseBreak_frame (n : Node) :
    (n.raiseBreak).pins = n.pins ∧ (n.raiseBreak).filters = n.filters ∧ (n.raiseBreak).clk = n.clk ∧
    (n.raiseBreak).sul = n.sul ∧ (n.raiseBreak).lc = n.lc ∧ (n.raiseBreak).datums = n.datums ∧
    (n.raiseBreak).pta = n.pta ∧ (n.raiseBreak).hlm = n.hlm := by
  unfold Node.raiseBreak
  repeat' split
  all_goals simp

@[simp] theorem takeBreak_frame (n : Node) (f : RxFrame) :
    (n.takeBreak f).pins = n.pins ∧ (n.takeBreak f).filters = n.filters ∧ (n.takeBreak f).clk = n.clk ∧
    (n.takeBreak f).sul = n.sul ∧ (n.takeBreak f).lc = n.lc ∧ (n.takeBreak f).datums = n.datums ∧
    (n.takeBreak f).pta = n.pta ∧ (n.takeBreak f).hlm = n.hlm := by
  simp only [Node.takeBreak]
  repeat' split
  all_goals simp

@[simp] theorem sampleStop_frame (n : Node) (asserted : Bool) :
    (n.sampleStop asserted).pins = n.pins ∧ (n.sampleStop asserted).filters = n.filters ∧
    (n.sampleStop asserted).clk = n.clk ∧ (n.sampleStop asserted).sul = n.sul ∧
    (n.sampleStop asserted).lc = n.lc ∧ (n.sampleStop asserted).datums = n.datums ∧
    (n.sampleStop asserted).pta = n.pta ∧ (n.sampleStop asserted).hlm = n.hlm := by
  simp only [Node.sampleStop]
  repeat' split
  all_goals simp

@[simp] theorem loadLost_frame (n : Node) :
    (n.loadLost).pins = n.pins ∧ (n.loadLost).filters = n.filters ∧ (n.loadLost).clk = n.clk ∧
    (n.loadLost).sul = n.sul ∧ (n.loadLost).lc = n.lc ∧ (n.loadLost).datums = n.datums ∧
    (n.loadLost).pta = n.pta ∧ (n.loadLost).hlm = n.hlm := by
  unfold Node.loadLost
  repeat' split
  all_goals simp

@[simp] theorem enterSilent_frame (n : Node) :
    (n.enterSilent).pins = n.pins ∧ (n.enterSilent).filters = n.filters ∧ (n.enterSilent).clk = n.clk ∧
    (n.enterSilent).sul = n.sul ∧ (n.enterSilent).lc = n.lc ∧ (n.enterSilent).datums = n.datums ∧
    (n.enterSilent).pta = n.pta ∧ (n.enterSilent).hlm = n.hlm := by
  unfold Node.enterSilent
  repeat' split
  all_goals simp

/-! ### Pairing -/

@[simp] theorem reportYield_frame (n : Node) :
    (n.reportYield).pins = n.pins ∧ (n.reportYield).filters = n.filters ∧ (n.reportYield).clk = n.clk ∧
    (n.reportYield).sul = n.sul ∧ (n.reportYield).lc = n.lc ∧ (n.reportYield).datums = n.datums ∧
    (n.reportYield).pta = n.pta ∧ (n.reportYield).hlt = n.hlt ∧ (n.reportYield).hlm = n.hlm := by
  unfold Node.reportYield
  repeat' split
  all_goals simp

@[simp] theorem reportHeld_frame (n : Node) (held : Bool) :
    (n.reportHeld held).pins = n.pins ∧ (n.reportHeld held).filters = n.filters ∧
    (n.reportHeld held).clk = n.clk ∧ (n.reportHeld held).sul = n.sul ∧ (n.reportHeld held).lc = n.lc ∧
    (n.reportHeld held).tsg = n.tsg ∧ (n.reportHeld held).datums = n.datums ∧
    (n.reportHeld held).exh = n.exh ∧ (n.reportHeld held).fbc = n.fbc ∧
    (n.reportHeld held).pta = n.pta ∧ (n.reportHeld held).cmu = n.cmu ∧
    (n.reportHeld held).hlt = n.hlt ∧ (n.reportHeld held).evl = n.evl ∧ (n.reportHeld held).hlm = n.hlm := by
  unfold Node.reportHeld
  repeat' split
  all_goals simp

@[simp] theorem passPair_frame (n : Node) (p : EvalParams) (x : Pair) :
    (n.passPair p x).pins = n.pins ∧ (n.passPair p x).filters = n.filters ∧
    (n.passPair p x).clk = n.clk ∧ (n.passPair p x).sul = n.sul ∧ (n.passPair p x).lc = n.lc ∧
    (n.passPair p x).datums = n.datums ∧ (n.passPair p x).pta = n.pta ∧
    (n.passPair p x).hlt = n.hlt ∧ (n.passPair p x).hlm = n.hlm := by
  simp [Node.passPair]

@[simp] theorem formPair_frame (n : Node) (l : LoadEntry) (a : Answer) :
    (n.formPair l a).pins = n.pins ∧ (n.formPair l a).filters = n.filters ∧
    (n.formPair l a).clk = n.clk ∧ (n.formPair l a).sul = n.sul ∧
    (n.formPair l a).lc = n.lc ∧ (n.formPair l a).datums = n.datums ∧
    (n.formPair l a).pta = n.pta ∧ (n.formPair l a).hlt = n.hlt ∧
    (n.formPair l a).hlm = n.hlm := by
  unfold Node.formPair
  repeat' split
  all_goals simp

@[simp] theorem pairWith_frame (n : Node) (l : LoadEntry) (a : Answer) :
    (n.pairWith l a).pins = n.pins ∧ (n.pairWith l a).filters = n.filters ∧
    (n.pairWith l a).clk = n.clk ∧ (n.pairWith l a).sul = n.sul ∧
    (n.pairWith l a).lc = n.lc ∧ (n.pairWith l a).datums = n.datums ∧
    (n.pairWith l a).pta = n.pta ∧ (n.pairWith l a).hlt = n.hlt ∧
    (n.pairWith l a).hlm = n.hlm := by
  unfold Node.pairWith
  repeat' split
  all_goals simp

@[simp] theorem popLoad_frame (n : Node) :
    (n.popLoad).pins = n.pins ∧ (n.popLoad).filters = n.filters ∧ (n.popLoad).clk = n.clk ∧
    (n.popLoad).sul = n.sul ∧ (n.popLoad).lc = n.lc ∧ (n.popLoad).tsg = n.tsg ∧
    (n.popLoad).datums = n.datums ∧ (n.popLoad).exh = n.exh ∧ (n.popLoad).fbc = n.fbc ∧
    (n.popLoad).pta = n.pta ∧ (n.popLoad).cmu = n.cmu ∧ (n.popLoad).seq = n.seq ∧
    (n.popLoad).hlt = n.hlt ∧ (n.popLoad).hlm = n.hlm := by
  unfold Node.popLoad
  repeat' split
  all_goals simp

@[simp] theorem pairFront_frame (n m : Node) (l : LoadEntry) (h : n.pairFront l = some m) :
    m.pins = n.pins ∧ m.filters = n.filters ∧ m.clk = n.clk ∧ m.sul = n.sul ∧ m.lc = n.lc ∧
    m.datums = n.datums ∧ m.pta = n.pta ∧ m.hlt = n.hlt ∧ m.hlm = n.hlm := by
  unfold Node.pairFront at h
  revert h; cases Place.inside l.time _ <;> simp
  rintro rfl; simp

@[simp] theorem pairRounds_frame (k : Nat) (n : Node) :
    (Node.pairRounds k n).pins = n.pins ∧ (Node.pairRounds k n).filters = n.filters ∧
    (Node.pairRounds k n).clk = n.clk ∧ (Node.pairRounds k n).sul = n.sul ∧
    (Node.pairRounds k n).lc = n.lc ∧ (Node.pairRounds k n).datums = n.datums ∧
    (Node.pairRounds k n).pta = n.pta ∧ (Node.pairRounds k n).hlt = n.hlt ∧
    (Node.pairRounds k n).hlm = n.hlm := by
  induction k generalizing n with
  | zero => simp [Node.pairRounds]
  | succ k ih =>
    unfold Node.pairRounds
    split
    · simp
    · split
      · split
        · rename_i _ m h
          simp [ih, pairFront_frame n m _ h]
        · simp
      · simp

@[simp] theorem pairingAttempt_frame (n : Node) :
    (n.pairingAttempt).pins = n.pins ∧ (n.pairingAttempt).filters = n.filters ∧
    (n.pairingAttempt).clk = n.clk ∧ (n.pairingAttempt).sul = n.sul ∧ (n.pairingAttempt).lc = n.lc ∧
    (n.pairingAttempt).datums = n.datums ∧ (n.pairingAttempt).pta = n.pta ∧
    (n.pairingAttempt).hlt = n.hlt ∧ (n.pairingAttempt).hlm = n.hlm := by
  simp only [Node.pairingAttempt]
  repeat' split
  all_goals simp

@[simp] theorem overflow_frame (n : Node) :
    (n.overflow).pins = n.pins ∧ (n.overflow).filters = n.filters ∧ (n.overflow).clk = n.clk ∧
    (n.overflow).sul = n.sul ∧ (n.overflow).lc = n.lc ∧ (n.overflow).datums = n.datums ∧
    (n.overflow).pta = n.pta ∧ (n.overflow).hlt = n.hlt ∧ (n.overflow).hlm = n.hlm := by
  unfold Node.overflow
  repeat' split
  all_goals simp

@[simp] theorem pushLoad_frame (n : Node) (e : HistEntry) :
    (n.pushLoad e).pins = n.pins ∧ (n.pushLoad e).filters = n.filters ∧ (n.pushLoad e).clk = n.clk ∧
    (n.pushLoad e).sul = n.sul ∧ (n.pushLoad e).lc = n.lc ∧ (n.pushLoad e).tsg = n.tsg ∧
    (n.pushLoad e).datums = n.datums ∧ (n.pushLoad e).exh = n.exh ∧ (n.pushLoad e).fbc = n.fbc ∧
    (n.pushLoad e).pta = n.pta ∧ (n.pushLoad e).cmu = n.cmu ∧ (n.pushLoad e).seq = n.seq ∧
    (n.pushLoad e).hlt = n.hlt ∧ (n.pushLoad e).hlm = n.hlm := by
  unfold Node.pushLoad
  repeat' split
  all_goals simp

@[simp] theorem evalLoad_frame (n : Node) (e : HistEntry) :
    (n.evalLoad e).pins = n.pins ∧ (n.evalLoad e).filters = n.filters ∧ (n.evalLoad e).clk = n.clk ∧
    (n.evalLoad e).sul = n.sul ∧ (n.evalLoad e).lc = n.lc ∧ (n.evalLoad e).datums = n.datums ∧
    (n.evalLoad e).pta = n.pta ∧ (n.evalLoad e).hlt = n.hlt ∧ (n.evalLoad e).hlm = n.hlm := by
  unfold Node.evalLoad
  repeat' split
  all_goals simp

@[simp] theorem evalStrain_frame (n : Node) (e : HistEntry) :
    (n.evalStrain e).pins = n.pins ∧ (n.evalStrain e).filters = n.filters ∧
    (n.evalStrain e).clk = n.clk ∧ (n.evalStrain e).sul = n.sul ∧ (n.evalStrain e).lc = n.lc ∧
    (n.evalStrain e).datums = n.datums ∧ (n.evalStrain e).pta = n.pta ∧ (n.evalStrain e).hlt = n.hlt ∧
    (n.evalStrain e).hlm = n.hlm := by
  unfold Node.evalStrain
  repeat' split
  all_goals simp

@[simp] theorem consumeStrain_frame (n : Node) (e : HistEntry) :
    (n.consumeStrain e).pins = n.pins ∧ (n.consumeStrain e).filters = n.filters ∧
    (n.consumeStrain e).clk = n.clk ∧ (n.consumeStrain e).sul = n.sul ∧ (n.consumeStrain e).lc = n.lc ∧
    (n.consumeStrain e).datums = n.datums ∧ (n.consumeStrain e).pta = n.pta ∧
    (n.consumeStrain e).hlt = n.hlt ∧ (n.consumeStrain e).hlm = n.hlm := by
  unfold Node.consumeStrain
  repeat' split
  all_goals simp

@[simp] theorem consumeForce_frame (n : Node) (e : HistEntry) :
    (n.consumeForce e).pins = n.pins ∧ (n.consumeForce e).filters = n.filters ∧
    (n.consumeForce e).clk = n.clk ∧ (n.consumeForce e).sul = n.sul ∧ (n.consumeForce e).lc = n.lc ∧
    (n.consumeForce e).datums = n.datums ∧ (n.consumeForce e).pta = n.pta ∧
    (n.consumeForce e).hlt = n.hlt ∧ (n.consumeForce e).hlm = n.hlm := by
  unfold Node.consumeForce
  repeat' split
  all_goals simp

@[simp] theorem consumeSub_frame (n : Node) (i : Fin 4) (e : HistEntry) :
    (n.consumeSub i e).pins = n.pins ∧ (n.consumeSub i e).filters = n.filters ∧
    (n.consumeSub i e).clk = n.clk ∧ (n.consumeSub i e).sul = n.sul ∧ (n.consumeSub i e).lc = n.lc ∧
    (n.consumeSub i e).pta = n.pta ∧ (n.consumeSub i e).hlt = n.hlt ∧ (n.consumeSub i e).hlm = n.hlm := by
  unfold Node.consumeSub
  repeat' split
  all_goals simp

/-! ### LoadChannel -/

@[simp] theorem zeroStage_frame (n : Node) :
    (n.zeroStage).pins = n.pins ∧ (n.zeroStage).filters = n.filters ∧ (n.zeroStage).clk = n.clk ∧
    (n.zeroStage).sul = n.sul ∧ (n.zeroStage).tsg = n.tsg ∧ (n.zeroStage).datums = n.datums ∧
    (n.zeroStage).exh = n.exh ∧ (n.zeroStage).fbc = n.fbc ∧ (n.zeroStage).pta = n.pta ∧
    (n.zeroStage).cmu = n.cmu ∧ (n.zeroStage).hlt = n.hlt ∧ (n.zeroStage).evl = n.evl := by
  unfold Node.zeroStage
  repeat' split
  all_goals simp

@[simp] theorem acceptConversion_frame (n : Node) (c : Int) :
    (n.acceptConversion c).pins = n.pins ∧ (n.acceptConversion c).filters = n.filters ∧
    (n.acceptConversion c).clk = n.clk ∧ (n.acceptConversion c).sul = n.sul ∧
    (n.acceptConversion c).tsg = n.tsg ∧ (n.acceptConversion c).datums = n.datums ∧
    (n.acceptConversion c).exh = n.exh ∧ (n.acceptConversion c).fbc = n.fbc ∧
    (n.acceptConversion c).pta = n.pta ∧ (n.acceptConversion c).cmu = n.cmu ∧
    (n.acceptConversion c).hlt = n.hlt ∧ (n.acceptConversion c).evl = n.evl := by
  simp only [Node.acceptConversion]
  repeat' split
  all_goals simp

@[simp] theorem endBalance_frame (n : Node) (residue : Int) :
    (n.endBalance residue).pins = n.pins ∧ (n.endBalance residue).filters = n.filters ∧
    (n.endBalance residue).clk = n.clk ∧ (n.endBalance residue).sul = n.sul ∧
    (n.endBalance residue).tsg = n.tsg ∧ (n.endBalance residue).datums = n.datums ∧
    (n.endBalance residue).exh = n.exh ∧ (n.endBalance residue).fbc = n.fbc ∧
    (n.endBalance residue).pta = n.pta ∧ (n.endBalance residue).cmu = n.cmu ∧
    (n.endBalance residue).seq = n.seq ∧ (n.endBalance residue).hlt = n.hlt ∧
    (n.endBalance residue).evl = n.evl := by
  unfold Node.endBalance
  repeat' split
  all_goals simp

@[simp] theorem updateFmax_frame (n : Node) (e : HistEntry) :
    (n.updateFmax e).pins = n.pins ∧ (n.updateFmax e).filters = n.filters ∧
    (n.updateFmax e).clk = n.clk ∧ (n.updateFmax e).sul = n.sul ∧ (n.updateFmax e).tsg = n.tsg ∧
    (n.updateFmax e).datums = n.datums ∧ (n.updateFmax e).exh = n.exh ∧ (n.updateFmax e).fbc = n.fbc ∧
    (n.updateFmax e).pta = n.pta ∧ (n.updateFmax e).cmu = n.cmu ∧ (n.updateFmax e).seq = n.seq ∧
    (n.updateFmax e).hlt = n.hlt ∧ (n.updateFmax e).evl = n.evl ∧ (n.updateFmax e).hlm = n.hlm := by
  unfold Node.updateFmax
  repeat' split
  all_goals simp

@[simp] theorem detectBreak_frame (n : Node) (e : HistEntry) :
    (n.detectBreak e).pins = n.pins ∧ (n.detectBreak e).filters = n.filters ∧
    (n.detectBreak e).clk = n.clk ∧ (n.detectBreak e).sul = n.sul ∧
    (n.detectBreak e).datums = n.datums ∧ (n.detectBreak e).pta = n.pta ∧ (n.detectBreak e).hlm = n.hlm := by
  unfold Node.detectBreak
  repeat' split
  all_goals simp

@[simp] theorem checkOverload_frame (n : Node) (e : HistEntry) :
    (n.checkOverload e).pins = n.pins ∧ (n.checkOverload e).filters = n.filters ∧
    (n.checkOverload e).clk = n.clk ∧ (n.checkOverload e).sul = n.sul ∧ (n.checkOverload e).lc = n.lc ∧
    (n.checkOverload e).datums = n.datums ∧ (n.checkOverload e).pta = n.pta ∧
    (n.checkOverload e).hlm = n.hlm := by
  unfold Node.checkOverload
  repeat' split
  all_goals simp

@[simp] theorem consumeLoad_frame (n : Node) (e : HistEntry) :
    (n.consumeLoad e).pins = n.pins ∧ (n.consumeLoad e).filters = n.filters ∧
    (n.consumeLoad e).clk = n.clk ∧ (n.consumeLoad e).sul = n.sul ∧
    (n.consumeLoad e).datums = n.datums ∧ (n.consumeLoad e).pta = n.pta ∧ (n.consumeLoad e).hlm = n.hlm := by
  unfold Node.consumeLoad
  repeat' split
  all_goals simp

@[simp] theorem publishLoad_frame (n : Node) :
    (n.publishLoad).pins = n.pins ∧ (n.publishLoad).filters = n.filters ∧ (n.publishLoad).clk = n.clk ∧
    (n.publishLoad).sul = n.sul ∧ (n.publishLoad).datums = n.datums ∧ (n.publishLoad).pta = n.pta ∧
    (n.publishLoad).hlm = n.hlm := by
  unfold Node.publishLoad
  repeat' split
  all_goals simp

@[simp] theorem publishStage_frame (n : Node) :
    (n.publishStage).pins = n.pins ∧ (n.publishStage).filters = n.filters ∧
    (n.publishStage).clk = n.clk ∧ (n.publishStage).sul = n.sul ∧ (n.publishStage).datums = n.datums ∧
    (n.publishStage).pta = n.pta ∧ (n.publishStage).hlm = n.hlm := by
  unfold Node.publishStage
  repeat' split
  all_goals simp

@[simp] theorem measure_frame (n : Node) (c : Int) :
    (n.measure c).1.pins = n.pins ∧ (n.measure c).1.filters = n.filters ∧ (n.measure c).1.clk = n.clk ∧
    (n.measure c).1.sul = n.sul ∧ (n.measure c).1.tsg = n.tsg ∧ (n.measure c).1.datums = n.datums ∧
    (n.measure c).1.exh = n.exh ∧ (n.measure c).1.fbc = n.fbc ∧ (n.measure c).1.pta = n.pta ∧
    (n.measure c).1.cmu = n.cmu ∧ (n.measure c).1.hlt = n.hlt ∧ (n.measure c).1.evl = n.evl := by
  unfold Node.measure
  repeat' split
  all_goals simp

@[simp] theorem convert_frame (n : Node) (c : Int) :
    (n.convert c).pins = n.pins ∧ (n.convert c).filters = n.filters ∧ (n.convert c).clk = n.clk ∧
    (n.convert c).sul = n.sul ∧ (n.convert c).datums = n.datums ∧ (n.convert c).pta = n.pta := by
  simp only [Node.convert]
  repeat' split
  all_goals simp

@[simp] theorem lcFrameReset_frame (n : Node) :
    (n.lcFrameReset).pins = n.pins ∧ (n.lcFrameReset).filters = n.filters ∧
    (n.lcFrameReset).clk = n.clk ∧ (n.lcFrameReset).sul = n.sul ∧ (n.lcFrameReset).tsg = n.tsg ∧
    (n.lcFrameReset).datums = n.datums ∧ (n.lcFrameReset).exh = n.exh ∧ (n.lcFrameReset).fbc = n.fbc ∧
    (n.lcFrameReset).pta = n.pta ∧ (n.lcFrameReset).cmu = n.cmu ∧ (n.lcFrameReset).seq = n.seq ∧
    (n.lcFrameReset).hlt = n.hlt ∧ (n.lcFrameReset).evl = n.evl ∧ (n.lcFrameReset).hlm = n.hlm := by
  unfold Node.lcFrameReset
  repeat' split
  all_goals simp

/-! ### Drive -/

@[simp] theorem acceptEncoder_frame (n : Node) (a b : Bool) :
    (n.acceptEncoder a b).clk = n.clk ∧ (n.acceptEncoder a b).sul = n.sul ∧
    (n.acceptEncoder a b).lc = n.lc ∧ (n.acceptEncoder a b).tsg = n.tsg ∧
    (n.acceptEncoder a b).datums = n.datums ∧ (n.acceptEncoder a b).exh = n.exh ∧
    (n.acceptEncoder a b).fbc = n.fbc ∧ (n.acceptEncoder a b).pta = n.pta ∧
    (n.acceptEncoder a b).cmu = n.cmu ∧ (n.acceptEncoder a b).seq = n.seq ∧
    (n.acceptEncoder a b).hlt = n.hlt ∧ (n.acceptEncoder a b).evl = n.evl ∧
    (n.acceptEncoder a b).hlm = n.hlm := by
  unfold Node.acceptEncoder
  repeat' split
  all_goals simp

@[simp] theorem encoderError_frame (n : Node) :
    (n.encoderError).pins = n.pins ∧ (n.encoderError).filters = n.filters ∧
    (n.encoderError).clk = n.clk ∧ (n.encoderError).sul = n.sul ∧ (n.encoderError).lc = n.lc ∧
    (n.encoderError).datums = n.datums ∧ (n.encoderError).pta = n.pta ∧ (n.encoderError).hlm = n.hlm := by
  unfold Node.encoderError
  repeat' split
  all_goals simp

@[simp] theorem encoderStep_frame (n : Node) (s : QuadStep) :
    (n.encoderStep s).pins = n.pins ∧ (n.encoderStep s).filters = n.filters ∧
    (n.encoderStep s).clk = n.clk ∧ (n.encoderStep s).sul = n.sul ∧ (n.encoderStep s).lc = n.lc ∧
    (n.encoderStep s).datums = n.datums ∧ (n.encoderStep s).pta = n.pta ∧ (n.encoderStep s).hlm = n.hlm := by
  unfold Node.encoderStep
  repeat' split
  all_goals simp

@[simp] theorem rampStage_frame (n : Node) :
    (n.rampStage).pins = n.pins ∧ (n.rampStage).filters = n.filters ∧ (n.rampStage).clk = n.clk ∧
    (n.rampStage).sul = n.sul ∧ (n.rampStage).lc = n.lc ∧ (n.rampStage).datums = n.datums ∧
    (n.rampStage).exh = n.exh ∧ (n.rampStage).pta = n.pta ∧ (n.rampStage).seq = n.seq ∧
    (n.rampStage).hlt = n.hlt ∧ (n.rampStage).evl = n.evl ∧ (n.rampStage).hlm = n.hlm := by
  unfold Node.rampStage
  repeat' split
  all_goals simp

@[simp] theorem levelStage_frame (n : Node) :
    (n.levelStage).pins = n.pins ∧ (n.levelStage).filters = n.filters ∧ (n.levelStage).clk = n.clk ∧
    (n.levelStage).sul = n.sul ∧ (n.levelStage).lc = n.lc ∧ (n.levelStage).datums = n.datums ∧
    (n.levelStage).pta = n.pta := by
  simp only [Node.levelStage]
  repeat' split
  all_goals simp

@[simp] theorem issueStage_frame (n : Node) (e : Option Int) :
    (n.issueStage e).pins = n.pins ∧ (n.issueStage e).filters = n.filters ∧
    (n.issueStage e).clk = n.clk ∧ (n.issueStage e).sul = n.sul ∧ (n.issueStage e).lc = n.lc ∧
    (n.issueStage e).datums = n.datums ∧ (n.issueStage e).exh = n.exh ∧ (n.issueStage e).fbc = n.fbc ∧
    (n.issueStage e).pta = n.pta ∧ (n.issueStage e).cmu = n.cmu ∧ (n.issueStage e).hlt = n.hlt ∧
    (n.issueStage e).evl = n.evl ∧ (n.issueStage e).hlm = n.hlm := by
  simp only [Node.issueStage]
  repeat' split
  all_goals simp

@[simp] theorem setGen_frame (n : Node) (g : Gen) :
    (n.setGen g).pins = n.pins ∧ (n.setGen g).filters = n.filters ∧ (n.setGen g).clk = n.clk ∧
    (n.setGen g).sul = n.sul ∧ (n.setGen g).lc = n.lc ∧ (n.setGen g).datums = n.datums ∧
    (n.setGen g).exh = n.exh ∧ (n.setGen g).fbc = n.fbc ∧ (n.setGen g).pta = n.pta ∧
    (n.setGen g).cmu = n.cmu ∧ (n.setGen g).seq = n.seq ∧ (n.setGen g).hlt = n.hlt ∧
    (n.setGen g).evl = n.evl ∧ (n.setGen g).hlm = n.hlm := by
  unfold Node.setGen
  repeat' split
  all_goals simp

@[simp] theorem runGenerator_frame (n : Node) (v : Int) :
    (n.runGenerator v).pins = n.pins ∧ (n.runGenerator v).filters = n.filters ∧
    (n.runGenerator v).clk = n.clk ∧ (n.runGenerator v).sul = n.sul ∧ (n.runGenerator v).lc = n.lc ∧
    (n.runGenerator v).datums = n.datums ∧ (n.runGenerator v).pta = n.pta ∧
    (n.runGenerator v).hlm = n.hlm := by
  simp only [Node.runGenerator]
  repeat' split
  all_goals simp

@[simp] theorem periodStage_frame (n : Node) :
    (n.periodStage).pins = n.pins ∧ (n.periodStage).filters = n.filters ∧ (n.periodStage).clk = n.clk ∧
    (n.periodStage).sul = n.sul ∧ (n.periodStage).lc = n.lc ∧ (n.periodStage).datums = n.datums ∧
    (n.periodStage).pta = n.pta ∧ (n.periodStage).hlm = n.hlm := by
  unfold Node.periodStage
  repeat' split
  all_goals simp

@[simp] theorem limitStage_frame (n : Node) :
    (n.limitStage).pins = n.pins ∧ (n.limitStage).filters = n.filters ∧ (n.limitStage).clk = n.clk ∧
    (n.limitStage).sul = n.sul ∧ (n.limitStage).lc = n.lc ∧ (n.limitStage).datums = n.datums ∧
    (n.limitStage).pta = n.pta ∧ (n.limitStage).hlm = n.hlm := by
  simp only [Node.limitStage]
  repeat' split
  all_goals simp

@[simp] theorem handFollowing_frame (n : Node) :
    (n.handFollowing).pins = n.pins ∧ (n.handFollowing).filters = n.filters ∧
    (n.handFollowing).clk = n.clk ∧ (n.handFollowing).sul = n.sul ∧ (n.handFollowing).lc = n.lc ∧
    (n.handFollowing).tsg = n.tsg ∧ (n.handFollowing).datums = n.datums ∧
    (n.handFollowing).exh = n.exh ∧ (n.handFollowing).fbc = n.fbc ∧ (n.handFollowing).pta = n.pta ∧
    (n.handFollowing).cmu = n.cmu ∧ (n.handFollowing).seq = n.seq ∧ (n.handFollowing).hlt = n.hlt ∧
    (n.handFollowing).evl = n.evl := by
  unfold Node.handFollowing
  repeat' split
  all_goals simp

@[simp] theorem followStage_frame (n : Node) :
    (n.followStage).pins = n.pins ∧ (n.followStage).filters = n.filters ∧ (n.followStage).clk = n.clk ∧
    (n.followStage).sul = n.sul ∧ (n.followStage).lc = n.lc ∧ (n.followStage).datums = n.datums ∧
    (n.followStage).pta = n.pta := by
  simp only [Node.followStage]
  repeat' split
  all_goals simp

@[simp] theorem publishTravel_frame (n : Node) :
    (n.publishTravel).pins = n.pins ∧ (n.publishTravel).filters = n.filters ∧
    (n.publishTravel).clk = n.clk ∧ (n.publishTravel).sul = n.sul ∧ (n.publishTravel).lc = n.lc ∧
    (n.publishTravel).datums = n.datums ∧ (n.publishTravel).pta = n.pta ∧
    (n.publishTravel).hlt = n.hlt ∧ (n.publishTravel).hlm = n.hlm := by
  unfold Node.publishTravel
  repeat' split
  all_goals simp

@[simp] theorem travelStage_frame (n : Node) :
    (n.travelStage).pins = n.pins ∧ (n.travelStage).filters = n.filters ∧ (n.travelStage).clk = n.clk ∧
    (n.travelStage).sul = n.sul ∧ (n.travelStage).lc = n.lc ∧ (n.travelStage).datums = n.datums ∧
    (n.travelStage).pta = n.pta ∧ (n.travelStage).hlt = n.hlt ∧ (n.travelStage).hlm = n.hlm := by
  unfold Node.travelStage
  repeat' split
  all_goals simp

@[simp] theorem pacer_frame (n : Node) :
    (n.pacer).pins = n.pins ∧ (n.pacer).filters = n.filters ∧ (n.pacer).clk = n.clk ∧
    (n.pacer).sul = n.sul ∧ (n.pacer).lc = n.lc ∧ (n.pacer).datums = n.datums ∧ (n.pacer).pta = n.pta := by
  unfold Node.pacer
  repeat' split
  all_goals simp

@[simp] theorem sampleLimits_frame (n : Node) (lo hi : Bool) :
    (n.sampleLimits lo hi).filters = n.filters ∧ (n.sampleLimits lo hi).clk = n.clk ∧
    (n.sampleLimits lo hi).sul = n.sul ∧ (n.sampleLimits lo hi).lc = n.lc ∧
    (n.sampleLimits lo hi).tsg = n.tsg ∧ (n.sampleLimits lo hi).datums = n.datums ∧
    (n.sampleLimits lo hi).exh = n.exh ∧ (n.sampleLimits lo hi).fbc = n.fbc ∧
    (n.sampleLimits lo hi).pta = n.pta ∧ (n.sampleLimits lo hi).cmu = n.cmu ∧
    (n.sampleLimits lo hi).seq = n.seq ∧ (n.sampleLimits lo hi).hlt = n.hlt ∧
    (n.sampleLimits lo hi).evl = n.evl ∧ (n.sampleLimits lo hi).hlm = n.hlm := by
  unfold Node.sampleLimits
  repeat' split
  all_goals simp

@[simp] theorem underflow_frame (n : Node) :
    (n.underflow).pins = n.pins ∧ (n.underflow).filters = n.filters ∧ (n.underflow).clk = n.clk ∧
    (n.underflow).sul = n.sul ∧ (n.underflow).lc = n.lc ∧ (n.underflow).datums = n.datums ∧
    (n.underflow).exh = n.exh ∧ (n.underflow).fbc = n.fbc ∧ (n.underflow).pta = n.pta ∧
    (n.underflow).cmu = n.cmu ∧ (n.underflow).seq = n.seq ∧ (n.underflow).hlt = n.hlt ∧
    (n.underflow).evl = n.evl ∧ (n.underflow).hlm = n.hlm := by
  unfold Node.underflow
  repeat' split
  all_goals simp

@[simp] theorem pulseEnds_frame (n : Node) :
    (n.pulseEnds).pins = n.pins ∧ (n.pulseEnds).filters = n.filters ∧ (n.pulseEnds).clk = n.clk ∧
    (n.pulseEnds).sul = n.sul ∧ (n.pulseEnds).lc = n.lc ∧ (n.pulseEnds).datums = n.datums ∧
    (n.pulseEnds).exh = n.exh ∧ (n.pulseEnds).fbc = n.fbc ∧ (n.pulseEnds).pta = n.pta ∧
    (n.pulseEnds).cmu = n.cmu ∧ (n.pulseEnds).seq = n.seq ∧ (n.pulseEnds).hlt = n.hlt ∧
    (n.pulseEnds).evl = n.evl ∧ (n.pulseEnds).hlm = n.hlm := by
  unfold Node.pulseEnds
  repeat' split
  all_goals simp

@[simp] theorem runDownEnds_frame (n : Node) :
    (n.runDownEnds).pins = n.pins ∧ (n.runDownEnds).filters = n.filters ∧ (n.runDownEnds).clk = n.clk ∧
    (n.runDownEnds).sul = n.sul ∧ (n.runDownEnds).lc = n.lc ∧ (n.runDownEnds).datums = n.datums ∧
    (n.runDownEnds).exh = n.exh ∧ (n.runDownEnds).fbc = n.fbc ∧ (n.runDownEnds).pta = n.pta ∧
    (n.runDownEnds).cmu = n.cmu ∧ (n.runDownEnds).seq = n.seq ∧ (n.runDownEnds).hlt = n.hlt ∧
    (n.runDownEnds).evl = n.evl ∧ (n.runDownEnds).hlm = n.hlm := by
  unfold Node.runDownEnds
  repeat' split
  all_goals simp

@[simp] theorem tsgFrameReset_frame (n : Node) :
    (n.tsgFrameReset).pins = n.pins ∧ (n.tsgFrameReset).filters = n.filters ∧
    (n.tsgFrameReset).clk = n.clk ∧ (n.tsgFrameReset).sul = n.sul ∧ (n.tsgFrameReset).lc = n.lc ∧
    (n.tsgFrameReset).datums = n.datums ∧ (n.tsgFrameReset).exh = n.exh ∧
    (n.tsgFrameReset).fbc = n.fbc ∧ (n.tsgFrameReset).pta = n.pta ∧ (n.tsgFrameReset).cmu = n.cmu ∧
    (n.tsgFrameReset).seq = n.seq ∧ (n.tsgFrameReset).hlt = n.hlt ∧ (n.tsgFrameReset).evl = n.evl ∧
    (n.tsgFrameReset).hlm = n.hlm := by
  unfold Node.tsgFrameReset
  repeat' split
  all_goals simp

@[simp] theorem clearEncFault_frame (n : Node) :
    (n.clearEncFault).pins = n.pins ∧ (n.clearEncFault).filters = n.filters ∧
    (n.clearEncFault).clk = n.clk ∧ (n.clearEncFault).sul = n.sul ∧ (n.clearEncFault).lc = n.lc ∧
    (n.clearEncFault).datums = n.datums ∧ (n.clearEncFault).exh = n.exh ∧
    (n.clearEncFault).fbc = n.fbc ∧ (n.clearEncFault).pta = n.pta ∧ (n.clearEncFault).cmu = n.cmu ∧
    (n.clearEncFault).seq = n.seq ∧ (n.clearEncFault).hlt = n.hlt ∧ (n.clearEncFault).evl = n.evl ∧
    (n.clearEncFault).hlm = n.hlm := by
  unfold Node.clearEncFault
  repeat' split
  all_goals simp

/-! ### StartUp -/

@[simp] theorem enterConfigFault_frame (n : Node) (code : FaultCode) (field : Nat) (kept : Image) :
    (n.enterConfigFault code field kept).pins = n.pins ∧
    (n.enterConfigFault code field kept).filters = n.filters ∧
    (n.enterConfigFault code field kept).clk = n.clk ∧ (n.enterConfigFault code field kept).lc = n.lc ∧
    (n.enterConfigFault code field kept).tsg = n.tsg ∧
    (n.enterConfigFault code field kept).datums = n.datums ∧
    (n.enterConfigFault code field kept).exh = n.exh ∧
    (n.enterConfigFault code field kept).pta = n.pta ∧
    (n.enterConfigFault code field kept).cmu = n.cmu ∧
    (n.enterConfigFault code field kept).hlt = n.hlt ∧
    (n.enterConfigFault code field kept).evl = n.evl ∧ (n.enterConfigFault code field kept).hlm = n.hlm := by
  unfold Node.enterConfigFault
  repeat' split
  all_goals simp

@[simp] theorem startLoad_frame (n : Node) :
    (n.startLoad).pins = n.pins ∧ (n.startLoad).filters = n.filters ∧ (n.startLoad).clk = n.clk ∧
    (n.startLoad).sul = n.sul ∧ (n.startLoad).tsg = n.tsg ∧ (n.startLoad).datums = n.datums ∧
    (n.startLoad).exh = n.exh ∧ (n.startLoad).fbc = n.fbc ∧ (n.startLoad).pta = n.pta ∧
    (n.startLoad).cmu = n.cmu ∧ (n.startLoad).seq = n.seq ∧ (n.startLoad).hlt = n.hlt ∧
    (n.startLoad).evl = n.evl ∧ (n.startLoad).hlm = n.hlm := by
  unfold Node.startLoad
  repeat' split
  all_goals simp

@[simp] theorem startExt_frame (n : Node) :
    (n.startExt).pins = n.pins ∧ (n.startExt).filters = n.filters ∧ (n.startExt).clk = n.clk ∧
    (n.startExt).sul = n.sul ∧ (n.startExt).lc = n.lc ∧ (n.startExt).tsg = n.tsg ∧
    (n.startExt).datums = n.datums ∧ (n.startExt).pta = n.pta ∧ (n.startExt).cmu = n.cmu ∧
    (n.startExt).seq = n.seq ∧ (n.startExt).hlt = n.hlt ∧ (n.startExt).evl = n.evl ∧
    (n.startExt).hlm = n.hlm := by
  unfold Node.startExt
  repeat' split
  all_goals simp

@[simp] theorem goLive_frame (n : Node) :
    (n.goLive).pins = n.pins ∧ (n.goLive).sul = n.sul ∧ (n.goLive).datums = n.datums ∧
    (n.goLive).cmu = n.cmu ∧ (n.goLive).seq = n.seq ∧ (n.goLive).evl = n.evl := by
  unfold Node.goLive
  repeat' split
  all_goals simp

@[simp] theorem enterActive_frame (n : Node) (img : Image) :
    (n.enterActive img).pins = n.pins ∧ (n.enterActive img).datums = n.datums ∧
    (n.enterActive img).cmu = n.cmu ∧ (n.enterActive img).evl = n.evl := by
  unfold Node.enterActive
  repeat' split
  all_goals simp

@[simp] theorem imageRead_frame (n : Node) (bytes : List Byte) :
    (n.imageRead bytes).pins = n.pins ∧ (n.imageRead bytes).datums = n.datums ∧
    (n.imageRead bytes).cmu = n.cmu ∧ (n.imageRead bytes).evl = n.evl := by
  unfold Node.imageRead
  repeat' split
  all_goals simp

/-! ### TestCommands -/

@[simp] theorem seqStart_frame (n : Node) :
    (n.seqStart).pins = n.pins ∧ (n.seqStart).filters = n.filters ∧ (n.seqStart).clk = n.clk ∧
    (n.seqStart).sul = n.sul ∧ (n.seqStart).lc = n.lc ∧ (n.seqStart).datums = n.datums ∧
    (n.seqStart).pta = n.pta ∧ (n.seqStart).hlt = n.hlt ∧ (n.seqStart).evl = n.evl ∧
    (n.seqStart).hlm = n.hlm := by
  unfold Node.seqStart
  repeat' split
  all_goals simp

@[simp] theorem lcStart_frame (n : Node) :
    (n.lcStart).pins = n.pins ∧ (n.lcStart).filters = n.filters ∧ (n.lcStart).clk = n.clk ∧
    (n.lcStart).sul = n.sul ∧ (n.lcStart).tsg = n.tsg ∧ (n.lcStart).datums = n.datums ∧
    (n.lcStart).exh = n.exh ∧ (n.lcStart).fbc = n.fbc ∧ (n.lcStart).pta = n.pta ∧
    (n.lcStart).cmu = n.cmu ∧ (n.lcStart).seq = n.seq ∧ (n.lcStart).hlt = n.hlt ∧
    (n.lcStart).evl = n.evl ∧ (n.lcStart).hlm = n.hlm := by
  unfold Node.lcStart
  repeat' split
  all_goals simp

@[simp] theorem endJog_frame (n : Node) :
    (n.endJog).pins = n.pins ∧ (n.endJog).filters = n.filters ∧ (n.endJog).clk = n.clk ∧
    (n.endJog).sul = n.sul ∧ (n.endJog).lc = n.lc ∧ (n.endJog).datums = n.datums ∧
    (n.endJog).exh = n.exh ∧ (n.endJog).fbc = n.fbc ∧ (n.endJog).pta = n.pta ∧ (n.endJog).cmu = n.cmu ∧
    (n.endJog).seq = n.seq ∧ (n.endJog).hlt = n.hlt ∧ (n.endJog).evl = n.evl ∧ (n.endJog).hlm = n.hlm := by
  unfold Node.endJog
  repeat' split
  all_goals simp

@[simp] theorem takenStart_frame (n : Node) :
    (n.takenStart).pins = n.pins ∧ (n.takenStart).filters = n.filters ∧ (n.takenStart).clk = n.clk ∧
    (n.takenStart).sul = n.sul ∧ (n.takenStart).pta = n.pta := by
  unfold Node.takenStart
  repeat' split
  all_goals simp

@[simp] theorem judgeStart_frame (n : Node) (testId : Nat) :
    (n.judgeStart testId).pins = n.pins ∧ (n.judgeStart testId).filters = n.filters ∧
    (n.judgeStart testId).clk = n.clk ∧ (n.judgeStart testId).sul = n.sul ∧
    (n.judgeStart testId).pta = n.pta := by
  unfold Node.judgeStart
  repeat' split
  all_goals simp

@[simp] theorem takeStart_frame (n : Node) (f : RxFrame) :
    (n.takeStart f).pins = n.pins ∧ (n.takeStart f).filters = n.filters ∧ (n.takeStart f).clk = n.clk ∧
    (n.takeStart f).sul = n.sul ∧ (n.takeStart f).pta = n.pta := by
  unfold Node.takeStart
  repeat' split
  all_goals simp

@[simp] theorem takePause_frame (n : Node) (x1 : RxFrame) :
    (n.takePause x1).pins = n.pins ∧ (n.takePause x1).filters = n.filters ∧
    (n.takePause x1).clk = n.clk ∧ (n.takePause x1).sul = n.sul ∧ (n.takePause x1).lc = n.lc ∧
    (n.takePause x1).datums = n.datums ∧ (n.takePause x1).pta = n.pta ∧ (n.takePause x1).hlt = n.hlt ∧
    (n.takePause x1).evl = n.evl ∧ (n.takePause x1).hlm = n.hlm := by
  unfold Node.takePause
  repeat' split
  all_goals simp

@[simp] theorem resumeRequest_frame (n : Node) :
    (n.resumeRequest).pins = n.pins ∧ (n.resumeRequest).filters = n.filters ∧
    (n.resumeRequest).clk = n.clk ∧ (n.resumeRequest).sul = n.sul ∧ (n.resumeRequest).lc = n.lc ∧
    (n.resumeRequest).datums = n.datums ∧ (n.resumeRequest).exh = n.exh ∧
    (n.resumeRequest).pta = n.pta ∧ (n.resumeRequest).hlt = n.hlt ∧ (n.resumeRequest).evl = n.evl ∧
    (n.resumeRequest).hlm = n.hlm := by
  unfold Node.resumeRequest
  repeat' split
  all_goals simp

@[simp] theorem resumed_frame (n : Node) :
    (n.resumed).pins = n.pins ∧ (n.resumed).filters = n.filters ∧ (n.resumed).clk = n.clk ∧
    (n.resumed).sul = n.sul ∧ (n.resumed).lc = n.lc ∧ (n.resumed).datums = n.datums ∧
    (n.resumed).pta = n.pta ∧ (n.resumed).hlt = n.hlt ∧ (n.resumed).hlm = n.hlm := by
  simp only [Node.resumed]
  repeat' split
  all_goals simp

@[simp] theorem takeResume_frame (n : Node) (x1 : RxFrame) :
    (n.takeResume x1).pins = n.pins ∧ (n.takeResume x1).filters = n.filters ∧
    (n.takeResume x1).clk = n.clk ∧ (n.takeResume x1).sul = n.sul ∧ (n.takeResume x1).lc = n.lc ∧
    (n.takeResume x1).datums = n.datums ∧ (n.takeResume x1).pta = n.pta ∧
    (n.takeResume x1).hlt = n.hlt ∧ (n.takeResume x1).hlm = n.hlm := by
  unfold Node.takeResume
  repeat' split
  all_goals simp

@[simp] theorem abortArmed_frame (n : Node) :
    (n.abortArmed).pins = n.pins ∧ (n.abortArmed).filters = n.filters ∧ (n.abortArmed).clk = n.clk ∧
    (n.abortArmed).sul = n.sul ∧ (n.abortArmed).lc = n.lc ∧ (n.abortArmed).datums = n.datums ∧
    (n.abortArmed).pta = n.pta ∧ (n.abortArmed).hlt = n.hlt ∧ (n.abortArmed).evl = n.evl ∧
    (n.abortArmed).hlm = n.hlm := by
  unfold Node.abortArmed
  repeat' split
  all_goals simp

@[simp] theorem abortHalted_frame (n : Node) :
    (n.abortHalted).pins = n.pins ∧ (n.abortHalted).filters = n.filters ∧ (n.abortHalted).clk = n.clk ∧
    (n.abortHalted).sul = n.sul ∧ (n.abortHalted).lc = n.lc ∧ (n.abortHalted).datums = n.datums ∧
    (n.abortHalted).pta = n.pta ∧ (n.abortHalted).hlm = n.hlm := by
  unfold Node.abortHalted
  repeat' split
  all_goals simp

@[simp] theorem takeAbort_frame (n : Node) (x1 : RxFrame) :
    (n.takeAbort x1).pins = n.pins ∧ (n.takeAbort x1).filters = n.filters ∧
    (n.takeAbort x1).clk = n.clk ∧ (n.takeAbort x1).sul = n.sul ∧ (n.takeAbort x1).lc = n.lc ∧
    (n.takeAbort x1).datums = n.datums ∧ (n.takeAbort x1).pta = n.pta ∧ (n.takeAbort x1).hlm = n.hlm := by
  unfold Node.takeAbort
  repeat' split
  all_goals simp

@[simp] theorem cleared_frame (n : Node) :
    (n.cleared).pins = n.pins ∧ (n.cleared).filters = n.filters ∧ (n.cleared).clk = n.clk ∧
    (n.cleared).sul = n.sul ∧ (n.cleared).datums = n.datums ∧ (n.cleared).pta = n.pta ∧
    (n.cleared).evl = n.evl ∧ (n.cleared).hlm = n.hlm := by
  unfold Node.cleared
  repeat' split
  all_goals simp

@[simp] theorem takeClear_frame (n : Node) (x1 : RxFrame) :
    (n.takeClear x1).pins = n.pins ∧ (n.takeClear x1).filters = n.filters ∧
    (n.takeClear x1).clk = n.clk ∧ (n.takeClear x1).sul = n.sul ∧ (n.takeClear x1).datums = n.datums ∧
    (n.takeClear x1).pta = n.pta ∧ (n.takeClear x1).evl = n.evl ∧ (n.takeClear x1).hlm = n.hlm := by
  unfold Node.takeClear
  repeat' split
  all_goals simp

@[simp] theorem toReady_frame (n : Node) :
    (n.toReady).pins = n.pins ∧ (n.toReady).filters = n.filters ∧ (n.toReady).clk = n.clk ∧
    (n.toReady).sul = n.sul ∧ (n.toReady).lc = n.lc ∧ (n.toReady).datums = n.datums ∧
    (n.toReady).pta = n.pta ∧ (n.toReady).hlt = n.hlt ∧ (n.toReady).evl = n.evl ∧
    (n.toReady).hlm = n.hlm := by
  unfold Node.toReady
  repeat' split
  all_goals simp

@[simp] theorem blocksReset_frame (n : Node) :
    (n.blocksReset).pins = n.pins ∧ (n.blocksReset).filters = n.filters ∧ (n.blocksReset).clk = n.clk ∧
    (n.blocksReset).sul = n.sul ∧ (n.blocksReset).seq = n.seq := by
  unfold Node.blocksReset
  repeat' split
  all_goals simp

@[simp] theorem frameReset_frame (n : Node) :
    (n.frameReset).pins = n.pins ∧ (n.frameReset).filters = n.filters ∧ (n.frameReset).clk = n.clk ∧
    (n.frameReset).sul = n.sul := by
  simp only [Node.frameReset]
  repeat' split
  all_goals simp

@[simp] theorem takeFrameReset_frame (n : Node) (x1 : RxFrame) :
    (n.takeFrameReset x1).pins = n.pins ∧ (n.takeFrameReset x1).filters = n.filters ∧
    (n.takeFrameReset x1).clk = n.clk ∧ (n.takeFrameReset x1).sul = n.sul := by
  unfold Node.takeFrameReset
  repeat' split
  all_goals simp

@[simp] theorem takeUnknown_frame (n : Node) (x1 : RxFrame) :
    (n.takeUnknown x1).pins = n.pins ∧ (n.takeUnknown x1).filters = n.filters ∧
    (n.takeUnknown x1).clk = n.clk ∧ (n.takeUnknown x1).sul = n.sul ∧ (n.takeUnknown x1).lc = n.lc ∧
    (n.takeUnknown x1).tsg = n.tsg ∧ (n.takeUnknown x1).datums = n.datums ∧
    (n.takeUnknown x1).exh = n.exh ∧ (n.takeUnknown x1).fbc = n.fbc ∧ (n.takeUnknown x1).pta = n.pta ∧
    (n.takeUnknown x1).cmu = n.cmu ∧ (n.takeUnknown x1).hlt = n.hlt ∧ (n.takeUnknown x1).evl = n.evl ∧
    (n.takeUnknown x1).hlm = n.hlm := by
  unfold Node.takeUnknown
  repeat' split
  all_goals simp

/-! ### Orders -/

@[simp] theorem dropOther_frame (n : Node) (testId : Nat) :
    (n.dropOther testId).pins = n.pins ∧ (n.dropOther testId).filters = n.filters ∧
    (n.dropOther testId).clk = n.clk ∧ (n.dropOther testId).sul = n.sul ∧
    (n.dropOther testId).lc = n.lc ∧ (n.dropOther testId).datums = n.datums ∧
    (n.dropOther testId).pta = n.pta ∧ (n.dropOther testId).hlt = n.hlt ∧
    (n.dropOther testId).evl = n.evl ∧ (n.dropOther testId).hlm = n.hlm := by
  unfold Node.dropOther
  repeat' split
  all_goals simp

@[simp] theorem setGauge_frame (n : Node) (o : Order) :
    (n.setGauge o).pins = n.pins ∧ (n.setGauge o).filters = n.filters ∧ (n.setGauge o).clk = n.clk ∧
    (n.setGauge o).sul = n.sul ∧ (n.setGauge o).lc = n.lc ∧ (n.setGauge o).tsg = n.tsg ∧
    (n.setGauge o).datums = n.datums ∧ (n.setGauge o).fbc = n.fbc ∧ (n.setGauge o).pta = n.pta ∧
    (n.setGauge o).cmu = n.cmu ∧ (n.setGauge o).seq = n.seq ∧ (n.setGauge o).hlt = n.hlt ∧
    (n.setGauge o).evl = n.evl ∧ (n.setGauge o).hlm = n.hlm := by
  unfold Node.setGauge
  repeat' split
  all_goals simp

@[simp] theorem putPart_frame (n : Node) (testId : Nat) (x : OrderPart) :
    (n.putPart testId x).pins = n.pins ∧ (n.putPart testId x).filters = n.filters ∧
    (n.putPart testId x).clk = n.clk ∧ (n.putPart testId x).sul = n.sul ∧
    (n.putPart testId x).lc = n.lc ∧ (n.putPart testId x).datums = n.datums ∧
    (n.putPart testId x).pta = n.pta ∧ (n.putPart testId x).hlt = n.hlt ∧
    (n.putPart testId x).evl = n.evl ∧ (n.putPart testId x).hlm = n.hlm := by
  simp only [Node.putPart]
  repeat' split
  all_goals simp

@[simp] theorem takeOrder_frame (n : Node) (f : RxFrame) :
    (n.takeOrder f).pins = n.pins ∧ (n.takeOrder f).filters = n.filters ∧ (n.takeOrder f).clk = n.clk ∧
    (n.takeOrder f).sul = n.sul ∧ (n.takeOrder f).lc = n.lc ∧ (n.takeOrder f).datums = n.datums ∧
    (n.takeOrder f).pta = n.pta ∧ (n.takeOrder f).hlt = n.hlt ∧ (n.takeOrder f).evl = n.evl ∧
    (n.takeOrder f).hlm = n.hlm := by
  simp only [Node.takeOrder]
  repeat' split
  all_goals simp

@[simp] theorem loadSegment_frame (n : Node) (i : Fin 32) (f : SegFields) :
    (n.loadSegment i f).pins = n.pins ∧ (n.loadSegment i f).filters = n.filters ∧
    (n.loadSegment i f).clk = n.clk ∧ (n.loadSegment i f).sul = n.sul ∧ (n.loadSegment i f).lc = n.lc ∧
    (n.loadSegment i f).datums = n.datums ∧ (n.loadSegment i f).pta = n.pta ∧
    (n.loadSegment i f).hlt = n.hlt ∧ (n.loadSegment i f).hlm = n.hlm := by
  simp only [Node.loadSegment]
  repeat' split
  all_goals simp

@[simp] theorem judgeSegment_frame (n : Node) (p : List Byte) :
    (n.judgeSegment p).pins = n.pins ∧ (n.judgeSegment p).filters = n.filters ∧
    (n.judgeSegment p).clk = n.clk ∧ (n.judgeSegment p).sul = n.sul ∧ (n.judgeSegment p).lc = n.lc ∧
    (n.judgeSegment p).datums = n.datums ∧ (n.judgeSegment p).pta = n.pta ∧
    (n.judgeSegment p).hlt = n.hlt ∧ (n.judgeSegment p).hlm = n.hlm := by
  unfold Node.judgeSegment
  repeat' split
  all_goals simp

@[simp] theorem takeSegment_frame (n : Node) (f : RxFrame) :
    (n.takeSegment f).pins = n.pins ∧ (n.takeSegment f).filters = n.filters ∧
    (n.takeSegment f).clk = n.clk ∧ (n.takeSegment f).sul = n.sul ∧ (n.takeSegment f).lc = n.lc ∧
    (n.takeSegment f).datums = n.datums ∧ (n.takeSegment f).pta = n.pta ∧
    (n.takeSegment f).hlt = n.hlt ∧ (n.takeSegment f).hlm = n.hlm := by
  unfold Node.takeSegment
  repeat' split
  all_goals simp

/-! ### BlockCommands -/

@[simp] theorem startZero_frame (n : Node) :
    (n.startZero).pins = n.pins ∧ (n.startZero).filters = n.filters ∧ (n.startZero).clk = n.clk ∧
    (n.startZero).sul = n.sul ∧ (n.startZero).tsg = n.tsg ∧ (n.startZero).datums = n.datums ∧
    (n.startZero).fbc = n.fbc ∧ (n.startZero).pta = n.pta ∧ (n.startZero).cmu = n.cmu ∧
    (n.startZero).seq = n.seq ∧ (n.startZero).hlt = n.hlt ∧ (n.startZero).evl = n.evl ∧
    (n.startZero).hlm = n.hlm := by
  unfold Node.startZero
  repeat' split
  all_goals simp

@[simp] theorem takeZero_frame (n : Node) (x1 : RxFrame) :
    (n.takeZero x1).pins = n.pins ∧ (n.takeZero x1).filters = n.filters ∧ (n.takeZero x1).clk = n.clk ∧
    (n.takeZero x1).sul = n.sul ∧ (n.takeZero x1).tsg = n.tsg ∧ (n.takeZero x1).datums = n.datums ∧
    (n.takeZero x1).fbc = n.fbc ∧ (n.takeZero x1).pta = n.pta ∧ (n.takeZero x1).cmu = n.cmu ∧
    (n.takeZero x1).hlt = n.hlt ∧ (n.takeZero x1).evl = n.evl ∧ (n.takeZero x1).hlm = n.hlm := by
  unfold Node.takeZero
  repeat' split
  all_goals simp

@[simp] theorem takeBalance_frame (n : Node) (x1 : RxFrame) :
    (n.takeBalance x1).pins = n.pins ∧ (n.takeBalance x1).filters = n.filters ∧
    (n.takeBalance x1).clk = n.clk ∧ (n.takeBalance x1).sul = n.sul ∧ (n.takeBalance x1).tsg = n.tsg ∧
    (n.takeBalance x1).datums = n.datums ∧ (n.takeBalance x1).exh = n.exh ∧
    (n.takeBalance x1).fbc = n.fbc ∧ (n.takeBalance x1).pta = n.pta ∧ (n.takeBalance x1).cmu = n.cmu ∧
    (n.takeBalance x1).hlt = n.hlt ∧ (n.takeBalance x1).evl = n.evl ∧ (n.takeBalance x1).hlm = n.hlm := by
  unfold Node.takeBalance
  repeat' split
  all_goals simp

@[simp] theorem startJog_frame (n : Node) (v : Int) :
    (n.startJog v).pins = n.pins ∧ (n.startJog v).filters = n.filters ∧ (n.startJog v).clk = n.clk ∧
    (n.startJog v).sul = n.sul ∧ (n.startJog v).lc = n.lc ∧ (n.startJog v).datums = n.datums ∧
    (n.startJog v).exh = n.exh ∧ (n.startJog v).fbc = n.fbc ∧ (n.startJog v).pta = n.pta ∧
    (n.startJog v).cmu = n.cmu ∧ (n.startJog v).seq = n.seq ∧ (n.startJog v).hlt = n.hlt ∧
    (n.startJog v).evl = n.evl ∧ (n.startJog v).hlm = n.hlm := by
  unfold Node.startJog
  repeat' split
  all_goals simp

@[simp] theorem judgeJog_frame (n : Node) (v : Int) :
    (n.judgeJog v).pins = n.pins ∧ (n.judgeJog v).filters = n.filters ∧ (n.judgeJog v).clk = n.clk ∧
    (n.judgeJog v).sul = n.sul ∧ (n.judgeJog v).lc = n.lc ∧ (n.judgeJog v).datums = n.datums ∧
    (n.judgeJog v).exh = n.exh ∧ (n.judgeJog v).fbc = n.fbc ∧ (n.judgeJog v).pta = n.pta ∧
    (n.judgeJog v).cmu = n.cmu ∧ (n.judgeJog v).hlt = n.hlt ∧ (n.judgeJog v).evl = n.evl ∧
    (n.judgeJog v).hlm = n.hlm := by
  unfold Node.judgeJog
  repeat' split
  all_goals simp

@[simp] theorem takeJog_frame (n : Node) (f : RxFrame) :
    (n.takeJog f).pins = n.pins ∧ (n.takeJog f).filters = n.filters ∧ (n.takeJog f).clk = n.clk ∧
    (n.takeJog f).sul = n.sul ∧ (n.takeJog f).lc = n.lc ∧ (n.takeJog f).datums = n.datums ∧
    (n.takeJog f).exh = n.exh ∧ (n.takeJog f).fbc = n.fbc ∧ (n.takeJog f).pta = n.pta ∧
    (n.takeJog f).cmu = n.cmu ∧ (n.takeJog f).hlt = n.hlt ∧ (n.takeJog f).evl = n.evl ∧
    (n.takeJog f).hlm = n.hlm := by
  unfold Node.takeJog
  repeat' split
  all_goals simp

@[simp] theorem takeStopJog_frame (n : Node) (x1 : RxFrame) :
    (n.takeStopJog x1).pins = n.pins ∧ (n.takeStopJog x1).filters = n.filters ∧
    (n.takeStopJog x1).clk = n.clk ∧ (n.takeStopJog x1).sul = n.sul ∧ (n.takeStopJog x1).lc = n.lc ∧
    (n.takeStopJog x1).datums = n.datums ∧ (n.takeStopJog x1).exh = n.exh ∧
    (n.takeStopJog x1).fbc = n.fbc ∧ (n.takeStopJog x1).pta = n.pta ∧ (n.takeStopJog x1).cmu = n.cmu ∧
    (n.takeStopJog x1).hlt = n.hlt ∧ (n.takeStopJog x1).evl = n.evl ∧ (n.takeStopJog x1).hlm = n.hlm := by
  unfold Node.takeStopJog
  repeat' split
  all_goals simp

/-! ### Queries -/

@[simp] theorem clearGap_frame (n : Node) (id : Fin 16) (page : Nat) :
    (n.clearGap id page).pins = n.pins ∧ (n.clearGap id page).filters = n.filters ∧
    (n.clearGap id page).clk = n.clk ∧ (n.clearGap id page).sul = n.sul ∧
    (n.clearGap id page).lc = n.lc ∧ (n.clearGap id page).tsg = n.tsg ∧
    (n.clearGap id page).datums = n.datums ∧ (n.clearGap id page).exh = n.exh ∧
    (n.clearGap id page).fbc = n.fbc ∧ (n.clearGap id page).cmu = n.cmu ∧
    (n.clearGap id page).seq = n.seq ∧ (n.clearGap id page).hlt = n.hlt ∧
    (n.clearGap id page).evl = n.evl ∧ (n.clearGap id page).hlm = n.hlm := by
  unfold Node.clearGap
  repeat' split
  all_goals simp

@[simp] theorem reply_frame (n : Node) (f : RxFrame) (contents : List Byte) :
    (n.reply f contents).pins = n.pins ∧ (n.reply f contents).filters = n.filters ∧
    (n.reply f contents).clk = n.clk ∧ (n.reply f contents).sul = n.sul ∧
    (n.reply f contents).lc = n.lc ∧ (n.reply f contents).tsg = n.tsg ∧
    (n.reply f contents).datums = n.datums ∧ (n.reply f contents).exh = n.exh ∧
    (n.reply f contents).pta = n.pta ∧ (n.reply f contents).cmu = n.cmu ∧
    (n.reply f contents).seq = n.seq ∧ (n.reply f contents).hlt = n.hlt ∧
    (n.reply f contents).evl = n.evl ∧ (n.reply f contents).hlm = n.hlm := by
  unfold Node.reply
  repeat' split
  all_goals simp

@[simp] theorem takeStatus_frame (n : Node) (f : RxFrame) :
    (n.takeStatus f).pins = n.pins ∧ (n.takeStatus f).filters = n.filters ∧
    (n.takeStatus f).clk = n.clk ∧ (n.takeStatus f).sul = n.sul ∧ (n.takeStatus f).lc = n.lc ∧
    (n.takeStatus f).tsg = n.tsg ∧ (n.takeStatus f).datums = n.datums ∧ (n.takeStatus f).exh = n.exh ∧
    (n.takeStatus f).pta = n.pta ∧ (n.takeStatus f).cmu = n.cmu ∧ (n.takeStatus f).seq = n.seq ∧
    (n.takeStatus f).hlt = n.hlt ∧ (n.takeStatus f).evl = n.evl ∧ (n.takeStatus f).hlm = n.hlm := by
  unfold Node.takeStatus
  repeat' split
  all_goals simp

@[simp] theorem takeSegmentQuery_frame (n : Node) (f : RxFrame) :
    (n.takeSegmentQuery f).pins = n.pins ∧ (n.takeSegmentQuery f).filters = n.filters ∧
    (n.takeSegmentQuery f).clk = n.clk ∧ (n.takeSegmentQuery f).sul = n.sul ∧
    (n.takeSegmentQuery f).lc = n.lc ∧ (n.takeSegmentQuery f).tsg = n.tsg ∧
    (n.takeSegmentQuery f).datums = n.datums ∧ (n.takeSegmentQuery f).exh = n.exh ∧
    (n.takeSegmentQuery f).pta = n.pta ∧ (n.takeSegmentQuery f).cmu = n.cmu ∧
    (n.takeSegmentQuery f).seq = n.seq ∧ (n.takeSegmentQuery f).hlt = n.hlt ∧
    (n.takeSegmentQuery f).evl = n.evl ∧ (n.takeSegmentQuery f).hlm = n.hlm := by
  unfold Node.takeSegmentQuery
  repeat' split
  all_goals simp

@[simp] theorem takeResultQuery_frame (n : Node) (f : RxFrame) :
    (n.takeResultQuery f).pins = n.pins ∧ (n.takeResultQuery f).filters = n.filters ∧
    (n.takeResultQuery f).clk = n.clk ∧ (n.takeResultQuery f).sul = n.sul ∧
    (n.takeResultQuery f).lc = n.lc ∧ (n.takeResultQuery f).tsg = n.tsg ∧
    (n.takeResultQuery f).datums = n.datums ∧ (n.takeResultQuery f).exh = n.exh ∧
    (n.takeResultQuery f).pta = n.pta ∧ (n.takeResultQuery f).cmu = n.cmu ∧
    (n.takeResultQuery f).seq = n.seq ∧ (n.takeResultQuery f).hlt = n.hlt ∧
    (n.takeResultQuery f).evl = n.evl ∧ (n.takeResultQuery f).hlm = n.hlm := by
  unfold Node.takeResultQuery
  repeat' split
  all_goals simp

@[simp] theorem takeHealthQuery_frame (n : Node) (f : RxFrame) :
    (n.takeHealthQuery f).pins = n.pins ∧ (n.takeHealthQuery f).filters = n.filters ∧
    (n.takeHealthQuery f).clk = n.clk ∧ (n.takeHealthQuery f).sul = n.sul ∧
    (n.takeHealthQuery f).lc = n.lc ∧ (n.takeHealthQuery f).tsg = n.tsg ∧
    (n.takeHealthQuery f).datums = n.datums ∧ (n.takeHealthQuery f).exh = n.exh ∧
    (n.takeHealthQuery f).pta = n.pta ∧ (n.takeHealthQuery f).cmu = n.cmu ∧
    (n.takeHealthQuery f).seq = n.seq ∧ (n.takeHealthQuery f).hlt = n.hlt ∧
    (n.takeHealthQuery f).evl = n.evl ∧ (n.takeHealthQuery f).hlm = n.hlm := by
  unfold Node.takeHealthQuery
  repeat' split
  all_goals simp

@[simp] theorem takePeerQuery_frame (n : Node) (f : RxFrame) :
    (n.takePeerQuery f).pins = n.pins ∧ (n.takePeerQuery f).filters = n.filters ∧
    (n.takePeerQuery f).clk = n.clk ∧ (n.takePeerQuery f).sul = n.sul ∧ (n.takePeerQuery f).lc = n.lc ∧
    (n.takePeerQuery f).tsg = n.tsg ∧ (n.takePeerQuery f).datums = n.datums ∧
    (n.takePeerQuery f).exh = n.exh ∧ (n.takePeerQuery f).cmu = n.cmu ∧
    (n.takePeerQuery f).seq = n.seq ∧ (n.takePeerQuery f).hlt = n.hlt ∧
    (n.takePeerQuery f).evl = n.evl ∧ (n.takePeerQuery f).hlm = n.hlm := by
  unfold Node.takePeerQuery
  repeat' split
  all_goals simp

@[simp] theorem takeRefused_frame (n : Node) (f : RxFrame) :
    (n.takeRefused f).pins = n.pins ∧ (n.takeRefused f).filters = n.filters ∧
    (n.takeRefused f).clk = n.clk ∧ (n.takeRefused f).sul = n.sul ∧ (n.takeRefused f).lc = n.lc ∧
    (n.takeRefused f).tsg = n.tsg ∧ (n.takeRefused f).datums = n.datums ∧
    (n.takeRefused f).exh = n.exh ∧ (n.takeRefused f).pta = n.pta ∧ (n.takeRefused f).cmu = n.cmu ∧
    (n.takeRefused f).seq = n.seq ∧ (n.takeRefused f).hlt = n.hlt ∧ (n.takeRefused f).evl = n.evl ∧
    (n.takeRefused f).hlm = n.hlm := by
  unfold Node.takeRefused
  repeat' split
  all_goals simp

/-! ### BusEvents -/

@[simp] theorem runStart_frame (n : Node) :
    (n.runStart).pins = n.pins ∧ (n.runStart).filters = n.filters ∧ (n.runStart).clk = n.clk ∧
    (n.runStart).sul = n.sul ∧ (n.runStart).lc = n.lc ∧ (n.runStart).tsg = n.tsg ∧
    (n.runStart).datums = n.datums ∧ (n.runStart).exh = n.exh ∧ (n.runStart).pta = n.pta ∧
    (n.runStart).cmu = n.cmu ∧ (n.runStart).seq = n.seq ∧ (n.runStart).hlt = n.hlt ∧
    (n.runStart).evl = n.evl ∧ (n.runStart).hlm = n.hlm := by
  unfold Node.runStart
  repeat' split
  all_goals simp

@[simp] theorem skippingEnd_frame (n : Node) :
    (n.skippingEnd).pins = n.pins ∧ (n.skippingEnd).filters = n.filters ∧ (n.skippingEnd).clk = n.clk ∧
    (n.skippingEnd).sul = n.sul ∧ (n.skippingEnd).lc = n.lc ∧ (n.skippingEnd).tsg = n.tsg ∧
    (n.skippingEnd).datums = n.datums ∧ (n.skippingEnd).exh = n.exh ∧ (n.skippingEnd).pta = n.pta ∧
    (n.skippingEnd).cmu = n.cmu ∧ (n.skippingEnd).seq = n.seq ∧ (n.skippingEnd).hlt = n.hlt ∧
    (n.skippingEnd).evl = n.evl ∧ (n.skippingEnd).hlm = n.hlm := by
  unfold Node.skippingEnd
  repeat' split
  all_goals simp

@[simp] theorem receiveError_frame (n : Node) (e : ReceiveError) :
    (n.receiveError e).pins = n.pins ∧ (n.receiveError e).filters = n.filters ∧
    (n.receiveError e).clk = n.clk ∧ (n.receiveError e).sul = n.sul ∧ (n.receiveError e).lc = n.lc ∧
    (n.receiveError e).tsg = n.tsg ∧ (n.receiveError e).datums = n.datums ∧
    (n.receiveError e).exh = n.exh ∧ (n.receiveError e).pta = n.pta ∧ (n.receiveError e).cmu = n.cmu ∧
    (n.receiveError e).seq = n.seq ∧ (n.receiveError e).hlt = n.hlt ∧ (n.receiveError e).evl = n.evl := by
  unfold Node.receiveError
  repeat' split
  all_goals simp

@[simp] theorem enqueue_frame (n : Node) (k : MsgKind) (f : RxFrame) :
    (n.enqueue k f).pins = n.pins ∧ (n.enqueue k f).filters = n.filters ∧ (n.enqueue k f).clk = n.clk ∧
    (n.enqueue k f).sul = n.sul ∧ (n.enqueue k f).lc = n.lc ∧ (n.enqueue k f).tsg = n.tsg ∧
    (n.enqueue k f).datums = n.datums ∧ (n.enqueue k f).exh = n.exh ∧ (n.enqueue k f).pta = n.pta ∧
    (n.enqueue k f).cmu = n.cmu ∧ (n.enqueue k f).seq = n.seq ∧ (n.enqueue k f).hlt = n.hlt ∧
    (n.enqueue k f).evl = n.evl := by
  unfold Node.enqueue
  repeat' split
  all_goals simp

@[simp] theorem hearPeer_frame (n : Node) (h : Header) (p : List Byte) :
    (n.hearPeer h p).pins = n.pins ∧ (n.hearPeer h p).filters = n.filters ∧
    (n.hearPeer h p).clk = n.clk ∧ (n.hearPeer h p).sul = n.sul ∧ (n.hearPeer h p).lc = n.lc ∧
    (n.hearPeer h p).tsg = n.tsg ∧ (n.hearPeer h p).datums = n.datums ∧ (n.hearPeer h p).exh = n.exh ∧
    (n.hearPeer h p).pta = n.pta ∧ (n.hearPeer h p).cmu = n.cmu ∧ (n.hearPeer h p).seq = n.seq ∧
    (n.hearPeer h p).hlt = n.hlt ∧ (n.hearPeer h p).evl = n.evl := by
  unfold Node.hearPeer
  repeat' split
  all_goals simp

@[simp] theorem hearOwn_frame (n : Node) :
    (n.hearOwn).pins = n.pins ∧ (n.hearOwn).filters = n.filters ∧ (n.hearOwn).clk = n.clk ∧
    (n.hearOwn).sul = n.sul ∧ (n.hearOwn).lc = n.lc ∧ (n.hearOwn).datums = n.datums ∧
    (n.hearOwn).pta = n.pta ∧ (n.hearOwn).hlm = n.hlm := by
  unfold Node.hearOwn
  repeat' split
  all_goals simp

@[simp] theorem completeFrame_frame (n : Node) (h : Header) (p : List Byte) :
    (n.completeFrame h p).pins = n.pins ∧ (n.completeFrame h p).filters = n.filters ∧
    (n.completeFrame h p).clk = n.clk ∧ (n.completeFrame h p).sul = n.sul ∧
    (n.completeFrame h p).lc = n.lc ∧ (n.completeFrame h p).datums = n.datums ∧
    (n.completeFrame h p).pta = n.pta := by
  simp only [Node.completeFrame]
  repeat' split
  all_goals simp

@[simp] theorem receive_frame (n : Node) (chars : List Byte) :
    (n.receive chars).pins = n.pins ∧ (n.receive chars).filters = n.filters ∧
    (n.receive chars).clk = n.clk ∧ (n.receive chars).sul = n.sul ∧ (n.receive chars).lc = n.lc ∧
    (n.receive chars).datums = n.datums ∧ (n.receive chars).pta = n.pta := by
  unfold Node.receive
  repeat' split
  all_goals simp

@[simp] theorem attemptStart_frame (n : Node) :
    (n.attemptStart).pins = n.pins ∧ (n.attemptStart).filters = n.filters ∧
    (n.attemptStart).clk = n.clk ∧ (n.attemptStart).sul = n.sul ∧ (n.attemptStart).lc = n.lc ∧
    (n.attemptStart).tsg = n.tsg ∧ (n.attemptStart).datums = n.datums ∧ (n.attemptStart).exh = n.exh ∧
    (n.attemptStart).pta = n.pta ∧ (n.attemptStart).cmu = n.cmu ∧ (n.attemptStart).seq = n.seq ∧
    (n.attemptStart).hlt = n.hlt ∧ (n.attemptStart).evl = n.evl ∧ (n.attemptStart).hlm = n.hlm := by
  unfold Node.attemptStart
  repeat' split
  all_goals simp

@[simp] theorem attemptEnd_frame (n : Node) (readBack : List LineChar) :
    (n.attemptEnd readBack).pins = n.pins ∧ (n.attemptEnd readBack).filters = n.filters ∧
    (n.attemptEnd readBack).clk = n.clk ∧ (n.attemptEnd readBack).sul = n.sul ∧
    (n.attemptEnd readBack).lc = n.lc ∧ (n.attemptEnd readBack).tsg = n.tsg ∧
    (n.attemptEnd readBack).datums = n.datums ∧ (n.attemptEnd readBack).exh = n.exh ∧
    (n.attemptEnd readBack).pta = n.pta ∧ (n.attemptEnd readBack).cmu = n.cmu ∧
    (n.attemptEnd readBack).seq = n.seq ∧ (n.attemptEnd readBack).hlt = n.hlt ∧
    (n.attemptEnd readBack).evl = n.evl := by
  unfold Node.attemptEnd
  repeat' split
  all_goals simp

@[simp] theorem windowPasses_frame (n : Node) (c : FrameClass) :
    (n.windowPasses c).pins = n.pins ∧ (n.windowPasses c).filters = n.filters ∧
    (n.windowPasses c).clk = n.clk ∧ (n.windowPasses c).sul = n.sul ∧ (n.windowPasses c).lc = n.lc ∧
    (n.windowPasses c).tsg = n.tsg ∧ (n.windowPasses c).datums = n.datums ∧
    (n.windowPasses c).exh = n.exh ∧ (n.windowPasses c).pta = n.pta ∧ (n.windowPasses c).cmu = n.cmu ∧
    (n.windowPasses c).seq = n.seq ∧ (n.windowPasses c).hlt = n.hlt ∧ (n.windowPasses c).evl = n.evl ∧
    (n.windowPasses c).hlm = n.hlm := by
  unfold Node.windowPasses
  repeat' split
  all_goals simp

@[simp] theorem pendingEntry_frame (n : Node) :
    (n.pendingEntry).pins = n.pins ∧ (n.pendingEntry).filters = n.filters ∧
    (n.pendingEntry).clk = n.clk ∧ (n.pendingEntry).sul = n.sul ∧ (n.pendingEntry).lc = n.lc ∧
    (n.pendingEntry).tsg = n.tsg ∧ (n.pendingEntry).datums = n.datums ∧ (n.pendingEntry).exh = n.exh ∧
    (n.pendingEntry).pta = n.pta ∧ (n.pendingEntry).cmu = n.cmu ∧ (n.pendingEntry).seq = n.seq ∧
    (n.pendingEntry).hlt = n.hlt ∧ (n.pendingEntry).evl = n.evl ∧ (n.pendingEntry).hlm = n.hlm := by
  unfold Node.pendingEntry
  repeat' split
  all_goals simp

/-! ### PeerEvents -/

@[simp] theorem factsArrive_frame (n : Node) :
    (n.factsArrive).pins = n.pins ∧ (n.factsArrive).filters = n.filters ∧ (n.factsArrive).clk = n.clk ∧
    (n.factsArrive).sul = n.sul ∧ (n.factsArrive).lc = n.lc ∧ (n.factsArrive).tsg = n.tsg ∧
    (n.factsArrive).datums = n.datums ∧ (n.factsArrive).exh = n.exh ∧ (n.factsArrive).cmu = n.cmu ∧
    (n.factsArrive).seq = n.seq ∧ (n.factsArrive).hlt = n.hlt ∧ (n.factsArrive).evl = n.evl ∧
    (n.factsArrive).hlm = n.hlm := by
  unfold Node.factsArrive
  repeat' split
  all_goals simp

@[simp] theorem takeSample_frame (n : Node) (f : RxFrame) :
    (n.takeSample f).pins = n.pins ∧ (n.takeSample f).filters = n.filters ∧
    (n.takeSample f).clk = n.clk ∧ (n.takeSample f).sul = n.sul ∧ (n.takeSample f).lc = n.lc ∧
    (n.takeSample f).hlt = n.hlt ∧ (n.takeSample f).hlm = n.hlm := by
  unfold Node.takeSample
  split
  · rename_i i _
    have h := judgeSample_frame n i f
    split <;> simp_all
  · simp

@[simp] theorem reseedTimer_frame (n : Node) (i : Fin 16) :
    (n.reseedTimer i).pins = n.pins ∧ (n.reseedTimer i).filters = n.filters ∧
    (n.reseedTimer i).clk = n.clk ∧ (n.reseedTimer i).sul = n.sul ∧ (n.reseedTimer i).lc = n.lc ∧
    (n.reseedTimer i).tsg = n.tsg ∧ (n.reseedTimer i).datums = n.datums ∧
    (n.reseedTimer i).exh = n.exh ∧ (n.reseedTimer i).fbc = n.fbc ∧ (n.reseedTimer i).cmu = n.cmu ∧
    (n.reseedTimer i).seq = n.seq ∧ (n.reseedTimer i).hlt = n.hlt ∧ (n.reseedTimer i).evl = n.evl ∧
    (n.reseedTimer i).hlm = n.hlm := by
  unfold Node.reseedTimer
  repeat' split
  all_goals simp

@[simp] theorem silenceTimer_frame (n : Node) (i : Fin 16) :
    (n.silenceTimer i).pins = n.pins ∧ (n.silenceTimer i).filters = n.filters ∧
    (n.silenceTimer i).clk = n.clk ∧ (n.silenceTimer i).sul = n.sul ∧ (n.silenceTimer i).lc = n.lc ∧
    (n.silenceTimer i).tsg = n.tsg ∧ (n.silenceTimer i).datums = n.datums ∧
    (n.silenceTimer i).exh = n.exh ∧ (n.silenceTimer i).fbc = n.fbc ∧ (n.silenceTimer i).cmu = n.cmu ∧
    (n.silenceTimer i).seq = n.seq ∧ (n.silenceTimer i).hlt = n.hlt ∧ (n.silenceTimer i).evl = n.evl ∧
    (n.silenceTimer i).hlm = n.hlm := by
  unfold Node.silenceTimer
  repeat' split
  all_goals simp

@[simp] theorem partnerStale_frame (n : Node) :
    (n.partnerStale).pins = n.pins ∧ (n.partnerStale).filters = n.filters ∧
    (n.partnerStale).clk = n.clk ∧ (n.partnerStale).sul = n.sul ∧ (n.partnerStale).lc = n.lc ∧
    (n.partnerStale).datums = n.datums ∧ (n.partnerStale).pta = n.pta ∧ (n.partnerStale).hlm = n.hlm := by
  unfold Node.partnerStale
  repeat' split
  all_goals simp

@[simp] theorem deliverStale_frame (n : Node) (i : Fin 4) :
    (n.deliverStale i).pins = n.pins ∧ (n.deliverStale i).filters = n.filters ∧
    (n.deliverStale i).clk = n.clk ∧ (n.deliverStale i).sul = n.sul ∧ (n.deliverStale i).lc = n.lc ∧
    (n.deliverStale i).datums = n.datums ∧ (n.deliverStale i).pta = n.pta ∧
    (n.deliverStale i).hlm = n.hlm := by
  unfold Node.deliverStale
  repeat' split
  all_goals simp

@[simp] theorem stalenessTimer_frame (n : Node) (i : Fin 4) :
    (n.stalenessTimer i).pins = n.pins ∧ (n.stalenessTimer i).filters = n.filters ∧
    (n.stalenessTimer i).clk = n.clk ∧ (n.stalenessTimer i).sul = n.sul ∧
    (n.stalenessTimer i).lc = n.lc ∧ (n.stalenessTimer i).datums = n.datums ∧
    (n.stalenessTimer i).hlm = n.hlm := by
  unfold Node.stalenessTimer
  repeat' split
  all_goals simp

/-! ### MeasureEvents -/

@[simp] theorem imageComplete_frame (n : Node) (image : List Byte) :
    (n.imageComplete image).pins = n.pins ∧ (n.imageComplete image).datums = n.datums ∧
    (n.imageComplete image).cmu = n.cmu ∧ (n.imageComplete image).evl = n.evl := by
  unfold Node.imageComplete
  repeat' split
  all_goals simp

@[simp] theorem conversion_frame (n : Node) (code : Int) :
    (n.conversion code).filters = n.filters ∧ (n.conversion code).clk = n.clk ∧
    (n.conversion code).sul = n.sul ∧ (n.conversion code).datums = n.datums ∧
    (n.conversion code).pta = n.pta := by
  unfold Node.conversion
  repeat' split
  all_goals simp

@[simp] theorem encoderEvent_frame (n : Node) (a b : Bool) :
    (n.encoderEvent a b).clk = n.clk ∧ (n.encoderEvent a b).sul = n.sul ∧
    (n.encoderEvent a b).lc = n.lc ∧ (n.encoderEvent a b).datums = n.datums ∧
    (n.encoderEvent a b).pta = n.pta ∧ (n.encoderEvent a b).hlm = n.hlm := by
  unfold Node.encoderEvent
  repeat' split
  all_goals simp

@[simp] theorem pacerExpiry_frame (n : Node) (lo hi : Bool) :
    (n.pacerExpiry lo hi).filters = n.filters ∧ (n.pacerExpiry lo hi).clk = n.clk ∧
    (n.pacerExpiry lo hi).sul = n.sul ∧ (n.pacerExpiry lo hi).lc = n.lc ∧
    (n.pacerExpiry lo hi).datums = n.datums ∧ (n.pacerExpiry lo hi).pta = n.pta := by
  unfold Node.pacerExpiry
  repeat' split
  all_goals simp

@[simp] theorem genUnderflow_frame (n : Node) :
    (n.genUnderflow).pins = n.pins ∧ (n.genUnderflow).filters = n.filters ∧
    (n.genUnderflow).clk = n.clk ∧ (n.genUnderflow).sul = n.sul ∧ (n.genUnderflow).lc = n.lc ∧
    (n.genUnderflow).datums = n.datums ∧ (n.genUnderflow).exh = n.exh ∧ (n.genUnderflow).fbc = n.fbc ∧
    (n.genUnderflow).pta = n.pta ∧ (n.genUnderflow).cmu = n.cmu ∧ (n.genUnderflow).seq = n.seq ∧
    (n.genUnderflow).hlt = n.hlt ∧ (n.genUnderflow).evl = n.evl ∧ (n.genUnderflow).hlm = n.hlm := by
  unfold Node.genUnderflow
  repeat' split
  all_goals simp

@[simp] theorem genPulseEnd_frame (n : Node) :
    (n.genPulseEnd).pins = n.pins ∧ (n.genPulseEnd).filters = n.filters ∧ (n.genPulseEnd).clk = n.clk ∧
    (n.genPulseEnd).sul = n.sul ∧ (n.genPulseEnd).lc = n.lc ∧ (n.genPulseEnd).datums = n.datums ∧
    (n.genPulseEnd).exh = n.exh ∧ (n.genPulseEnd).fbc = n.fbc ∧ (n.genPulseEnd).pta = n.pta ∧
    (n.genPulseEnd).cmu = n.cmu ∧ (n.genPulseEnd).seq = n.seq ∧ (n.genPulseEnd).hlt = n.hlt ∧
    (n.genPulseEnd).evl = n.evl ∧ (n.genPulseEnd).hlm = n.hlm := by
  unfold Node.genPulseEnd
  repeat' split
  all_goals simp

@[simp] theorem runDownTimer_frame (n : Node) :
    (n.runDownTimer).pins = n.pins ∧ (n.runDownTimer).filters = n.filters ∧
    (n.runDownTimer).clk = n.clk ∧ (n.runDownTimer).sul = n.sul ∧ (n.runDownTimer).lc = n.lc ∧
    (n.runDownTimer).datums = n.datums ∧ (n.runDownTimer).exh = n.exh ∧ (n.runDownTimer).fbc = n.fbc ∧
    (n.runDownTimer).pta = n.pta ∧ (n.runDownTimer).cmu = n.cmu ∧ (n.runDownTimer).seq = n.seq ∧
    (n.runDownTimer).hlt = n.hlt ∧ (n.runDownTimer).evl = n.evl ∧ (n.runDownTimer).hlm = n.hlm := by
  unfold Node.runDownTimer
  repeat' split
  all_goals simp

@[simp] theorem acceptArm_frame (n : Node) (arm : Arm) (a b : Bool) :
    (n.acceptArm arm a b).clk = n.clk ∧ (n.acceptArm arm a b).sul = n.sul ∧
    (n.acceptArm arm a b).lc = n.lc ∧ (n.acceptArm arm a b).tsg = n.tsg ∧
    (n.acceptArm arm a b).datums = n.datums ∧ (n.acceptArm arm a b).exh = n.exh ∧
    (n.acceptArm arm a b).fbc = n.fbc ∧ (n.acceptArm arm a b).pta = n.pta ∧
    (n.acceptArm arm a b).cmu = n.cmu ∧ (n.acceptArm arm a b).seq = n.seq ∧
    (n.acceptArm arm a b).hlt = n.hlt ∧ (n.acceptArm arm a b).evl = n.evl ∧
    (n.acceptArm arm a b).hlm = n.hlm := by
  unfold Node.acceptArm
  repeat' split
  all_goals simp

@[simp] theorem armEvent_frame (n : Node) (arm : Arm) (a b : Bool) :
    (n.armEvent arm a b).clk = n.clk ∧ (n.armEvent arm a b).sul = n.sul ∧
    (n.armEvent arm a b).lc = n.lc ∧ (n.armEvent arm a b).tsg = n.tsg ∧
    (n.armEvent arm a b).datums = n.datums ∧ (n.armEvent arm a b).fbc = n.fbc ∧
    (n.armEvent arm a b).pta = n.pta ∧ (n.armEvent arm a b).cmu = n.cmu ∧
    (n.armEvent arm a b).seq = n.seq ∧ (n.armEvent arm a b).hlt = n.hlt ∧
    (n.armEvent arm a b).evl = n.evl ∧ (n.armEvent arm a b).hlm = n.hlm := by
  unfold Node.armEvent
  repeat' split
  all_goals simp

@[simp] theorem publishStrain_frame (n : Node) (r : Reading) (e : StrainEntry) :
    (n.publishStrain r e).pins = n.pins ∧ (n.publishStrain r e).filters = n.filters ∧
    (n.publishStrain r e).clk = n.clk ∧ (n.publishStrain r e).sul = n.sul ∧
    (n.publishStrain r e).lc = n.lc ∧ (n.publishStrain r e).datums = n.datums ∧
    (n.publishStrain r e).pta = n.pta ∧ (n.publishStrain r e).hlt = n.hlt := by
  unfold Node.publishStrain
  repeat' split
  all_goals simp

@[simp] theorem strainPoint_frame (n : Node) (r : Reading) :
    (n.strainPoint r).pins = n.pins ∧ (n.strainPoint r).filters = n.filters ∧
    (n.strainPoint r).clk = n.clk ∧ (n.strainPoint r).sul = n.sul ∧ (n.strainPoint r).lc = n.lc ∧
    (n.strainPoint r).datums = n.datums ∧ (n.strainPoint r).pta = n.pta ∧ (n.strainPoint r).hlt = n.hlt := by
  unfold Node.strainPoint
  repeat' split
  all_goals simp

@[simp] theorem reading_frame (n : Node) :
    (n.reading).pins = n.pins ∧ (n.reading).filters = n.filters ∧ (n.reading).clk = n.clk ∧
    (n.reading).sul = n.sul ∧ (n.reading).lc = n.lc ∧ (n.reading).datums = n.datums ∧
    (n.reading).pta = n.pta ∧ (n.reading).hlt = n.hlt := by
  simp only [Node.reading]
  repeat' split
  all_goals simp

@[simp] theorem armReading_frame (n : Node) :
    (n.armReading).pins = n.pins ∧ (n.armReading).filters = n.filters ∧ (n.armReading).clk = n.clk ∧
    (n.armReading).sul = n.sul ∧ (n.armReading).lc = n.lc ∧ (n.armReading).datums = n.datums ∧
    (n.armReading).pta = n.pta ∧ (n.armReading).hlt = n.hlt := by
  unfold Node.armReading
  repeat' split
  all_goals simp

@[simp] theorem armClosedChange_frame (n : Node) (arm1 arm2 : Bool) :
    (n.armClosedChange arm1 arm2).filters = n.filters ∧ (n.armClosedChange arm1 arm2).clk = n.clk ∧
    (n.armClosedChange arm1 arm2).sul = n.sul ∧ (n.armClosedChange arm1 arm2).lc = n.lc ∧
    (n.armClosedChange arm1 arm2).tsg = n.tsg ∧ (n.armClosedChange arm1 arm2).datums = n.datums ∧
    (n.armClosedChange arm1 arm2).pta = n.pta ∧ (n.armClosedChange arm1 arm2).cmu = n.cmu ∧
    (n.armClosedChange arm1 arm2).seq = n.seq ∧ (n.armClosedChange arm1 arm2).hlt = n.hlt ∧
    (n.armClosedChange arm1 arm2).evl = n.evl ∧ (n.armClosedChange arm1 arm2).hlm = n.hlm := by
  simp only [Node.armClosedChange]
  repeat' split
  all_goals simp

@[simp] theorem releaseTimer_frame (n : Node) :
    (n.releaseTimer).pins = n.pins ∧ (n.releaseTimer).filters = n.filters ∧
    (n.releaseTimer).clk = n.clk ∧ (n.releaseTimer).sul = n.sul ∧ (n.releaseTimer).lc = n.lc ∧
    (n.releaseTimer).datums = n.datums ∧ (n.releaseTimer).pta = n.pta ∧ (n.releaseTimer).hlm = n.hlm := by
  unfold Node.releaseTimer
  repeat' split
  all_goals simp

@[simp] theorem lockTimer_frame (n : Node) :
    (n.lockTimer).pins = n.pins ∧ (n.lockTimer).filters = n.filters ∧ (n.lockTimer).clk = n.clk ∧
    (n.lockTimer).sul = n.sul ∧ (n.lockTimer).lc = n.lc ∧ (n.lockTimer).tsg = n.tsg ∧
    (n.lockTimer).datums = n.datums ∧ (n.lockTimer).exh = n.exh ∧ (n.lockTimer).fbc = n.fbc ∧
    (n.lockTimer).pta = n.pta ∧ (n.lockTimer).hlt = n.hlt ∧ (n.lockTimer).evl = n.evl ∧
    (n.lockTimer).hlm = n.hlm := by
  unfold Node.lockTimer
  repeat' split
  all_goals simp

@[simp] theorem stopSample_frame (n : Node) (asserted : Bool) :
    (n.stopSample asserted).filters = n.filters ∧ (n.stopSample asserted).clk = n.clk ∧
    (n.stopSample asserted).sul = n.sul ∧ (n.stopSample asserted).lc = n.lc ∧
    (n.stopSample asserted).datums = n.datums ∧ (n.stopSample asserted).pta = n.pta ∧
    (n.stopSample asserted).hlm = n.hlm := by
  unfold Node.stopSample
  repeat' split
  all_goals simp

@[simp] theorem segmentClock_frame (n : Node) :
    (n.segmentClock).pins = n.pins ∧ (n.segmentClock).filters = n.filters ∧
    (n.segmentClock).clk = n.clk ∧ (n.segmentClock).sul = n.sul ∧ (n.segmentClock).lc = n.lc ∧
    (n.segmentClock).datums = n.datums ∧ (n.segmentClock).pta = n.pta ∧ (n.segmentClock).hlt = n.hlt ∧
    (n.segmentClock).hlm = n.hlm := by
  unfold Node.segmentClock
  repeat' split
  all_goals simp

@[simp] theorem drainTimer_frame (n : Node) :
    (n.drainTimer).pins = n.pins ∧ (n.drainTimer).filters = n.filters ∧ (n.drainTimer).clk = n.clk ∧
    (n.drainTimer).sul = n.sul ∧ (n.drainTimer).lc = n.lc ∧ (n.drainTimer).tsg = n.tsg ∧
    (n.drainTimer).datums = n.datums ∧ (n.drainTimer).exh = n.exh ∧ (n.drainTimer).pta = n.pta ∧
    (n.drainTimer).cmu = n.cmu ∧ (n.drainTimer).seq = n.seq ∧ (n.drainTimer).hlt = n.hlt ∧
    (n.drainTimer).hlm = n.hlm := by
  unfold Node.drainTimer
  repeat' split
  all_goals simp

/-! ### Clock -/

@[simp] theorem countDrive_frame (n : Node) :
    (n.countDrive).pins = n.pins ∧ (n.countDrive).clk = n.clk ∧ (n.countDrive).sul = n.sul ∧
    (n.countDrive).lc = n.lc ∧ (n.countDrive).tsg = n.tsg ∧ (n.countDrive).datums = n.datums ∧
    (n.countDrive).exh = n.exh ∧ (n.countDrive).fbc = n.fbc ∧ (n.countDrive).pta = n.pta ∧
    (n.countDrive).cmu = n.cmu ∧ (n.countDrive).seq = n.seq ∧ (n.countDrive).hlt = n.hlt ∧
    (n.countDrive).evl = n.evl ∧ (n.countDrive).hlm = n.hlm := by
  unfold Node.countDrive
  repeat' split
  all_goals simp

@[simp] theorem countArms_frame (n : Node) :
    (n.countArms).pins = n.pins ∧ (n.countArms).clk = n.clk ∧ (n.countArms).sul = n.sul ∧
    (n.countArms).lc = n.lc ∧ (n.countArms).tsg = n.tsg ∧ (n.countArms).datums = n.datums ∧
    (n.countArms).exh = n.exh ∧ (n.countArms).fbc = n.fbc ∧ (n.countArms).pta = n.pta ∧
    (n.countArms).cmu = n.cmu ∧ (n.countArms).seq = n.seq ∧ (n.countArms).hlt = n.hlt ∧
    (n.countArms).evl = n.evl ∧ (n.countArms).hlm = n.hlm := by
  unfold Node.countArms
  repeat' split
  all_goals simp

@[simp] theorem countGen_frame (n : Node) :
    (n.countGen).pins = n.pins ∧ (n.countGen).filters = n.filters ∧ (n.countGen).clk = n.clk ∧
    (n.countGen).sul = n.sul ∧ (n.countGen).lc = n.lc ∧ (n.countGen).datums = n.datums ∧
    (n.countGen).exh = n.exh ∧ (n.countGen).fbc = n.fbc ∧ (n.countGen).pta = n.pta ∧
    (n.countGen).cmu = n.cmu ∧ (n.countGen).seq = n.seq ∧ (n.countGen).hlt = n.hlt ∧
    (n.countGen).evl = n.evl ∧ (n.countGen).hlm = n.hlm := by
  unfold Node.countGen
  repeat' split
  all_goals simp

@[simp] theorem countBit_frame (n : Node) :
    (n.countBit).pins = n.pins ∧ (n.countBit).filters = n.filters ∧ (n.countBit).clk = n.clk ∧
    (n.countBit).sul = n.sul ∧ (n.countBit).lc = n.lc ∧ (n.countBit).tsg = n.tsg ∧
    (n.countBit).datums = n.datums ∧ (n.countBit).exh = n.exh ∧ (n.countBit).pta = n.pta ∧
    (n.countBit).cmu = n.cmu ∧ (n.countBit).seq = n.seq ∧ (n.countBit).hlt = n.hlt ∧
    (n.countBit).evl = n.evl ∧ (n.countBit).hlm = n.hlm := by
  unfold Node.countBit
  repeat' split
  all_goals simp

@[simp] theorem countMicro_frame (n : Node) :
    (n.countMicro).pins = n.pins ∧ (n.countMicro).filters = n.filters ∧ (n.countMicro).sul = n.sul ∧
    (n.countMicro).lc = n.lc ∧ (n.countMicro).datums = n.datums ∧ (n.countMicro).pta = n.pta := by
  unfold Node.countMicro
  repeat' split
  all_goals simp

@[simp] theorem countTime_frame (n : Node) :
    (n.countTime).pins = n.pins ∧ (n.countTime).filters = n.filters ∧ (n.countTime).sul = n.sul ∧
    (n.countTime).lc = n.lc ∧ (n.countTime).datums = n.datums ∧ (n.countTime).pta = n.pta := by
  unfold Node.countTime
  repeat' split
  all_goals simp

end Sys2Proof.Laws
end

