-- ==== Sys2Proof/Laws/Bounds.lean ====
section
/-! SUPPORT. Every operation on the node keeps the bounds of its buffers and counts. -/
namespace Sys2Proof.Laws
open Sys2Proof Sys2Proof.Machine
-- One theorem at a time: the memory that many threads take together is bounded where this is checked.
set_option Elab.async false

/-! ### Replacing one block -/

@[simp] theorem setPins_bounded (n : Node) (x : Pins) : (n.setPins x).Bounded ↔ n.Bounded :=
  ⟨fun h => ⟨h.1, h.2, h.3, h.4, h.5, h.6, h.7⟩, fun h => ⟨h.1, h.2, h.3, h.4, h.5, h.6, h.7⟩⟩
@[simp] theorem setFilters_bounded (n : Node) (x : Filters) : (n.setFilters x).Bounded ↔ n.Bounded :=
  ⟨fun h => ⟨h.1, h.2, h.3, h.4, h.5, h.6, h.7⟩, fun h => ⟨h.1, h.2, h.3, h.4, h.5, h.6, h.7⟩⟩
@[simp] theorem setClk_bounded (n : Node) (x : Clock) : (n.setClk x).Bounded ↔ n.Bounded :=
  ⟨fun h => ⟨h.1, h.2, h.3, h.4, h.5, h.6, h.7⟩, fun h => ⟨h.1, h.2, h.3, h.4, h.5, h.6, h.7⟩⟩
@[simp] theorem setSul_bounded (n : Node) (x : Sul) : (n.setSul x).Bounded ↔ n.Bounded :=
  ⟨fun h => ⟨h.1, h.2, h.3, h.4, h.5, h.6, h.7⟩, fun h => ⟨h.1, h.2, h.3, h.4, h.5, h.6, h.7⟩⟩
@[simp] theorem setDatums_bounded (n : Node) (x : Datums) : (n.setDatums x).Bounded ↔ n.Bounded :=
  ⟨fun h => ⟨h.1, h.2, h.3, h.4, h.5, h.6, h.7⟩, fun h => ⟨h.1, h.2, h.3, h.4, h.5, h.6, h.7⟩⟩
@[simp] theorem setCmu_bounded (n : Node) (x : Cmu) : (n.setCmu x).Bounded ↔ n.Bounded :=
  ⟨fun h => ⟨h.1, h.2, h.3, h.4, h.5, h.6, h.7⟩, fun h => ⟨h.1, h.2, h.3, h.4, h.5, h.6, h.7⟩⟩
@[simp] theorem setSeq_bounded (n : Node) (x : Seq) : (n.setSeq x).Bounded ↔ n.Bounded :=
  ⟨fun h => ⟨h.1, h.2, h.3, h.4, h.5, h.6, h.7⟩, fun h => ⟨h.1, h.2, h.3, h.4, h.5, h.6, h.7⟩⟩
@[simp] theorem setHlt_bounded (n : Node) (x : Hlt) : (n.setHlt x).Bounded ↔ n.Bounded :=
  ⟨fun h => ⟨h.1, h.2, h.3, h.4, h.5, h.6, h.7⟩, fun h => ⟨h.1, h.2, h.3, h.4, h.5, h.6, h.7⟩⟩

@[simp] theorem setLc_bounded (n : Node) (x : Lc) (h : n.Bounded) (hx : x.bounded) :
    (n.setLc x).Bounded := ⟨h.1, hx, h.3, h.4, h.5, h.6, h.7⟩
@[simp] theorem setTsg_bounded (n : Node) (x : Tsg) (h : n.Bounded) (hx : x.hist.length ≤ 8) :
    (n.setTsg x).Bounded := ⟨h.1, h.2, hx, h.4, h.5, h.6, h.7⟩
@[simp] theorem setExh_bounded (n : Node) (x : Exh) (h : n.Bounded) (hx : x.hist.length ≤ 8) :
    (n.setExh x).Bounded := ⟨h.1, h.2, h.3, hx, h.5, h.6, h.7⟩
@[simp] theorem setFbc_bounded (n : Node) (x : Fbc) (h : n.Bounded) (hx : x.bounded) :
    (n.setFbc x).Bounded := ⟨hx, h.2, h.3, h.4, h.5, h.6, h.7⟩
@[simp] theorem setPta_bounded (n : Node) (x : Pta) (h : n.Bounded) (hx : x.bounded) :
    (n.setPta x).Bounded := ⟨h.1, h.2, h.3, h.4, hx, h.6, h.7⟩
@[simp] theorem setEvl_bounded (n : Node) (x : Evl) (h : n.Bounded) (hx : x.bounded) :
    (n.setEvl x).Bounded := ⟨h.1, h.2, h.3, h.4, h.5, hx, h.7⟩
@[simp] theorem setHlm_bounded (n : Node) (x : Hlm) (h : n.Bounded) (hx : x.bounded) :
    (n.setHlm x).Bounded := ⟨h.1, h.2, h.3, h.4, h.5, h.6, hx⟩

@[simp] theorem bounded_fbc (n : Node) (h : n.Bounded) : n.fbc.bounded := h.fbc
@[simp] theorem bounded_lc (n : Node) (h : n.Bounded) : n.lc.bounded := h.lc
@[simp] theorem bounded_tsg (n : Node) (h : n.Bounded) : n.tsg.bounded := h.tsg
@[simp] theorem bounded_exh (n : Node) (h : n.Bounded) : n.exh.bounded := h.exh
@[simp] theorem bounded_pta (n : Node) (h : n.Bounded) : n.pta.bounded := h.pta
@[simp] theorem bounded_evl (n : Node) (h : n.Bounded) : n.evl.bounded := h.evl
@[simp] theorem bounded_hlm (n : Node) (h : n.Bounded) : n.hlm.bounded := h.hlm

/-! ### Updates that keep a block's bounds -/

/-- A block whose history is the same keeps its bound. -/
theorem tsg_keeps (t u : Tsg) (h : u.hist = t.hist) (ht : t.bounded) : u.bounded := by
  unfold Tsg.bounded at *; rw [h]; exact ht
theorem exh_keeps (t u : Exh) (h : u.hist = t.hist) (ht : t.bounded) : u.bounded := by
  unfold Exh.bounded at *; rw [h]; exact ht

@[simp] theorem tsg_hist (n : Node) (h : n.Bounded) : n.tsg.hist.length ≤ 8 := h.tsg
@[simp] theorem exh_hist (n : Node) (h : n.Bounded) : n.exh.hist.length ≤ 8 := h.exh
@[simp] theorem lc_hist (n : Node) (h : n.Bounded) : n.lc.hist.length ≤ 8 := h.lc.1
@[simp] theorem lc_settle (n : Node) (h : n.Bounded) : n.lc.settle ≤ 4 := h.lc.2.1
@[simp] theorem lc_down (n : Node) (h : n.Bounded) : n.lc.down < 64 := h.lc.2.2.1
@[simp] theorem lc_codes (n : Node) (h : n.Bounded) : codesOf n.lc.zero < 16 := h.lc.2.2.2
@[simp] theorem evl_queue (n : Node) (h : n.Bounded) : n.evl.queue.length ≤ 16 := h.evl.1
@[simp] theorem evl_scan (n : Node) (h : n.Bounded) : n.evl.scan.length ≤ 16 := h.evl.2
@[simp] theorem fbc_urgentQ (n : Node) (h : n.Bounded) : n.fbc.urgentQ.length ≤ 2 := h.fbc.1
@[simp] theorem fbc_normalQ (n : Node) (h : n.Bounded) : n.fbc.normalQ.length ≤ 6 := h.fbc.2.1
@[simp] theorem fbc_fifo (n : Node) (h : n.Bounded) : n.fbc.fifo.length ≤ 8 := h.fbc.2.2.1
@[simp] theorem fbc_idle (n : Node) (h : n.Bounded) : n.fbc.idleCount ≤ 107 := h.fbc.2.2.2.1
@[simp] theorem fbc_collisions (n : Node) (h : n.Bounded) : n.fbc.collisions ≤ 65535 := h.fbc.2.2.2.2

/-- A history of at most `k` entries holds at most `k` after an entry joins. -/
theorem pushBounded_length {α : Type} (k : Nat) (x : List α) (e : α) :
    (pushBounded k x e).length ≤ k := by
  simp [pushBounded]; omega

@[simp] theorem pushBounded_le {α : Type} (k : Nat) (x : List α) (e : α) :
    (pushBounded k x e).length ≤ k := pushBounded_length k x e
@[simp] theorem pushHist_le (x : List HistEntry) (e : HistEntry) : (pushHist x e).length ≤ 8 :=
  pushBounded_length 8 x e

/-! ### The bus -/

@[simp] theorem submitHalt_b (b : Fbc) (f : TxFrame) (h : b.bounded) : (b.submitHalt f).bounded := by
  unfold Fbc.submitHalt; split <;> exact h
@[simp] theorem submitBreak_b (b : Fbc) (f : TxFrame) (h : b.bounded) : (b.submitBreak f).bounded := h
@[simp] theorem submitMark_b (b : Fbc) (f : TxFrame) (h : b.bounded) : (b.submitMark f).bounded := by
  unfold Fbc.submitMark; repeat' split
  all_goals exact h
@[simp] theorem returnMark_b (b : Fbc) (f : TxFrame) (h : b.bounded) : (b.returnMark f).bounded := by
  unfold Fbc.returnMark; repeat' split
  all_goals exact h
@[simp] theorem submitSample_b (b : Fbc) (c : Channel) (f : TxFrame) (t : Time) (h : b.bounded) :
    (b.submitSample c f t).bounded := by cases c <;> exact h
@[simp] theorem submitState_b (b : Fbc) (f : TxFrame) (t : Time) (h : b.bounded) :
    (b.submitState f t).bounded := h
@[simp] theorem settlePending_b (b : Fbc) (t : Time) (h : b.bounded) : (b.settlePending t).bounded := by
  obtain ⟨h1, h2, h3, h4, h5⟩ := h
  unfold Fbc.settlePending
  repeat' split
  all_goals refine ⟨?_, ?_, ?_, ?_, ?_⟩ <;> simp_all [fifoCapacity]
@[simp] theorem submitBulk_b (b : Fbc) (f : TxFrame) (t : Time) (h : b.bounded) :
    (b.submitBulk f t).bounded := by
  have h' := settlePending_b b t h
  unfold Fbc.submitBulk
  obtain ⟨h1, h2, h3, h4, h5⟩ := h'
  dsimp only; split
  · rename_i hl; refine ⟨h1, h2, ?_, h4, h5⟩; simp [fifoCapacity] at *; omega
  · exact ⟨h1, h2, h3, h4, h5⟩
@[simp] theorem submitResult_b (b : Fbc) (p : List TxFrame) (t : Time) (h : b.bounded) :
    (b.submitResult p t).bounded := by
  obtain ⟨h1, h2, h3, h4, h5⟩ := settlePending_b b t h
  unfold Fbc.submitResult
  dsimp only; repeat' split
  · exact ⟨h1, h2, h3, h4, h5⟩
  · refine ⟨h1, h2, ?_, h4, h5⟩; simp [fifoCapacity] at *; omega
  · exact ⟨h1, h2, h3, h4, h5⟩
@[simp] theorem take_b (b : Fbc) (x : Holder) (h : b.bounded) : (b.take x).bounded := by
  cases x <;> exact h
@[simp] theorem dropFront_b (b : Fbc) (h : b.bounded) : b.dropFront.bounded :=
  ⟨h.1, h.2.1, by have := h.2.2.1; simp [Fbc.dropFront]; omega, h.2.2.2.1, h.2.2.2.2⟩
@[simp] theorem letGo_b (b : Fbc) (x : Holder) (h : b.bounded) : (b.letGo x).bounded := by
  cases x <;> simp [Fbc.letGo, h]
@[simp] theorem sent_b (b : Fbc) (o : OnLine) (h : b.bounded) : (b.sent o).bounded :=
  have h' := letGo_b b o.holder h
  ⟨h'.1, h'.2.1, h'.2.2.1, Nat.zero_le _, h'.2.2.2.2⟩
@[simp] theorem giveBack_b (b : Fbc) (x : Holder) (f : TxFrame) (t : Time) (h : b.bounded) :
    (b.giveBack x f t).bounded := by
  cases x <;> simp [Fbc.giveBack, h] <;> try exact h
  split
  · rename_i e; refine ⟨h.1, h.2.1, ?_, h.2.2.2.1, h.2.2.2.2⟩
    have := h.2.2.1; simp [e] at this; simpa using this
  · exact h
@[simp] theorem stopDriving_b (b : Fbc) (framing : Bool) (h : b.bounded) :
    (b.stopDriving framing).bounded :=
  ⟨h.1, h.2.1, h.2.2.1, Nat.zero_le _, Nat.min_le_right _ _⟩
@[simp] theorem fbcFrameReset_b (b : Fbc) (h : b.bounded) : b.atFrameReset.bounded := by
  refine ⟨h.1, h.2.1, ?_, h.2.2.2.1, h.2.2.2.2⟩
  have := h.2.2.1; unfold Fbc.atFrameReset; dsimp only; split <;> simp <;> try omega
@[simp] theorem fbcSilent_b (b : Fbc) (h : b.bounded) : b.atSilent.bounded :=
  ⟨h.1, h.2.1, Nat.zero_le _, h.2.2.2.1, h.2.2.2.2⟩
@[simp] theorem popFront_b (b : Fbc) (h : b.bounded) : b.popFront.bounded := by
  unfold Fbc.popFront; split
  · rename_i e; refine ⟨?_, h.2.1, h.2.2.1, h.2.2.2.1, h.2.2.2.2⟩
    have := h.1; simp [e] at this; dsimp only; omega
  · refine ⟨h.1, ?_, h.2.2.1, h.2.2.2.1, h.2.2.2.2⟩
    have := h.2.1; simp; omega
@[simp] theorem runEnded_b (b : Fbc) (r : RxState) (h : b.bounded) : (b.runEnded r).bounded :=
  ⟨h.1, h.2.1, h.2.2.1, Nat.zero_le _, h.2.2.2.2⟩
@[simp] theorem idleBit_b (b : Fbc) (h : b.bounded) : b.idleBit.bounded :=
  ⟨h.1, h.2.1, h.2.2.1, by simp [Fbc.idleBit], h.2.2.2.2⟩
@[simp] theorem runStarted_b (b : Fbc) (t : Time) (h : b.bounded) : (b.runStarted t).bounded := by
  unfold Fbc.runStarted; split <;> exact h
@[simp] theorem afterError_b (b : Fbc) (e : ReceiveError) (h : b.bounded) : (b.afterError e).bounded := by
  cases e <;> simp [Fbc.afterError, h] <;> exact h

/-! ### The health monitor -/

@[simp] theorem hlm_get_set (m : Hlm) (a c : HealthId) (x : Score) :
    (m.set a x).get c = if c = a then x else m.get c := by
  cases a <;> cases c <;> rfl
theorem percentLeft_nonneg (x d : Int) : 0 ≤ percentLeft x d := by unfold percentLeft; omega
theorem scored_nonneg (a : HealthId) (i : Image) (m x : Int) : 0 ≤ a.scored i m x := by
  cases a <;> simp [HealthId.scored, percentLeft_nonneg] <;> omega
theorem updated_b (s : Score) (a : HealthId) (i : Image) (x : Int) (h : s.bounded) :
    (s.updated a i x).bounded := by
  have := scored_nonneg a i (a.measured s.measure x) x
  obtain ⟨h1, h2, h3⟩ := h
  unfold Score.bounded Score.updated
  dsimp only; omega
theorem cleaned_b (s : Score) (h : s.bounded) : s.cleaned.bounded := by
  obtain ⟨h1, h2, h3⟩ := h; unfold Score.bounded Score.cleaned; dsimp only; omega
theorem measureZero_b (s : Score) (h : s.bounded) : s.measureZero.bounded := h
@[simp] theorem atStart_b (m : Hlm) (h : m.bounded) : m.atStart.bounded := by
  intro a; have := h a; cases a <;> simp [Hlm.atStart, Hlm.get] at * <;>
    first | exact this | exact cleaned_b _ this
@[simp] theorem hlmFrameReset_b (m : Hlm) (h : m.bounded) : m.atFrameReset.bounded := by
  intro a; have := h a; cases a <;> exact this
@[simp] theorem withThresholds_b (m : Hlm) (t : Vector Nat 7) (h : m.bounded) :
    (m.withThresholds t).bounded := by
  intro a; have := h a; cases a <;> exact this

/-! ### The peer table -/

@[simp] theorem setPeers_b (t : Pta) (i : Fin 16) (p : Peer) (h : t.bounded) (hp : p.bounded) :
    ({ t with peers := t.peers.set i p } : Pta).bounded := by
  refine ⟨h.1, fun j => ?_⟩
  have := h.2 j
  simp only [Fin.getElem_fin, Vector.getElem_set] at *
  split
  · exact hp
  · exact this
@[simp] theorem setSubs_b (t : Pta) (i : Fin 4) (x : Sub) (h : t.bounded) (hx : x.hist.length ≤ 8) :
    ({ t with subs := t.subs.set i x } : Pta).bounded := by
  refine ⟨fun j => ?_, h.2⟩
  have := h.1 j
  simp only [Fin.getElem_fin, Vector.getElem_set] at *
  split
  · exact hx
  · exact this
theorem allSubs_b (t : Pta) (g : Fin 4 → Sub) (h : t.bounded) (hg : ∀ i, (g i).hist.length ≤ 8) :
    ({ t with subs := #v[g 0, g 1, g 2, g 3] } : Pta).bounded := by
  refine ⟨fun j => ?_, h.2⟩
  match j with
  | 0 => exact hg 0
  | 1 => exact hg 1
  | 2 => exact hg 2
  | 3 => exact hg 3
@[simp] theorem sub_hist (n : Node) (i : Fin 4) (h : n.Bounded) : (n.sub i).hist.length ≤ 8 := h.pta.1 i
@[simp] theorem peer_b (n : Node) (i : Fin 16) (h : n.Bounded) : (n.peer i).bounded := h.pta.2 i
@[simp] theorem heard_b (p : Peer) (r t : Time) (h : p.bounded) : (p.heard r t).bounded := h
theorem withOffset_b (p : Peer) (o r t : Time) (h : p.bounded) :
    (p.withOffset (p.judgeOffset o) r t).bounded := by
  obtain ⟨h1, h2⟩ := h
  unfold Peer.judgeOffset
  repeat' split
  all_goals simp only [Peer.withOffset]
  all_goals refine ⟨?_, h2⟩
  all_goals (first | exact Nat.zero_le _ | exact h1 | (dsimp only; omega))
theorem withSeqOf_b (p : Peer) (c : Option FrameClass) (s : Byte) (h : p.bounded) :
    (p.withSeqOf c s).bounded := by
  obtain ⟨h1, h2, h3, h4⟩ := h
  cases c with
  | none => exact ⟨h1, h2, h3, h4⟩
  | some c =>
    cases c <;> refine ⟨h1, ?_, ?_, ?_⟩ <;> simp [Peer.withSeqOf, Peer.withSeq, PerClass.set, PerClass.get] <;> omega

/-! ### The load channel -/

@[simp] theorem changeRange_b (l : Lc) (r : Fin 4) (h : l.hist.length ≤ 8) : (l.changeRange r).bounded := by
  refine ⟨h, Nat.le_refl 4, by simp [Lc.changeRange], ?_⟩
  unfold Lc.changeRange; dsimp only; cases l.zero <;> simp [codesOf, ZeroOp.restart]
@[simp] theorem settleOne_b (l : Lc) (h : l.bounded) : l.settleOne.bounded :=
  ⟨h.1, by have := h.2.1; simp [Lc.settleOne]; omega, h.2.2⟩
@[simp] theorem endTrial_b (l : Lc) (b : Balance) (k : Nat) (s : Int) (h : l.bounded) :
    (l.endTrial b k s).bounded := by
  cases k
  · exact ⟨h.1, Nat.le_refl 4, h.2.2⟩
  · exact h
@[simp] theorem trialStep_b (l : Lc) (b : Balance) (k d : Nat) (s c : Int) (h : l.bounded) :
    (l.trialStep b k d s c).bounded := by
  unfold Lc.trialStep; dsimp only; split
  · exact endTrial_b _ _ _ _ h
  · exact h
@[simp] theorem balanceStep_b (l : Lc) (b : Balance) (c : Int) (h : l.bounded) :
    (l.balanceStep b c).1.bounded := by
  unfold Lc.balanceStep; split <;> simp [h]
@[simp] theorem startBalance_b (l : Lc) (h : l.bounded) : l.startBalance.bounded := by
  refine ⟨h.1, ?_, by simp [Lc.startBalance], h.2.2.2⟩
  have := h.2.1; unfold Lc.startBalance; dsimp only; split <;> simp [settleConversions] <;> omega
@[simp] theorem lcPublished_b (l : Lc) (e : HistEntry) (h : l.bounded) : (l.published e).bounded :=
  ⟨by simp [Lc.published], h.2⟩
@[simp] theorem cancelBalance_b (l : Lc) (h : l.bounded) : l.cancelBalance.bounded := by
  unfold Lc.cancelBalance; split
  · rename_i b _; exact changeRange_b l b.heldRange h.1
  · exact h
theorem autorange_b (l : Lc) (c : Int) (before : Bool) (h : l.bounded) : (l.autorange c before).bounded := by
  obtain ⟨h1, h2, h3, h4⟩ := h
  unfold Lc.autorange
  split
  · exact changeRange_b l _ h1
  · unfold Lc.stepDown
    split
    · exact changeRange_b l _ h1
    · rename_i hne
      refine ⟨h1, h2, ?_, h4⟩
      dsimp only
      unfold Lc.countDown at *
      split
      · rename_i hc
        simp only [Bool.and_eq_true, bne_iff_ne, ne_eq, decide_eq_true_eq] at hc
        by_cases h63 : l.down + 1 = 64
        · exfalso
          obtain ⟨⟨_, hr⟩, _⟩ := id hc
          have hrd : ∃ r, rangeDown l.range = some r := by
            revert hr; generalize l.range = r; revert r; decide
          obtain ⟨r, hr'⟩ := hrd
          refine hne r ?_ hr'
          rw [if_pos (by simp only [Bool.and_eq_true, bne_iff_ne, ne_eq, decide_eq_true_eq]; exact hc), h63]
          rfl
        · omega
      · omega

/-! ### The evaluator -/

@[simp] theorem completed_queue (e : Evl) : e.completed.queue = e.queue := by
  simp only [Evl.completed, Evl.closeOpenFit, Evl.closeFit, Evl.setValues, Evl.cause, Evl.fitState]
  repeat' split
  all_goals rfl
@[simp] theorem completed_scan (e : Evl) : e.completed.scan = e.scan := by
  simp only [Evl.completed, Evl.closeOpenFit, Evl.closeFit, Evl.setValues, Evl.cause, Evl.fitState]
  repeat' split
  all_goals rfl

@[simp] theorem evlCause_queue (e : Evl) (f : Causes → Causes) : (e.cause f).queue = e.queue := rfl
@[simp] theorem evlCause_scan (e : Evl) (f : Causes → Causes) : (e.cause f).scan = e.scan := rfl
/-- The stages of a pair operation keep the pairing queue, and stages 1 to 5 the break-scan queue (R159). -/
theorem earlyStages_queues (e : Evl) (p : EvalParams) (x : Pair) :
    (e.earlyStages p x).queue = e.queue ∧ (e.earlyStages p x).scan = e.scan := by
  have h1 : ∀ e : Evl, (e.markStage x).queue = e.queue ∧ (e.markStage x).scan = e.scan := fun _ => ⟨rfl, rfl⟩
  have h2 : ∀ e : Evl, (e.maxStage x).queue = e.queue ∧ (e.maxStage x).scan = e.scan := by
    intro e; unfold Evl.maxStage; repeat' split
    all_goals exact ⟨rfl, rfl⟩
  have h3 : ∀ e : Evl, (e.yieldStage p x).queue = e.queue ∧ (e.yieldStage p x).scan = e.scan := by
    intro e; unfold Evl.yieldStage Evl.seekYield Evl.plateau; repeat' split
    all_goals exact ⟨rfl, rfl⟩
  unfold Evl.earlyStages
  rw [(h3 _).1, (h2 _).1, (h1 _).1, (h3 _).2, (h2 _).2, (h1 _).2]
  exact ⟨rfl, rfl⟩
theorem lineStages_queues (e : Evl) (p : EvalParams) (x : Pair) :
    (e.lineStages p x).queue = e.queue ∧ (e.lineStages p x).scan = e.scan := by
  have h4 : ∀ e : Evl, (e.fitStage p x).queue = e.queue ∧ (e.fitStage p x).scan = e.scan := by
    intro e; unfold Evl.fitStage Evl.startSearch Evl.closeFit; repeat' split
    all_goals exact ⟨rfl, rfl⟩
  have h5 : ∀ e : Evl, (e.proofStage p x).queue = e.queue ∧ (e.proofStage p x).scan = e.scan := by
    intro e; simp only [Evl.proofStage, Evl.judgeProof]; repeat' split
    all_goals exact ⟨rfl, rfl⟩
  unfold Evl.lineStages
  rw [(h5 _).1, (h4 _).1, (h5 _).2, (h4 _).2]
  exact ⟨rfl, rfl⟩
@[simp] theorem earlyStages_b (e : Evl) (p : EvalParams) (x : Pair) (h : e.bounded) : (e.earlyStages p x).bounded := by
  rw [Evl.bounded, (earlyStages_queues e p x).1, (earlyStages_queues e p x).2]; exact h
@[simp] theorem lineStages_b (e : Evl) (p : EvalParams) (x : Pair) (h : e.bounded) : (e.lineStages p x).bounded := by
  rw [Evl.bounded, (lineStages_queues e p x).1, (lineStages_queues e p x).2]; exact h
@[simp] theorem scanStage_b (e : Evl) (x : Pair) (h : e.bounded) : (e.scanStage x).bounded :=
  ⟨h.1, pushBounded_length _ _ _⟩
/-! ### Health -/

@[simp] theorem health_bounded (n : Node) (a : HealthId) (x : Int) (hn : n.Bounded) :
    (n.health a x).Bounded := by
  unfold Node.health
  split
  · refine setHlm_bounded _ _ hn fun c => ?_
    rw [hlm_get_set]
    split
    · exact updated_b _ _ _ _ (hn.hlm a)
    · exact hn.hlm c
  · exact hn

/-! ### Bus -/

@[simp] theorem sendHalt_bounded (n : Node) (cause : HaltCause) (hn : n.Bounded) :
    (n.sendHalt cause).Bounded := by
  unfold Node.sendHalt
  repeat' split
  all_goals simp (maxDischargeDepth := 9) [hn]

@[simp] theorem sendBreak_bounded (n : Node) (testId : Nat) (hn : n.Bounded) :
    (n.sendBreak testId).Bounded := by
  unfold Node.sendBreak
  repeat' split
  all_goals simp (maxDischargeDepth := 9) [hn]

@[simp] theorem sendMark_bounded (n : Node) (index : Fin 32) (testId : Nat) (close : Time) (hn : n.Bounded) :
    (n.sendMark index testId close).Bounded := by
  unfold Node.sendMark
  repeat' split
  all_goals simp (maxDischargeDepth := 9) [hn]

@[simp] theorem sendSample_bounded (n : Node) (ch : Channel) (payload : List Byte) (hn : n.Bounded) :
    (n.sendSample ch payload).Bounded := by
  unfold Node.sendSample
  repeat' split
  all_goals simp (maxDischargeDepth := 9) [hn]

@[simp] theorem notice_bounded (n : Node) (hn : n.Bounded) :
    (n.notice).Bounded := by
  unfold Node.notice
  repeat' split
  all_goals simp (maxDischargeDepth := 9) [hn]

@[simp] theorem sendResult_bounded (n : Node) (parts : List (List Byte)) (hn : n.Bounded) :
    (n.sendResult parts).Bounded := by
  unfold Node.sendResult
  repeat' split
  all_goals simp (maxDischargeDepth := 9) [hn]

@[simp] theorem sendReply_bounded (n : Node) (target : Fin 16) (payload : List Byte) (hn : n.Bounded) :
    (n.sendReply target payload).Bounded := by
  unfold Node.sendReply
  repeat' split
  all_goals simp (maxDischargeDepth := 9) [hn]

@[simp] theorem sendPresence_bounded (n : Node) (hn : n.Bounded) :
    (n.sendPresence).Bounded := by
  unfold Node.sendPresence
  repeat' split
  all_goals simp (maxDischargeDepth := 9) [hn]

@[simp] theorem startAttempt_bounded (n : Node) (h : Holder) (f : TxFrame) (hn : n.Bounded) :
    (n.startAttempt h f).Bounded := by
  exact setFbc_bounded _ _ hn (take_b n.fbc h hn.fbc)

@[simp] theorem attemptFailed_bounded (n : Node) (o : OnLine) (framing : Bool) (hn : n.Bounded) :
    (n.attemptFailed o framing).Bounded := by
  simp only [Node.attemptFailed]
  repeat' split
  all_goals simp (maxDischargeDepth := 9) [hn]

/-! ### Peers -/

@[simp] theorem setPeer_bounded (n : Node) (i : Fin 16) (p : Peer) (hn : n.Bounded) (hp : p.bounded) :
    (n.setPeer i p).Bounded := by
  exact setPta_bounded _ _ hn (setPeers_b _ _ _ hn.pta hp)

@[simp] theorem setSub_bounded (n : Node) (i : Fin 4) (x : Sub) (hn : n.Bounded) (hx : x.hist.length ≤ 8) :
    (n.setSub i x).Bounded := by
  exact setPta_bounded _ _ hn (setSubs_b _ _ _ hn.pta hx)

@[simp] theorem mapSubsOf_bounded (n : Node) (peer : Fin 16) (f : Sub → Sub) (hn : n.Bounded)
    (hf : ∀ x : Sub, x.hist.length ≤ 8 → (f x).hist.length ≤ 8) :
    (n.mapSubsOf peer f).Bounded := by
  refine setPta_bounded _ _ hn (allSubs_b n.pta (fun i => match n.subCfg i with
    | some c => if c.peer = peer then f (n.sub i) else n.sub i
    | none => n.sub i) hn.pta fun i => ?_)
  repeat' split
  · exact hf _ (sub_hist n i hn)
  · exact sub_hist n i hn
  · exact sub_hist n i hn

@[simp] theorem emptyHistsOf_bounded (n : Node) (peer : Fin 16) (hn : n.Bounded) :
    (n.emptyHistsOf peer).Bounded := by
  exact mapSubsOf_bounded _ _ _ hn fun _ _ => Nat.zero_le _

@[simp] theorem takeFacts_bounded (n : Node) (f : HeaderFacts) (hn : n.Bounded) :
    (n.takeFacts f).Bounded := by
  have h := setPeer_bounded n f.sender _ hn (withSeqOf_b _ (classOfCode f.cls) f.seq
    (withOffset_b _ (f.rxStamp - f.txStamp) f.rxStamp n.now (heard_b _ f.rxStamp n.now (peer_b n f.sender hn))))
  have h2 := emptyHistsOf_bounded _ f.sender h
  simp only [Node.takeFacts]
  split
  · refine mapSubsOf_bounded _ _ _ ?_ fun _ hx => hx
    split
    · exact h2
    · exact h
  · split
    · exact h2
    · exact h

@[simp] theorem takePresence_bounded (n : Node) (f : RxFrame) (hn : n.Bounded) :
    (n.takePresence f).Bounded := by
  unfold Node.takePresence
  split
  · exact setPeer_bounded _ _ _ hn (peer_b n _ hn)
  · exact hn

@[simp] theorem takeState_bounded (n : Node) (f : RxFrame) (hn : n.Bounded) :
    (n.takeState f).Bounded := by
  unfold Node.takeState
  split
  · exact setPeer_bounded _ _ _ hn (peer_b n _ hn)
  · exact hn

@[simp] theorem enterSample_bounded (n : Node) (i : Fin 4) (e : HistEntry) (hn : n.Bounded) :
    (n.enterSample i e).Bounded := by
  unfold Node.enterSample
  repeat' split
  all_goals simp (maxDischargeDepth := 9) [hn]

@[simp] theorem judgeSample_bounded (n : Node) (i : Fin 4) (f : RxFrame) (hn : n.Bounded) :
    (n.judgeSample i f).1.Bounded := by
  simp only [Node.judgeSample]
  repeat' split
  all_goals simp (maxDischargeDepth := 9) [hn]

@[simp] theorem reseedExpires_bounded (n : Node) (i : Fin 16) (hn : n.Bounded) :
    (n.reseedExpires i).Bounded := by
  exact setPeer_bounded _ _ _ hn (peer_b n _ hn)

@[simp] theorem silenceExpires_bounded (n : Node) (i : Fin 16) (hn : n.Bounded) :
    (n.silenceExpires i).Bounded := by
  exact emptyHistsOf_bounded _ _ (setPeer_bounded _ _ _ hn (peer_b n _ hn))

@[simp] theorem goesStale_bounded (n : Node) (i : Fin 4) (hn : n.Bounded) :
    (n.goesStale i).Bounded := by
  unfold Node.goesStale
  repeat' split
  all_goals simp (maxDischargeDepth := 9) [hn]

@[simp] theorem startStaleness_bounded (n : Node) (hn : n.Bounded) :
    n.startStaleness.Bounded := by
  refine setPta_bounded _ _ hn (allSubs_b n.pta (fun i => match n.subCfg i with
    | some _ => { n.sub i with staleAt := some (after n.now n.staleUs) }
    | none => n.sub i) hn.pta fun i => ?_)
  dsimp only
  split
  · exact sub_hist n i hn
  · exact sub_hist n i hn

@[simp] theorem ptaFrameReset_bounded (n : Node) (hn : n.Bounded) :
    n.ptaFrameReset.Bounded := by
  refine startStaleness_bounded _ (setPta_bounded _ _ hn (allSubs_b n.pta
    (fun i => { n.pta.subs[i] with hist := [], stale := false, gap := false }) hn.pta fun i => ?_))
  exact Nat.zero_le _

/-! ### Travel -/

@[simp] theorem setWanted_bounded (n : Node) (v : Int) (hn : n.Bounded) :
    (n.setWanted v).Bounded := by
  unfold Node.setWanted
  repeat' split
  all_goals simp (maxDischargeDepth := 9) [hn]

@[simp] theorem directStop_bounded (n : Node) (hn : n.Bounded) :
    (n.directStop).Bounded := by
  unfold Node.directStop
  repeat' split
  all_goals simp (maxDischargeDepth := 9) [hn]

@[simp] theorem resync_bounded (n : Node) (hn : n.Bounded) :
    (n.resync).Bounded := by
  unfold Node.resync
  repeat' split
  all_goals simp (maxDischargeDepth := 9) [hn]

@[simp] theorem captureLevel_bounded (n : Node) (hn : n.Bounded) :
    (n.captureLevel).Bounded := by
  unfold Node.captureLevel
  repeat' split
  all_goals simp (maxDischargeDepth := 9) [hn]

@[simp] theorem recordDatums_bounded (n : Node) (hn : n.Bounded) :
    (n.recordDatums).Bounded := by
  constructor <;> simp (maxDischargeDepth := 9) [hn]

@[simp] theorem awaitedDatum_bounded (n : Node) (i : Fin 4) (value : Int) (hn : n.Bounded) :
    (n.awaitedDatum i value).Bounded := by
  constructor <;> simp (maxDischargeDepth := 9) [hn]

@[simp] theorem reportSeg_bounded (n : Node) (f : Segment → Segment) (hn : n.Bounded) :
    (n.reportSeg f).Bounded := by
  constructor <;> simp (maxDischargeDepth := 9) [hn]

@[simp] theorem reportFlag_bounded (n : Node) (f : Summary → Summary) (hn : n.Bounded) :
    (n.reportFlag f).Bounded := by
  constructor <;> simp (maxDischargeDepth := 9) [hn]

@[simp] theorem reportLock_bounded (n : Node) (t : Time) (hn : n.Bounded) :
    (n.reportLock t).Bounded := by
  constructor <;> simp (maxDischargeDepth := 9) [hn]

/-! ### Control -/

@[simp] theorem putCmu_bounded (n : Node) (c : Cmu) (hn : n.Bounded) :
    (n.putCmu c).Bounded := by
  unfold Node.putCmu
  repeat' split
  all_goals simp (maxDischargeDepth := 9) [hn]

@[simp] theorem requestHold_bounded (n : Node) (hn : n.Bounded) :
    (n.requestHold).Bounded := by
  unfold Node.requestHold
  repeat' split
  all_goals simp (maxDischargeDepth := 9) [hn]

@[simp] theorem requestCrosshead_bounded (n : Node) (v : Int) (hn : n.Bounded) :
    (n.requestCrosshead v).Bounded := by
  unfold Node.requestCrosshead
  repeat' split
  all_goals simp (maxDischargeDepth := 9) [hn]

@[simp] theorem fallBack_bounded (n : Node) (v : Int) (hn : n.Bounded) :
    (n.fallBack v).Bounded := by
  unfold Node.fallBack
  repeat' split
  all_goals simp (maxDischargeDepth := 9) [hn]

@[simp] theorem enterClosed_bounded (n : Node) (m : Mode) (hn : n.Bounded) :
    (n.enterClosed m).Bounded := by
  unfold Node.enterClosed
  repeat' split
  all_goals simp (maxDischargeDepth := 9) [hn]

@[simp] theorem entryStepTo_bounded (n : Node) (m : Mode) (hn : n.Bounded) :
    (n.entryStepTo m).Bounded := by
  unfold Node.entryStepTo
  repeat' split
  all_goals simp (maxDischargeDepth := 9) [hn]

@[simp] theorem requestClosed_bounded (n : Node) (f : SegFields) (advance : Bool) (hn : n.Bounded) :
    (n.requestClosed f advance).Bounded := by
  simp only [Node.requestClosed]
  repeat' split
  all_goals simp (maxDischargeDepth := 9) [hn]

@[simp] theorem requestSegment_bounded (n : Node) (f : SegFields) (advance : Bool) (hn : n.Bounded) :
    (n.requestSegment f advance).Bounded := by
  unfold Node.requestSegment
  repeat' split
  all_goals simp (maxDischargeDepth := 9) [hn]

@[simp] theorem cmuOpen_bounded (n : Node) (f : SegFields) (advance underPause : Bool) (hn : n.Bounded) :
    (n.cmuOpen f advance underPause).Bounded := by
  unfold Node.cmuOpen
  repeat' split
  all_goals simp (maxDischargeDepth := 9) [hn]

@[simp] theorem cmuHold_bounded (n : Node) (hn : n.Bounded) :
    (n.cmuHold).Bounded := by
  unfold Node.cmuHold
  repeat' split
  all_goals simp (maxDischargeDepth := 9) [hn]

@[simp] theorem cmuResume_bounded (n : Node) (f : SegFields) (hn : n.Bounded) :
    (n.cmuResume f).Bounded := by
  unfold Node.cmuResume
  repeat' split
  all_goals simp (maxDischargeDepth := 9) [hn]

@[simp] theorem rampReport_bounded (n : Node) (hn : n.Bounded) :
    (n.rampReport).Bounded := by
  unfold Node.rampReport
  repeat' split
  all_goals simp (maxDischargeDepth := 9) [hn]

@[simp] theorem handLock_bounded (n : Node) (before : Option LockState) (hn : n.Bounded) :
    (n.handLock before).Bounded := by
  constructor <;> simp (maxDischargeDepth := 9) [hn]

@[simp] theorem applyEstimate_bounded (n : Node) (m : Mode) (rm : Int) (hn : n.Bounded) :
    (n.applyEstimate m rm).Bounded := by
  unfold Node.applyEstimate
  repeat' split
  all_goals simp (maxDischargeDepth := 9) [hn]

@[simp] theorem cmuArrival_bounded (n : Node) (m : Mode) (e : HistEntry) (hn : n.Bounded) :
    (n.cmuArrival m e).Bounded := by
  unfold Node.cmuArrival
  repeat' split
  all_goals simp (maxDischargeDepth := 9) [hn]

@[simp] theorem cmuStale_bounded (n : Node) (i : Fin 4) (hn : n.Bounded) :
    (n.cmuStale i).Bounded := by
  unfold Node.cmuStale
  repeat' split
  all_goals simp (maxDischargeDepth := 9) [hn]

@[simp] theorem lockTimeout_bounded (n : Node) (hn : n.Bounded) :
    (n.lockTimeout).Bounded := by
  constructor <;> simp (maxDischargeDepth := 9) [hn]

@[simp] theorem lateLockTimeout_bounded (n : Node) (hn : n.Bounded) :
    (n.lateLockTimeout).Bounded := by
  constructor <;> simp (maxDischargeDepth := 9) [hn]

@[simp] theorem cmuFrameReset_bounded (n : Node) (hn : n.Bounded) :
    (n.cmuFrameReset).Bounded := by
  unfold Node.cmuFrameReset
  repeat' split
  all_goals simp (maxDischargeDepth := 9) [hn]

/-! ### Evaluator -/

@[simp] theorem evalStart_bounded (n : Node) (hn : n.Bounded) :
    n.evalStart.Bounded := by
  unfold Node.evalStart
  repeat' split
  · exact setEvl_bounded _ _ hn ⟨Nat.zero_le _, Nat.zero_le _⟩
  · exact hn
  · exact hn

@[simp] theorem evalFrameReset_bounded (n : Node) (hn : n.Bounded) :
    n.evalFrameReset.Bounded := by
  unfold Node.evalFrameReset
  split
  · exact setEvl_bounded _ _ hn ⟨Nat.zero_le _, Nat.zero_le _⟩
  · exact hn

@[simp] theorem completeRecord_bounded (n : Node) (hn : n.Bounded) :
    n.completeRecord.Bounded := by
  refine sendResult_bounded _ _ (setEvl_bounded _ _ hn ⟨?_, ?_⟩)
  · rw [completed_queue]; exact hn.evl.1
  · rw [completed_scan]; exact hn.evl.2

@[simp] theorem endDrain_bounded (n : Node) (hn : n.Bounded) :
    (n.endDrain).Bounded := by
  unfold Node.endDrain
  repeat' split
  all_goals simp (maxDischargeDepth := 9) [hn]

@[simp] theorem evalEnding_bounded (n : Node) (cause : EndCause) (hn : n.Bounded) :
    (n.evalEnding cause).Bounded := by
  unfold Node.evalEnding
  split
  · exact endDrain_bounded _ (setEvl_bounded _ _ hn hn.evl)
  · exact hn

@[simp] theorem drainLimit_bounded (n : Node) (hn : n.Bounded) :
    n.drainLimit.Bounded := by
  exact completeRecord_bounded _ (setEvl_bounded _ _ hn ⟨Nat.zero_le _, hn.evl.2⟩)

/-! ### Extensometer -/

@[simp] theorem putExh_bounded (n : Node) (x : Exh) (hn : n.Bounded) (hx : x.hist.length ≤ 8) :
    (n.putExh x).Bounded := by
  simp only [Node.putExh]
  split <;> simp [hn, hx]

@[simp] theorem keepReading_bounded (n : Node) (hn : n.Bounded) :
    (n.keepReading).Bounded := by
  unfold Node.keepReading
  repeat' split
  all_goals simp (maxDischargeDepth := 9) [hn]

@[simp] theorem slipStage_bounded (n : Node) (hn : n.Bounded) :
    n.slipStage.Bounded := by
  unfold Node.slipStage
  split
  · refine keepReading_bounded _ (health_bounded _ _ _ (setExh_bounded _ _ hn ?_))
    unfold Exh.corrected; split <;> exact hn.exh
  · exact keepReading_bounded _ hn

@[simp] theorem handDisagree_bounded (n : Node) (r : Reading) (e : StrainEntry) (hn : n.Bounded) :
    (n.handDisagree r e).Bounded := by
  unfold Node.handDisagree
  repeat' split
  all_goals simp (maxDischargeDepth := 9) [hn]

@[simp] theorem learnStage_bounded (n : Node) (hn : n.Bounded) :
    (n.learnStage).Bounded := by
  unfold Node.learnStage
  repeat' split
  all_goals simp (maxDischargeDepth := 9) [hn]

@[simp] theorem release_bounded (n : Node) (hn : n.Bounded) :
    (n.release).Bounded := by
  unfold Node.release
  repeat' split
  all_goals simp (maxDischargeDepth := 9) [hn]

@[simp] theorem releaseStage_bounded (n : Node) (e : HistEntry) (hn : n.Bounded) :
    (n.releaseStage e).Bounded := by
  unfold Node.releaseStage
  repeat' split
  all_goals simp (maxDischargeDepth := 9) [hn]

@[simp] theorem exhBreak_bounded (n : Node) (hn : n.Bounded) :
    (n.exhBreak).Bounded := by
  unfold Node.exhBreak
  repeat' split
  all_goals simp (maxDischargeDepth := 9) [hn]

@[simp] theorem judgeOpen_bounded (n : Node) (hn : n.Bounded) :
    (n.judgeOpen).Bounded := by
  unfold Node.judgeOpen
  repeat' split
  all_goals simp (maxDischargeDepth := 9) [hn]

@[simp] theorem unplannedOpening_bounded (n : Node) (hn : n.Bounded) :
    (n.unplannedOpening).Bounded := by
  unfold Node.unplannedOpening
  repeat' split
  all_goals simp (maxDischargeDepth := 9) [hn]

@[simp] theorem followInputs_bounded (n : Node) (hn : n.Bounded) :
    (n.followInputs).Bounded := by
  unfold Node.followInputs
  repeat' split
  all_goals simp (maxDischargeDepth := 9) [hn]

@[simp] theorem exhRejudge_bounded (n : Node) (hn : n.Bounded) :
    (n.exhRejudge).Bounded := by
  unfold Node.exhRejudge
  repeat' split
  all_goals simp (maxDischargeDepth := 9) [hn]

@[simp] theorem zeroArms_bounded (n : Node) (hn : n.Bounded) :
    (n.zeroArms).Bounded := by
  unfold Node.zeroArms
  repeat' split
  all_goals simp (maxDischargeDepth := 9) [hn]

@[simp] theorem exhStart_bounded (n : Node) (hn : n.Bounded) :
    (n.exhStart).Bounded := by
  unfold Node.exhStart
  repeat' split
  all_goals simp (maxDischargeDepth := 9) [hn]

@[simp] theorem exhStartFails_bounded (n : Node) (hn : n.Bounded) :
    (n.exhStartFails).Bounded := by
  unfold Node.exhStartFails
  repeat' split
  all_goals simp (maxDischargeDepth := 9) [hn]

@[simp] theorem exhFrameReset_bounded (n : Node) (hn : n.Bounded) :
    (n.exhFrameReset).Bounded := by
  unfold Node.exhFrameReset
  repeat' split
  all_goals simp (maxDischargeDepth := 9) [hn]

@[simp] theorem exhForce_bounded (n : Node) (e : HistEntry) (hn : n.Bounded) :
    (n.exhForce e).Bounded := by
  unfold Node.exhForce
  repeat' split
  all_goals simp (maxDischargeDepth := 9) [hn]

/-! ### Sequencer -/

@[simp] theorem setTest_bounded (n : Node) (t : TestState) (hn : n.Bounded) :
    (n.setTest t).Bounded := by
  unfold Node.setTest
  repeat' split
  all_goals simp (maxDischargeDepth := 9) [hn]

@[simp] theorem refuse_bounded (n : Node) (c : RefusalCode) (hn : n.Bounded) :
    (n.refuse c).Bounded := by
  constructor <;> simp (maxDischargeDepth := 9) [hn]

@[simp] theorem closeOpen_bounded (n : Node) (cause : CloseCause) (t : Time) (hn : n.Bounded) :
    (n.closeOpen cause t).Bounded := by
  constructor <;> simp (maxDischargeDepth := 9) [hn]

@[simp] theorem skipTo_bounded (n : Node) (i : Fin 32) (hn : n.Bounded) :
    (n.skipTo i).Bounded := by
  unfold Node.skipTo
  repeat' split
  all_goals simp (maxDischargeDepth := 9) [hn]

@[simp] theorem enterEnded_bounded (n : Node) (cause : EndCause) (close : CloseCause) (hn : n.Bounded) :
    (n.enterEnded cause close).Bounded := by
  unfold Node.enterEnded
  repeat' split
  all_goals simp (maxDischargeDepth := 9) [hn]

@[simp] theorem enterHalted_bounded (n : Node) (hn : n.Bounded) :
    (n.enterHalted).Bounded := by
  unfold Node.enterHalted
  repeat' split
  all_goals simp (maxDischargeDepth := 9) [hn]

@[simp] theorem openAt_bounded (n : Node) (i : Fin 32) (starved advance : Bool) (hn : n.Bounded) :
    (n.openAt i starved advance).Bounded := by
  unfold Node.openAt
  repeat' split
  all_goals simp (maxDischargeDepth := 9) [hn]

@[simp] theorem closeByCondition_bounded (n : Node) (hn : n.Bounded) :
    (n.closeByCondition).Bounded := by
  unfold Node.closeByCondition
  repeat' split
  all_goals simp (maxDischargeDepth := 9) [hn]

@[simp] theorem goOn_bounded (k : Nat) (b : Bool) (n : Node) (hn : n.Bounded) :
    (Node.goOn k b n).Bounded := by
  induction k generalizing b n with
  | zero => exact hn
  | succ k ih =>
    simp only [Node.goOn]
    repeat' split
    all_goals first
      | exact ih _ _ (closeByCondition_bounded _ (openAt_bounded _ _ _ _ hn))
      | simp [hn]

@[simp] theorem closeAndGoOn_bounded (n : Node) (hn : n.Bounded) :
    n.closeAndGoOn.Bounded := by
  exact goOn_bounded _ _ _ (closeByCondition_bounded _ hn)

@[simp] theorem openAndJudge_bounded (n : Node) (i : Fin 32) (starved : Bool) (hn : n.Bounded) :
    (n.openAndJudge i starved).Bounded := by
  simp only [Node.openAndJudge]
  repeat' split
  all_goals simp (maxDischargeDepth := 9) [hn]

@[simp] theorem judgeEnd_bounded (n : Node) (met : SegFields → Bool) (hn : n.Bounded) :
    (n.judgeEnd met).Bounded := by
  unfold Node.judgeEnd
  repeat' split
  all_goals simp (maxDischargeDepth := 9) [hn]

@[simp] theorem watchStrain_bounded (n : Node) (e : HistEntry) (hn : n.Bounded) :
    (n.watchStrain e).Bounded := by
  unfold Node.watchStrain
  repeat' split
  all_goals simp (maxDischargeDepth := 9) [hn]

@[simp] theorem watchForce_bounded (n : Node) (e : HistEntry) (hn : n.Bounded) :
    (n.watchForce e).Bounded := by
  unfold Node.watchForce
  repeat' split
  all_goals simp (maxDischargeDepth := 9) [hn]

@[simp] theorem watchTravel_bounded (n : Node) (hn : n.Bounded) :
    (n.watchTravel).Bounded := by
  unfold Node.watchTravel
  repeat' split
  all_goals simp (maxDischargeDepth := 9) [hn]

@[simp] theorem watchTime_bounded (n : Node) (hn : n.Bounded) :
    (n.watchTime).Bounded := by
  unfold Node.watchTime
  repeat' split
  all_goals simp (maxDischargeDepth := 9) [hn]

@[simp] theorem yieldReport_bounded (n : Node) (hn : n.Bounded) :
    (n.yieldReport).Bounded := by
  simp only [Node.yieldReport]
  repeat' split
  all_goals simp (maxDischargeDepth := 9) [hn]

@[simp] theorem seqForce_bounded (n : Node) (e : HistEntry) (hn : n.Bounded) :
    (n.seqForce e).Bounded := by
  constructor <;> simp (maxDischargeDepth := 9) [hn]

@[simp] theorem walk_bounded (k : Nat) (n : Node) (hn : n.Bounded) : (Node.walk k n).1.Bounded := by
  induction k generalizing n with
  | zero => exact hn
  | succ k ih =>
    simp only [Node.walk]
    repeat' split
    · exact hn
    · exact skipTo_bounded _ _ hn
    · exact ih _ (skipTo_bounded _ _ hn)

@[simp] theorem walkAndGoOn_bounded (n : Node) (k : Nat) (starved : Bool) (hn : n.Bounded) :
    (n.walkAndGoOn k starved).Bounded := by
  have h := walk_bounded k n hn
  unfold Node.walkAndGoOn
  split <;> rename_i e <;> rw [e] at h
  · exact enterEnded_bounded _ _ _ h
  · exact goOn_bounded _ _ _ h

@[simp] theorem markAhead_bounded (n : Node) (k : Nat) (t : Time) (hn : n.Bounded) :
    (n.markAhead k t).Bounded := by
  simp only [Node.markAhead]
  repeat' split
  all_goals simp (maxDischargeDepth := 9) [hn]

@[simp] theorem judgeMark_bounded (n : Node) (j : Nat) (t : Time) (hn : n.Bounded) :
    (n.judgeMark j t).Bounded := by
  unfold Node.judgeMark
  repeat' split
  all_goals first
    | exact hn
    | exact goOn_bounded _ _ _ (closeOpen_bounded _ _ _ hn)
    | exact markAhead_bounded _ _ _ hn

@[simp] theorem takeMark_bounded (n : Node) (f : RxFrame) (hn : n.Bounded) :
    (n.takeMark f).Bounded := by
  unfold Node.takeMark
  repeat' split
  all_goals simp (maxDischargeDepth := 9) [hn]

@[simp] theorem seqBreak_bounded (n : Node) (hn : n.Bounded) :
    (n.seqBreak).Bounded := by
  unfold Node.seqBreak
  repeat' split
  all_goals simp (maxDischargeDepth := 9) [hn]

/-! ### Halts -/

@[simp] theorem setRecord_bounded (n : Node) (cause : HaltCause) (originator : Fin 16) (standing : Bool) (hn : n.Bounded) :
    (n.setRecord cause originator standing).Bounded := by
  constructor <;> simp (maxDischargeDepth := 9) [hn]

@[simp] theorem localCause_bounded (n : Node) (cause : HaltCause) (hn : n.Bounded) :
    (n.localCause cause).Bounded := by
  unfold Node.localCause
  repeat' split
  all_goals simp (maxDischargeDepth := 9) [hn]

@[simp] theorem stopJogging_bounded (n : Node) (hn : n.Bounded) :
    (n.stopJogging).Bounded := by
  unfold Node.stopJogging
  repeat' split
  all_goals simp (maxDischargeDepth := 9) [hn]

@[simp] theorem receivedCause_bounded (n : Node) (cause : HaltCause) (originator : Fin 16) (hn : n.Bounded) :
    (n.receivedCause cause originator).Bounded := by
  unfold Node.receivedCause
  repeat' split
  all_goals simp (maxDischargeDepth := 9) [hn]

@[simp] theorem takeHalt_bounded (n : Node) (f : RxFrame) (hn : n.Bounded) :
    (n.takeHalt f).Bounded := by
  unfold Node.takeHalt
  repeat' split
  all_goals simp (maxDischargeDepth := 9) [hn]

@[simp] theorem deliverBreak_bounded (n : Node) (hn : n.Bounded) :
    (n.deliverBreak).Bounded := by
  unfold Node.deliverBreak
  repeat' split
  all_goals simp (maxDischargeDepth := 9) [hn]

@[simp] theorem setBreak_bounded (n : Node) (originator : Fin 16) (hn : n.Bounded) :
    (n.setBreak originator).Bounded := by
  constructor <;> simp (maxDischargeDepth := 9) [hn]

@[simp] theorem raiseBreak_bounded (n : Node) (hn : n.Bounded) :
    (n.raiseBreak).Bounded := by
  unfold Node.raiseBreak
  repeat' split
  all_goals simp (maxDischargeDepth := 9) [hn]

@[simp] theorem takeBreak_bounded (n : Node) (f : RxFrame) (hn : n.Bounded) :
    (n.takeBreak f).Bounded := by
  simp only [Node.takeBreak]
  repeat' split
  all_goals simp (maxDischargeDepth := 9) [hn]

@[simp] theorem sampleStop_bounded (n : Node) (asserted : Bool) (hn : n.Bounded) :
    (n.sampleStop asserted).Bounded := by
  simp only [Node.sampleStop]
  repeat' split
  all_goals simp (maxDischargeDepth := 9) [hn]

@[simp] theorem loadLost_bounded (n : Node) (hn : n.Bounded) :
    (n.loadLost).Bounded := by
  unfold Node.loadLost
  repeat' split
  all_goals simp (maxDischargeDepth := 9) [hn]

@[simp] theorem enterSilent_bounded (n : Node) (hn : n.Bounded) :
    (n.enterSilent).Bounded := by
  unfold Node.enterSilent
  repeat' split
  all_goals simp (maxDischargeDepth := 9) [hn]

/-! ### Pairing -/

@[simp] theorem reportYield_bounded (n : Node) (hn : n.Bounded) :
    n.reportYield.Bounded := by
  unfold Node.reportYield
  split
  · exact yieldReport_bounded _ (setEvl_bounded _ _ hn hn.evl)
  · exact hn

@[simp] theorem reportHeld_bounded (n : Node) (held : Bool) (hn : n.Bounded) :
    (n.reportHeld held).Bounded := by
  constructor <;> simp (maxDischargeDepth := 9) [hn]

@[simp] theorem passPair_bounded (n : Node) (p : EvalParams) (x : Pair) (hn : n.Bounded) :
    (n.passPair p x).Bounded := by
  simp only [Node.passPair]
  have early := reportYield_bounded _
    (reportHeld_bounded _ x.held (setEvl_bounded _ _ hn (earlyStages_b _ p x hn.evl)))
  have line := reportYield_bounded _ (setEvl_bounded _ _ early (lineStages_b _ p x early.evl))
  exact setEvl_bounded _ _ line (scanStage_b _ x line.evl)

@[simp] theorem formPair_bounded (n : Node) (l : LoadEntry) (a : Answer) (hn : n.Bounded) :
    (n.formPair l a).Bounded := by
  unfold Node.formPair
  split
  · exact passPair_bounded _ _ _ hn
  · exact hn

@[simp] theorem pairWith_bounded (n : Node) (l : LoadEntry) (a : Answer) (hn : n.Bounded) :
    (n.pairWith l a).Bounded := by
  unfold Node.pairWith
  split
  · exact setEvl_bounded _ _ hn hn.evl
  · exact formPair_bounded _ _ _ hn

@[simp] theorem popLoad_bounded (n : Node) (hn : n.Bounded) :
    n.popLoad.Bounded := by
  refine setEvl_bounded _ _ hn ⟨?_, hn.evl.2⟩
  have := hn.evl.1
  simp only [List.length_drop]; omega

theorem pairFront_bounded (n m : Node) (l : LoadEntry) (h : n.pairFront l = some m) (hn : n.Bounded) :
    m.Bounded := by
  unfold Node.pairFront at h
  revert h; cases Place.inside l.time _ <;> simp
  rintro rfl; exact popLoad_bounded _ (pairWith_bounded _ _ _ hn)

@[simp] theorem pairRounds_bounded (k : Nat) (n : Node) (hn : n.Bounded) :
    (Node.pairRounds k n).Bounded := by
  induction k generalizing n with
  | zero => exact hn
  | succ k ih =>
    unfold Node.pairRounds
    repeat' split
    · exact hn
    · rename_i _ m e; exact ih _ (pairFront_bounded _ _ _ e hn)
    · exact hn
    · exact hn

@[simp] theorem pairingAttempt_bounded (n : Node) (hn : n.Bounded) :
    n.pairingAttempt.Bounded := by
  have h := pairRounds_bounded n.evl.queue.length n hn
  simp only [Node.pairingAttempt]
  split
  · exact endDrain_bounded _ h
  · exact h

/-! The pairing queue is not touched by what follows a pair. -/

theorem endDrain_queue (n : Node) : n.endDrain.evl.queue = n.evl.queue := by
  unfold Node.endDrain Node.completeRecord
  split
  · simp
  · rfl
theorem evalEnding_queue (n : Node) (c : EndCause) : (n.evalEnding c).evl.queue = n.evl.queue := by
  unfold Node.evalEnding
  split
  · rw [endDrain_queue]; simp
  · rfl
theorem enterEnded_queue (n : Node) (c : EndCause) (d : CloseCause) :
    (n.enterEnded c d).evl.queue = n.evl.queue := by
  simp only [Node.enterEnded]; rw [evalEnding_queue]; simp
theorem goOn_queue (k : Nat) (b : Bool) (n : Node) : (Node.goOn k b n).evl.queue = n.evl.queue := by
  induction k generalizing b n with
  | zero => rfl
  | succ k ih =>
    simp only [Node.goOn]
    repeat' split
    · exact enterEnded_queue _ _ _
    · rw [ih]; simp
    · simp
    · simp
theorem reportYield_queue (n : Node) : n.reportYield.evl.queue = n.evl.queue := by
  unfold Node.reportYield
  split
  · simp only [Node.yieldReport, Node.closeAndGoOn]
    split
    · rw [goOn_queue]; simp
    · simp
  · rfl
theorem pairWith_queue (n : Node) (l : LoadEntry) (a : Answer) : (n.pairWith l a).evl.queue = n.evl.queue := by
  simp only [Node.pairWith, Node.formPair, Node.passPair]
  repeat' split
  · simp
  · simp [Evl.scanStage, reportYield_queue, (lineStages_queues _ _ _).1, (earlyStages_queues _ _ _).1]
  · rfl
/-- A full queue has lost its front entry (R157). -/
theorem overflow_queue (n : Node) : n.overflow.evl.queue = n.evl.queue.drop 1 := by
  unfold Node.overflow
  split
  · rename_i e; simp [e]
  · split
    · simp [Node.popLoad, pairWith_queue]
    · rfl
@[simp] theorem overflow_bounded (n : Node) (hn : n.Bounded) : n.overflow.Bounded := by
  have h := popLoad_bounded n hn
  unfold Node.overflow
  repeat' split
  · exact hn
  · exact popLoad_bounded _ (pairWith_bounded _ _ _ hn)
  · exact setEvl_bounded _ _ h h.evl

theorem pushLoad_bounded (n : Node) (e : HistEntry) (hn : n.Bounded) (hq : n.evl.queue.length < 16) :
    (n.pushLoad e).Bounded := by
  refine setEvl_bounded _ _ hn ⟨?_, hn.evl.2⟩
  simp only [List.length_append, List.length_cons, List.length_nil]; omega

@[simp] theorem evalLoad_bounded (n : Node) (e : HistEntry) (hn : n.Bounded) :
    (n.evalLoad e).Bounded := by
  simp only [Node.evalLoad]
  split
  · apply pairingAttempt_bounded
    split
    · rename_i hq; exact pushLoad_bounded _ _ hn hq
    · refine pushLoad_bounded _ _ (overflow_bounded _ hn) ?_
      have := hn.evl.1
      rw [overflow_queue, List.length_drop]; omega
  · exact hn

@[simp] theorem evalStrain_bounded (n : Node) (e : HistEntry) (hn : n.Bounded) :
    (n.evalStrain e).Bounded := by
  unfold Node.evalStrain
  split
  · exact pairingAttempt_bounded _ (setEvl_bounded _ _ hn hn.evl)
  · exact hn

@[simp] theorem consumeStrain_bounded (n : Node) (e : HistEntry) (hn : n.Bounded) :
    (n.consumeStrain e).Bounded := by
  unfold Node.consumeStrain
  repeat' split
  all_goals simp (maxDischargeDepth := 9) [hn]

@[simp] theorem consumeForce_bounded (n : Node) (e : HistEntry) (hn : n.Bounded) :
    (n.consumeForce e).Bounded := by
  unfold Node.consumeForce
  repeat' split
  all_goals simp (maxDischargeDepth := 9) [hn]

@[simp] theorem consumeSub_bounded (n : Node) (i : Fin 4) (e : HistEntry) (hn : n.Bounded) :
    (n.consumeSub i e).Bounded := by
  unfold Node.consumeSub
  repeat' split
  all_goals simp (maxDischargeDepth := 9) [hn]

/-! ### LoadChannel -/

/-- The zero's codes number at most 16 before its completion, and below 16 after it (R11, R12). -/
theorem zeroStage_bounded (n : Node) (l : Lc) (hn : n.Bounded) (h1 : l.hist.length ≤ 8) (h2 : l.settle ≤ 4)
    (h3 : l.down < 64) (h4 : codesOf l.zero ≤ 16) : (n.setLc l).zeroStage.Bounded := by
  simp only [Node.zeroStage, setLc_fields]
  split
  · split
    · exact (setSeq_bounded _ _).mpr (setLc_bounded n _ hn ⟨h1, h2, h3, by simp [codesOf]⟩)
    · exact health_bounded _ _ _ (setLc_bounded n _ hn ⟨h1, h2, h3, by simp [codesOf, Lc.setTare]⟩)
  · rename_i e
    refine setLc_bounded n _ hn ⟨h1, h2, h3, ?_⟩
    revert e h4
    unfold Lc.newTare
    cases l.zero with
    | none => simp [codesOf]
    | some z => simp only [codesOf, zeroCodes]; intro h4; by_cases h : z.count = 16 <;> simp [h]; omega
@[simp] theorem acceptConversion_bounded (n : Node) (c : Int) (hn : n.Bounded) :
    (n.acceptConversion c).Bounded := by
  have h : (n.setLc ((n.lc.accumulate c n.now).collect c)).zeroStage.Bounded := by
    refine zeroStage_bounded n _ hn hn.lc.1 hn.lc.2.1 hn.lc.2.2.1 ?_
    have := hn.lc.2.2.2
    revert this
    unfold Lc.collect Lc.accumulate
    dsimp only
    cases n.lc.zero <;> simp [codesOf] <;> omega
  simp only [Node.acceptConversion]
  split
  · exact h
  · exact setLc_bounded _ _ h (autorange_b _ _ _ h.lc)

@[simp] theorem endBalance_bounded (n : Node) (residue : Int) (hn : n.Bounded) :
    (n.endBalance residue).Bounded := by
  exact health_bounded _ _ _ (setLc_bounded _ _ hn hn.lc)

@[simp] theorem updateFmax_bounded (n : Node) (e : HistEntry) (hn : n.Bounded) :
    (n.updateFmax e).Bounded := by
  unfold Node.updateFmax
  split
  · exact setLc_bounded _ _ hn hn.lc
  · exact hn

@[simp] theorem detectBreak_bounded (n : Node) (e : HistEntry) (hn : n.Bounded) :
    (n.detectBreak e).Bounded := by
  unfold Node.detectBreak
  repeat' split
  · exact raiseBreak_bounded _ (setLc_bounded _ _ hn hn.lc)
  · exact hn
  · exact hn

@[simp] theorem checkOverload_bounded (n : Node) (e : HistEntry) (hn : n.Bounded) :
    (n.checkOverload e).Bounded := by
  unfold Node.checkOverload
  repeat' split
  all_goals simp (maxDischargeDepth := 9) [hn]

@[simp] theorem consumeLoad_bounded (n : Node) (e : HistEntry) (hn : n.Bounded) :
    (n.consumeLoad e).Bounded := by
  unfold Node.consumeLoad
  repeat' split
  all_goals simp (maxDischargeDepth := 9) [hn]

@[simp] theorem publishLoad_bounded (n : Node) (hn : n.Bounded) :
    (n.publishLoad).Bounded := by
  unfold Node.publishLoad
  repeat' split
  all_goals simp (maxDischargeDepth := 9) [hn]

@[simp] theorem publishStage_bounded (n : Node) (hn : n.Bounded) :
    n.publishStage.Bounded := by
  unfold Node.publishStage
  split
  · exact publishLoad_bounded _ hn
  · exact setLc_bounded _ _ hn hn.lc

@[simp] theorem measure_bounded (n : Node) (c : Int) (hn : n.Bounded) :
    (n.measure c).1.Bounded := by
  unfold Node.measure
  repeat' split
  all_goals simp (maxDischargeDepth := 9) [hn]

@[simp] theorem convert_bounded (n : Node) (c : Int) (hn : n.Bounded) :
    (n.convert c).Bounded := by
  simp only [Node.convert]
  repeat' split
  all_goals simp (maxDischargeDepth := 9) [hn]

@[simp] theorem lcFrameReset_bounded (n : Node) (hn : n.Bounded) :
    n.lcFrameReset.Bounded := by
  have h := cancelBalance_b _ hn.lc
  unfold Node.lcFrameReset
  split
  · exact setLc_bounded _ _ hn ⟨Nat.zero_le _, h.2.1, h.2.2.1, by simp [codesOf]⟩
  · exact hn

/-! ### Drive -/

@[simp] theorem acceptEncoder_bounded (n : Node) (a b : Bool) (hn : n.Bounded) :
    (n.acceptEncoder a b).Bounded := by
  constructor <;> simp (maxDischargeDepth := 9) [hn]

@[simp] theorem encoderError_bounded (n : Node) (hn : n.Bounded) :
    (n.encoderError).Bounded := by
  unfold Node.encoderError
  repeat' split
  all_goals simp (maxDischargeDepth := 9) [hn]

@[simp] theorem encoderStep_bounded (n : Node) (s : QuadStep) (hn : n.Bounded) :
    (n.encoderStep s).Bounded := by
  unfold Node.encoderStep
  repeat' split
  all_goals simp (maxDischargeDepth := 9) [hn]

@[simp] theorem rampStage_bounded (n : Node) (hn : n.Bounded) :
    (n.rampStage).Bounded := by
  unfold Node.rampStage
  repeat' split
  all_goals simp (maxDischargeDepth := 9) [hn]

@[simp] theorem levelStage_bounded (n : Node) (hn : n.Bounded) :
    (n.levelStage).Bounded := by
  simp only [Node.levelStage]
  repeat' split
  all_goals simp (maxDischargeDepth := 9) [hn]

@[simp] theorem issueStage_bounded (n : Node) (e : Option Int) (hn : n.Bounded) :
    (n.issueStage e).Bounded := by
  simp only [Node.issueStage]
  repeat' split
  all_goals simp (maxDischargeDepth := 9) [hn]

@[simp] theorem setGen_bounded (n : Node) (g : Gen) (hn : n.Bounded) :
    (n.setGen g).Bounded := by
  unfold Node.setGen
  repeat' split
  all_goals simp (maxDischargeDepth := 9) [hn]

@[simp] theorem runGenerator_bounded (n : Node) (v : Int) (hn : n.Bounded) :
    (n.runGenerator v).Bounded := by
  simp only [Node.runGenerator]
  repeat' split
  all_goals simp (maxDischargeDepth := 9) [hn]

@[simp] theorem periodStage_bounded (n : Node) (hn : n.Bounded) :
    (n.periodStage).Bounded := by
  unfold Node.periodStage
  repeat' split
  all_goals simp (maxDischargeDepth := 9) [hn]

@[simp] theorem limitStage_bounded (n : Node) (hn : n.Bounded) :
    (n.limitStage).Bounded := by
  simp only [Node.limitStage]
  repeat' split
  all_goals simp (maxDischargeDepth := 9) [hn]

@[simp] theorem handFollowing_bounded (n : Node) (hn : n.Bounded) :
    (n.handFollowing).Bounded := by
  unfold Node.handFollowing
  repeat' split
  all_goals simp (maxDischargeDepth := 9) [hn]

@[simp] theorem followStage_bounded (n : Node) (hn : n.Bounded) :
    (n.followStage).Bounded := by
  simp only [Node.followStage]
  repeat' split
  all_goals simp (maxDischargeDepth := 9) [hn]

@[simp] theorem publishTravel_bounded (n : Node) (hn : n.Bounded) :
    (n.publishTravel).Bounded := by
  unfold Node.publishTravel
  repeat' split
  all_goals simp (maxDischargeDepth := 9) [hn]

@[simp] theorem travelStage_bounded (n : Node) (hn : n.Bounded) :
    (n.travelStage).Bounded := by
  unfold Node.travelStage
  repeat' split
  all_goals simp (maxDischargeDepth := 9) [hn]

@[simp] theorem pacer_bounded (n : Node) (hn : n.Bounded) :
    (n.pacer).Bounded := by
  unfold Node.pacer
  repeat' split
  all_goals simp (maxDischargeDepth := 9) [hn]

@[simp] theorem sampleLimits_bounded (n : Node) (lo hi : Bool) (hn : n.Bounded) :
    (n.sampleLimits lo hi).Bounded := by
  constructor <;> simp (maxDischargeDepth := 9) [hn]

@[simp] theorem underflow_bounded (n : Node) (hn : n.Bounded) :
    n.underflow.Bounded := by
  unfold Node.underflow
  split
  · exact setTsg_bounded _ _ hn hn.tsg
  · exact setGen_bounded _ _ hn
  · exact hn

@[simp] theorem pulseEnds_bounded (n : Node) (hn : n.Bounded) :
    (n.pulseEnds).Bounded := by
  unfold Node.pulseEnds
  repeat' split
  all_goals simp (maxDischargeDepth := 9) [hn]

@[simp] theorem runDownEnds_bounded (n : Node) (hn : n.Bounded) :
    (n.runDownEnds).Bounded := by
  unfold Node.runDownEnds
  repeat' split
  all_goals simp (maxDischargeDepth := 9) [hn]

@[simp] theorem tsgFrameReset_bounded (n : Node) (hn : n.Bounded) :
    (n.tsgFrameReset).Bounded := by
  unfold Node.tsgFrameReset
  repeat' split
  all_goals simp (maxDischargeDepth := 9) [hn]

@[simp] theorem clearEncFault_bounded (n : Node) (hn : n.Bounded) :
    (n.clearEncFault).Bounded := by
  unfold Node.clearEncFault
  repeat' split
  all_goals simp (maxDischargeDepth := 9) [hn]

/-! ### StartUp -/

@[simp] theorem enterConfigFault_bounded (n : Node) (code : FaultCode) (field : Nat) (kept : Image) (hn : n.Bounded) :
    (n.enterConfigFault code field kept).Bounded := by
  unfold Node.enterConfigFault
  repeat' split
  all_goals simp (maxDischargeDepth := 9) [hn]

@[simp] theorem startLoad_bounded (n : Node) (hn : n.Bounded) :
    n.startLoad.Bounded := by
  unfold Node.startLoad
  split
  · exact setLc_bounded _ _ hn hn.lc
  · exact hn

@[simp] theorem startExt_bounded (n : Node) (hn : n.Bounded) :
    (n.startExt).Bounded := by
  unfold Node.startExt
  repeat' split
  all_goals simp (maxDischargeDepth := 9) [hn]

@[simp] theorem goLive_bounded (n : Node) (hn : n.Bounded) :
    (n.goLive).Bounded := by
  unfold Node.goLive
  repeat' split
  all_goals simp (maxDischargeDepth := 9) [hn]

@[simp] theorem enterActive_bounded (n : Node) (img : Image) (hn : n.Bounded) :
    (n.enterActive img).Bounded := by
  unfold Node.enterActive
  repeat' split
  all_goals simp (maxDischargeDepth := 9) [hn]

@[simp] theorem imageRead_bounded (n : Node) (bytes : List Byte) (hn : n.Bounded) :
    (n.imageRead bytes).Bounded := by
  unfold Node.imageRead
  repeat' split
  all_goals simp (maxDischargeDepth := 9) [hn]

/-! ### TestCommands -/

@[simp] theorem seqStart_bounded (n : Node) (hn : n.Bounded) :
    (n.seqStart).Bounded := by
  unfold Node.seqStart
  repeat' split
  all_goals simp (maxDischargeDepth := 9) [hn]

@[simp] theorem lcStart_bounded (n : Node) (hn : n.Bounded) :
    n.lcStart.Bounded := by
  unfold Node.lcStart
  split
  · exact setLc_bounded _ _ hn hn.lc
  · exact hn

@[simp] theorem endJog_bounded (n : Node) (hn : n.Bounded) :
    (n.endJog).Bounded := by
  unfold Node.endJog
  repeat' split
  all_goals simp (maxDischargeDepth := 9) [hn]

@[simp] theorem takenStart_bounded (n : Node) (hn : n.Bounded) :
    n.takenStart.Bounded := by
  have h : (((n.seqStart.recordDatums).captureLevel.exhStart).lcStart.endJog).Bounded := by
    simp (maxDischargeDepth := 9) [hn]
  unfold Node.takenStart
  exact loadLost_bounded _ (openAndJudge_bounded _ _ _ ((setHlt_bounded _ _).mpr
    (evalStart_bounded _ (setHlm_bounded _ _ h (atStart_b _ h.hlm)))))

@[simp] theorem judgeStart_bounded (n : Node) (testId : Nat) (hn : n.Bounded) :
    (n.judgeStart testId).Bounded := by
  unfold Node.judgeStart
  repeat' split
  all_goals simp (maxDischargeDepth := 9) [hn]

@[simp] theorem takeStart_bounded (n : Node) (f : RxFrame) (hn : n.Bounded) :
    (n.takeStart f).Bounded := by
  unfold Node.takeStart
  repeat' split
  all_goals simp (maxDischargeDepth := 9) [hn]

@[simp] theorem takePause_bounded (n : Node) (x1 : RxFrame) (hn : n.Bounded) :
    (n.takePause x1).Bounded := by
  unfold Node.takePause
  repeat' split
  all_goals simp (maxDischargeDepth := 9) [hn]

@[simp] theorem resumeRequest_bounded (n : Node) (hn : n.Bounded) :
    (n.resumeRequest).Bounded := by
  unfold Node.resumeRequest
  repeat' split
  all_goals simp (maxDischargeDepth := 9) [hn]

@[simp] theorem resumed_bounded (n : Node) (hn : n.Bounded) :
    (n.resumed).Bounded := by
  simp only [Node.resumed]
  repeat' split
  all_goals simp (maxDischargeDepth := 9) [hn]

@[simp] theorem takeResume_bounded (n : Node) (x1 : RxFrame) (hn : n.Bounded) :
    (n.takeResume x1).Bounded := by
  unfold Node.takeResume
  repeat' split
  all_goals simp (maxDischargeDepth := 9) [hn]

@[simp] theorem abortArmed_bounded (n : Node) (hn : n.Bounded) :
    (n.abortArmed).Bounded := by
  unfold Node.abortArmed
  repeat' split
  all_goals simp (maxDischargeDepth := 9) [hn]

@[simp] theorem abortHalted_bounded (n : Node) (hn : n.Bounded) :
    (n.abortHalted).Bounded := by
  unfold Node.abortHalted
  repeat' split
  all_goals simp (maxDischargeDepth := 9) [hn]

@[simp] theorem takeAbort_bounded (n : Node) (x1 : RxFrame) (hn : n.Bounded) :
    (n.takeAbort x1).Bounded := by
  unfold Node.takeAbort
  repeat' split
  all_goals simp (maxDischargeDepth := 9) [hn]

@[simp] theorem cleared_bounded (n : Node) (hn : n.Bounded) :
    n.cleared.Bounded := by
  exact clearEncFault_bounded _ (setTest_bounded _ _ ((setSeq_bounded _ _).mpr
    (setLc_bounded (n.setHlt { n.hlt with record := none, stopPrev := false }) _
      ((setHlt_bounded _ _).mpr hn) hn.lc)))

@[simp] theorem takeClear_bounded (n : Node) (x1 : RxFrame) (hn : n.Bounded) :
    (n.takeClear x1).Bounded := by
  unfold Node.takeClear
  repeat' split
  all_goals simp (maxDischargeDepth := 9) [hn]

@[simp] theorem toReady_bounded (n : Node) (hn : n.Bounded) :
    (n.toReady).Bounded := by
  unfold Node.toReady
  repeat' split
  all_goals simp (maxDischargeDepth := 9) [hn]

@[simp] theorem blocksReset_bounded (n : Node) (hn : n.Bounded) :
    (n.blocksReset).Bounded := by
  unfold Node.blocksReset
  repeat' split
  all_goals simp (maxDischargeDepth := 9) [hn]

@[simp] theorem frameReset_bounded (n : Node) (hn : n.Bounded) :
    (n.frameReset).Bounded := by
  simp only [Node.frameReset]
  repeat' split
  all_goals simp (maxDischargeDepth := 9) [hn]

@[simp] theorem takeFrameReset_bounded (n : Node) (x1 : RxFrame) (hn : n.Bounded) :
    (n.takeFrameReset x1).Bounded := by
  unfold Node.takeFrameReset
  repeat' split
  all_goals simp (maxDischargeDepth := 9) [hn]

@[simp] theorem takeUnknown_bounded (n : Node) (x1 : RxFrame) (hn : n.Bounded) :
    (n.takeUnknown x1).Bounded := by
  constructor <;> simp (maxDischargeDepth := 9) [hn]

/-! ### Orders -/

@[simp] theorem dropOther_bounded (n : Node) (testId : Nat) (hn : n.Bounded) :
    (n.dropOther testId).Bounded := by
  unfold Node.dropOther
  repeat' split
  all_goals simp (maxDischargeDepth := 9) [hn]

@[simp] theorem setGauge_bounded (n : Node) (o : Order) (hn : n.Bounded) :
    (n.setGauge o).Bounded := by
  unfold Node.setGauge
  repeat' split
  all_goals simp (maxDischargeDepth := 9) [hn]

@[simp] theorem putPart_bounded (n : Node) (testId : Nat) (x : OrderPart) (hn : n.Bounded) :
    (n.putPart testId x).Bounded := by
  simp only [Node.putPart]
  repeat' split
  all_goals simp (maxDischargeDepth := 9) [hn]

@[simp] theorem takeOrder_bounded (n : Node) (f : RxFrame) (hn : n.Bounded) :
    (n.takeOrder f).Bounded := by
  simp only [Node.takeOrder]
  repeat' split
  all_goals simp (maxDischargeDepth := 9) [hn]

@[simp] theorem loadSegment_bounded (n : Node) (i : Fin 32) (f : SegFields) (hn : n.Bounded) :
    (n.loadSegment i f).Bounded := by
  simp only [Node.loadSegment]
  repeat' split
  all_goals simp (maxDischargeDepth := 9) [hn]

@[simp] theorem judgeSegment_bounded (n : Node) (p : List Byte) (hn : n.Bounded) :
    (n.judgeSegment p).Bounded := by
  unfold Node.judgeSegment
  repeat' split
  all_goals simp (maxDischargeDepth := 9) [hn]

@[simp] theorem takeSegment_bounded (n : Node) (f : RxFrame) (hn : n.Bounded) :
    (n.takeSegment f).Bounded := by
  unfold Node.takeSegment
  repeat' split
  all_goals simp (maxDischargeDepth := 9) [hn]

/-! ### BlockCommands -/

@[simp] theorem startZero_bounded (n : Node) (hn : n.Bounded) :
    n.startZero.Bounded := by
  simp only [Node.startZero]
  apply zeroArms_bounded
  split
  · exact setLc_bounded _ _ hn ⟨hn.lc.1, hn.lc.2.1, hn.lc.2.2.1, by simp [codesOf]⟩
  · exact hn

@[simp] theorem takeZero_bounded (n : Node) (x1 : RxFrame) (hn : n.Bounded) :
    (n.takeZero x1).Bounded := by
  unfold Node.takeZero
  repeat' split
  all_goals simp (maxDischargeDepth := 9) [hn]

@[simp] theorem takeBalance_bounded (n : Node) (x1 : RxFrame) (hn : n.Bounded) :
    (n.takeBalance x1).Bounded := by
  unfold Node.takeBalance
  repeat' split
  all_goals simp (maxDischargeDepth := 9) [hn]

@[simp] theorem startJog_bounded (n : Node) (v : Int) (hn : n.Bounded) :
    (n.startJog v).Bounded := by
  unfold Node.startJog
  repeat' split
  all_goals simp (maxDischargeDepth := 9) [hn]

@[simp] theorem judgeJog_bounded (n : Node) (v : Int) (hn : n.Bounded) :
    (n.judgeJog v).Bounded := by
  unfold Node.judgeJog
  repeat' split
  all_goals simp (maxDischargeDepth := 9) [hn]

@[simp] theorem takeJog_bounded (n : Node) (f : RxFrame) (hn : n.Bounded) :
    (n.takeJog f).Bounded := by
  unfold Node.takeJog
  repeat' split
  all_goals simp (maxDischargeDepth := 9) [hn]

@[simp] theorem takeStopJog_bounded (n : Node) (x1 : RxFrame) (hn : n.Bounded) :
    (n.takeStopJog x1).Bounded := by
  unfold Node.takeStopJog
  repeat' split
  all_goals simp (maxDischargeDepth := 9) [hn]

/-! ### Queries -/

@[simp] theorem clearGap_bounded (n : Node) (id : Fin 16) (page : Nat) (hn : n.Bounded) :
    (n.clearGap id page).Bounded := by
  unfold Node.clearGap
  repeat' split
  all_goals simp (maxDischargeDepth := 9) [hn]

@[simp] theorem reply_bounded (n : Node) (f : RxFrame) (contents : List Byte) (hn : n.Bounded) :
    (n.reply f contents).Bounded := by
  unfold Node.reply
  repeat' split
  all_goals simp (maxDischargeDepth := 9) [hn]

@[simp] theorem takeStatus_bounded (n : Node) (f : RxFrame) (hn : n.Bounded) :
    (n.takeStatus f).Bounded := by
  unfold Node.takeStatus
  repeat' split
  all_goals simp (maxDischargeDepth := 9) [hn]

@[simp] theorem takeSegmentQuery_bounded (n : Node) (f : RxFrame) (hn : n.Bounded) :
    (n.takeSegmentQuery f).Bounded := by
  unfold Node.takeSegmentQuery
  repeat' split
  all_goals simp (maxDischargeDepth := 9) [hn]

@[simp] theorem takeResultQuery_bounded (n : Node) (f : RxFrame) (hn : n.Bounded) :
    (n.takeResultQuery f).Bounded := by
  unfold Node.takeResultQuery
  repeat' split
  all_goals simp (maxDischargeDepth := 9) [hn]

@[simp] theorem takeHealthQuery_bounded (n : Node) (f : RxFrame) (hn : n.Bounded) :
    (n.takeHealthQuery f).Bounded := by
  unfold Node.takeHealthQuery
  repeat' split
  all_goals simp (maxDischargeDepth := 9) [hn]

@[simp] theorem takePeerQuery_bounded (n : Node) (f : RxFrame) (hn : n.Bounded) :
    (n.takePeerQuery f).Bounded := by
  unfold Node.takePeerQuery
  repeat' split
  all_goals simp (maxDischargeDepth := 9) [hn]

@[simp] theorem takeRefused_bounded (n : Node) (f : RxFrame) (hn : n.Bounded) :
    (n.takeRefused f).Bounded := by
  unfold Node.takeRefused
  repeat' split
  all_goals simp (maxDischargeDepth := 9) [hn]

/-! ### BusEvents -/

@[simp] theorem runStart_bounded (n : Node) (hn : n.Bounded) :
    (n.runStart).Bounded := by
  unfold Node.runStart
  repeat' split
  all_goals simp (maxDischargeDepth := 9) [hn]

@[simp] theorem skippingEnd_bounded (n : Node) (hn : n.Bounded) :
    (n.skippingEnd).Bounded := by
  unfold Node.skippingEnd
  repeat' split
  all_goals simp (maxDischargeDepth := 9) [hn]

@[simp] theorem receiveError_bounded (n : Node) (e : ReceiveError) (hn : n.Bounded) :
    (n.receiveError e).Bounded := by
  unfold Node.receiveError
  repeat' split
  all_goals simp (maxDischargeDepth := 9) [hn]

@[simp] theorem enqueue_bounded (n : Node) (k : MsgKind) (f : RxFrame) (hn : n.Bounded) :
    (n.enqueue k f).Bounded := by
  unfold Node.enqueue
  repeat' split
  · rename_i h
    refine setFbc_bounded _ _ hn ⟨?_, hn.fbc.2⟩
    simp only [urgentCapacity] at h
    simp only [List.length_append, List.length_cons, List.length_nil]; omega
  · exact health_bounded _ _ _ hn
  · rename_i h
    refine setFbc_bounded _ _ hn ⟨hn.fbc.1, ?_, hn.fbc.2.2⟩
    simp only [normalCapacity] at h
    simp only [List.length_append, List.length_cons, List.length_nil]; omega
  · exact health_bounded _ _ _ hn

@[simp] theorem hearPeer_bounded (n : Node) (h : Header) (p : List Byte) (hn : n.Bounded) :
    (n.hearPeer h p).Bounded := by
  have h' := setFbc_bounded n { n.fbc with facts := n.fbc.facts ++ [factsOf h n.fbc.rxStamp] } hn hn.fbc
  simp only [Node.hearPeer]
  split
  · exact enqueue_bounded _ _ _ h'
  · exact h'

@[simp] theorem hearOwn_bounded (n : Node) (hn : n.Bounded) :
    (n.hearOwn).Bounded := by
  unfold Node.hearOwn
  repeat' split
  all_goals simp (maxDischargeDepth := 9) [hn]

@[simp] theorem completeFrame_bounded (n : Node) (h : Header) (p : List Byte) (hn : n.Bounded) :
    (n.completeFrame h p).Bounded := by
  simp only [Node.completeFrame]
  repeat' split
  all_goals simp (maxDischargeDepth := 9) [hn]

@[simp] theorem receive_bounded (n : Node) (chars : List Byte) (hn : n.Bounded) :
    (n.receive chars).Bounded := by
  unfold Node.receive
  repeat' split
  all_goals simp (maxDischargeDepth := 9) [hn]

@[simp] theorem attemptStart_bounded (n : Node) (hn : n.Bounded) :
    (n.attemptStart).Bounded := by
  unfold Node.attemptStart
  repeat' split
  all_goals simp (maxDischargeDepth := 9) [hn]

@[simp] theorem attemptEnd_bounded (n : Node) (readBack : List LineChar) (hn : n.Bounded) :
    (n.attemptEnd readBack).Bounded := by
  unfold Node.attemptEnd
  repeat' split
  all_goals simp (maxDischargeDepth := 9) [hn]

@[simp] theorem windowPasses_bounded (n : Node) (c : FrameClass) (hn : n.Bounded) :
    (n.windowPasses c).Bounded := by
  unfold Node.windowPasses
  split
  · exact setFbc_bounded _ _ hn hn.fbc
  · exact hn

@[simp] theorem pendingEntry_bounded (n : Node) (hn : n.Bounded) :
    (n.pendingEntry).Bounded := by
  unfold Node.pendingEntry
  repeat' split
  all_goals simp (maxDischargeDepth := 9) [hn]

/-! ### PeerEvents -/

@[simp] theorem factsArrive_bounded (n : Node) (hn : n.Bounded) :
    n.factsArrive.Bounded := by
  unfold Node.factsArrive
  split
  · exact takeFacts_bounded _ _ (setFbc_bounded _ _ hn hn.fbc)
  · exact hn

@[simp] theorem takeSample_bounded (n : Node) (f : RxFrame) (hn : n.Bounded) :
    (n.takeSample f).Bounded := by
  unfold Node.takeSample
  split
  · rename_i i _
    have h := judgeSample_bounded n i f hn
    split <;> rename_i e <;> rw [e] at h
    · exact consumeSub_bounded _ _ _ h
    · exact h
  · exact hn

@[simp] theorem reseedTimer_bounded (n : Node) (i : Fin 16) (hn : n.Bounded) :
    (n.reseedTimer i).Bounded := by
  unfold Node.reseedTimer
  repeat' split
  all_goals simp (maxDischargeDepth := 9) [hn]

@[simp] theorem silenceTimer_bounded (n : Node) (i : Fin 16) (hn : n.Bounded) :
    (n.silenceTimer i).Bounded := by
  unfold Node.silenceTimer
  repeat' split
  all_goals simp (maxDischargeDepth := 9) [hn]

@[simp] theorem partnerStale_bounded (n : Node) (hn : n.Bounded) :
    (n.partnerStale).Bounded := by
  unfold Node.partnerStale
  repeat' split
  all_goals simp (maxDischargeDepth := 9) [hn]

@[simp] theorem deliverStale_bounded (n : Node) (i : Fin 4) (hn : n.Bounded) :
    (n.deliverStale i).Bounded := by
  unfold Node.deliverStale
  repeat' split
  all_goals simp (maxDischargeDepth := 9) [hn]

@[simp] theorem stalenessTimer_bounded (n : Node) (i : Fin 4) (hn : n.Bounded) :
    (n.stalenessTimer i).Bounded := by
  unfold Node.stalenessTimer
  repeat' split
  all_goals simp (maxDischargeDepth := 9) [hn]

/-! ### MeasureEvents -/

@[simp] theorem imageComplete_bounded (n : Node) (image : List Byte) (hn : n.Bounded) :
    (n.imageComplete image).Bounded := by
  unfold Node.imageComplete
  repeat' split
  all_goals simp (maxDischargeDepth := 9) [hn]

@[simp] theorem conversion_bounded (n : Node) (code : Int) (hn : n.Bounded) :
    (n.conversion code).Bounded := by
  unfold Node.conversion
  repeat' split
  all_goals simp (maxDischargeDepth := 9) [hn]

@[simp] theorem encoderEvent_bounded (n : Node) (a b : Bool) (hn : n.Bounded) :
    (n.encoderEvent a b).Bounded := by
  unfold Node.encoderEvent
  repeat' split
  all_goals simp (maxDischargeDepth := 9) [hn]

@[simp] theorem pacerExpiry_bounded (n : Node) (lo hi : Bool) (hn : n.Bounded) :
    (n.pacerExpiry lo hi).Bounded := by
  unfold Node.pacerExpiry
  repeat' split
  all_goals simp (maxDischargeDepth := 9) [hn]

@[simp] theorem genUnderflow_bounded (n : Node) (hn : n.Bounded) :
    (n.genUnderflow).Bounded := by
  unfold Node.genUnderflow
  repeat' split
  all_goals simp (maxDischargeDepth := 9) [hn]

@[simp] theorem genPulseEnd_bounded (n : Node) (hn : n.Bounded) :
    (n.genPulseEnd).Bounded := by
  unfold Node.genPulseEnd
  repeat' split
  all_goals simp (maxDischargeDepth := 9) [hn]

@[simp] theorem runDownTimer_bounded (n : Node) (hn : n.Bounded) :
    (n.runDownTimer).Bounded := by
  unfold Node.runDownTimer
  repeat' split
  all_goals simp (maxDischargeDepth := 9) [hn]

@[simp] theorem acceptArm_bounded (n : Node) (arm : Arm) (a b : Bool) (hn : n.Bounded) :
    (n.acceptArm arm a b).Bounded := by
  constructor <;> simp (maxDischargeDepth := 9) [hn]

@[simp] theorem armEvent_bounded (n : Node) (arm : Arm) (a b : Bool) (hn : n.Bounded) :
    (n.armEvent arm a b).Bounded := by
  unfold Node.armEvent
  split
  · refine setExh_bounded _ _ (acceptArm_bounded _ _ _ _ hn) ?_
    have := hn.exh
    cases arm <;> exact this
  · exact hn

@[simp] theorem publishStrain_bounded (n : Node) (r : Reading) (e : StrainEntry) (hn : n.Bounded) :
    (n.publishStrain r e).Bounded := by
  refine consumeStrain_bounded _ _ (handDisagree_bounded _ _ _ (setExh_bounded _ _
    (sendSample_bounded _ _ _ hn) ?_))
  exact pushBounded_length 8 _ _

@[simp] theorem strainPoint_bounded (n : Node) (r : Reading) (hn : n.Bounded) :
    (n.strainPoint r).Bounded := by
  unfold Node.strainPoint
  repeat' split
  all_goals simp (maxDischargeDepth := 9) [hn]

@[simp] theorem reading_bounded (n : Node) (hn : n.Bounded) :
    (n.reading).Bounded := by
  simp only [Node.reading]
  repeat' split
  all_goals simp (maxDischargeDepth := 9) [hn]

@[simp] theorem armReading_bounded (n : Node) (hn : n.Bounded) :
    (n.armReading).Bounded := by
  unfold Node.armReading
  repeat' split
  all_goals simp (maxDischargeDepth := 9) [hn]

@[simp] theorem armClosedChange_bounded (n : Node) (arm1 arm2 : Bool) (hn : n.Bounded) :
    (n.armClosedChange arm1 arm2).Bounded := by
  simp only [Node.armClosedChange]
  repeat' split
  all_goals simp (maxDischargeDepth := 9) [hn]

@[simp] theorem releaseTimer_bounded (n : Node) (hn : n.Bounded) :
    (n.releaseTimer).Bounded := by
  unfold Node.releaseTimer
  repeat' split
  all_goals simp (maxDischargeDepth := 9) [hn]

@[simp] theorem lockTimer_bounded (n : Node) (hn : n.Bounded) :
    (n.lockTimer).Bounded := by
  constructor <;> simp (maxDischargeDepth := 9) [hn]

@[simp] theorem stopSample_bounded (n : Node) (asserted : Bool) (hn : n.Bounded) :
    (n.stopSample asserted).Bounded := by
  unfold Node.stopSample
  repeat' split
  all_goals simp (maxDischargeDepth := 9) [hn]

@[simp] theorem segmentClock_bounded (n : Node) (hn : n.Bounded) :
    (n.segmentClock).Bounded := by
  unfold Node.segmentClock
  repeat' split
  all_goals simp (maxDischargeDepth := 9) [hn]

@[simp] theorem drainTimer_bounded (n : Node) (hn : n.Bounded) :
    (n.drainTimer).Bounded := by
  unfold Node.drainTimer
  repeat' split
  all_goals simp (maxDischargeDepth := 9) [hn]

/-! ### Clock -/

@[simp] theorem countDrive_bounded (n : Node) (hn : n.Bounded) :
    (n.countDrive).Bounded := by
  constructor <;> simp (maxDischargeDepth := 9) [hn]

@[simp] theorem countArms_bounded (n : Node) (hn : n.Bounded) :
    (n.countArms).Bounded := by
  constructor <;> simp (maxDischargeDepth := 9) [hn]

@[simp] theorem countGen_bounded (n : Node) (hn : n.Bounded) :
    (n.countGen).Bounded := by
  unfold Node.countGen
  repeat' split
  all_goals simp (maxDischargeDepth := 9) [hn]

@[simp] theorem countBit_bounded (n : Node) (hn : n.Bounded) :
    n.countBit.Bounded := by
  unfold Node.countBit
  repeat' split
  · refine setFbc_bounded _ _ hn ⟨hn.fbc.1, hn.fbc.2.1, hn.fbc.2.2.1, ?_, hn.fbc.2.2.2.2⟩
    simp only [nextIdle]; split <;> omega
  · exact setFbc_bounded _ _ hn hn.fbc
  · exact hn

@[simp] theorem countMicro_bounded (n : Node) (hn : n.Bounded) :
    (n.countMicro).Bounded := by
  unfold Node.countMicro
  repeat' split
  all_goals simp (maxDischargeDepth := 9) [hn]

@[simp] theorem countTime_bounded (n : Node) (hn : n.Bounded) :
    (n.countTime).Bounded := by
  unfold Node.countTime
  repeat' split
  all_goals simp (maxDischargeDepth := 9) [hn]

/-! ### Deliveries, starts, ticks -/

theorem startValues_bounded (p : Pins) (b : Bool) : (startValues p b).Bounded where
  fbc := (by decide : ({} : Fbc).urgentQ.length ≤ 2 ∧ ({} : Fbc).normalQ.length ≤ 6 ∧
    ({} : Fbc).fifo.length ≤ 8 ∧ ({} : Fbc).idleCount ≤ 107 ∧ ({} : Fbc).collisions ≤ 65535)
  lc := (by decide : ({} : Lc).hist.length ≤ 8 ∧ ({} : Lc).settle ≤ 4 ∧ ({} : Lc).down < 64 ∧
    codesOf ({} : Lc).zero < 16)
  tsg := Nat.zero_le _
  exh := Nat.zero_le _
  pta := ⟨(by decide : ∀ i : Fin 4, ({} : Pta).subs[i].hist.length ≤ 8),
    (by decide : ∀ i : Fin 16, ({} : Pta).peers[i].outliers ≤ 3 ∧ ({} : Pta).peers[i].missed.urgent ≤ 65535 ∧
      ({} : Pta).peers[i].missed.sample ≤ 65535 ∧ ({} : Pta).peers[i].missed.bulk ≤ 65535)⟩
  evl := ⟨Nat.zero_le _, Nat.zero_le _⟩
  hlm := fun a => (by cases a <;> decide : 0 ≤ (({} : Hlm).get a).worst ∧
    (({} : Hlm).get a).worst ≤ (({} : Hlm).get a).value ∧ (({} : Hlm).get a).worst ≤ 100)

/-- The delivery of the frame that is next. -/
theorem deliver_bounded (n : Node) (a : Arrival) (take : Node → RxFrame → Node)
    (ht : ∀ m f, m.Bounded → (take m f).Bounded) (h : n.Bounded) : (n.deliver a take).Bounded := by
  unfold Node.deliver
  repeat' split
  · exact ht _ _ (setFbc_bounded _ _ h (popFront_b _ h.fbc))
  · exact h
  · exact h

theorem oscillate_bounded (n : Node) (h : n.Bounded) : n.oscillate.1.Bounded := by
  show (n.countDrive.countArms.countGen.countBit.countTime).Bounded
  simp (maxDischargeDepth := 9) [h]

end Sys2Proof.Laws
end

