-- ==== Sys2Proof/Laws/Delivery.lean ====
section
/-! SUPPORT. What a delivery does: where the frame at the front is of the command's kind, the frame leaves its
queue and the block takes it; and what taking a frame from its queue leaves as it was. -/
namespace Sys2Proof.Laws
open Sys2Proof Sys2Proof.Machine
-- One theorem at a time: the memory that many threads take together is bounded where this is checked.
set_option Elab.async false

/-- A delivery of the frame that is next gives it to the block, with the frame taken from its queue. -/
theorem deliver_of_delivers (n : Node) (a : Arrival) (f : RxFrame) (take : Node → RxFrame → Node)
    (h : n.delivers a f) : n.deliver a take = take n.popped f := by
  obtain ⟨h1, h2, h3⟩ := h
  simp [Node.deliver, h1, h2, h3, Node.popped]

@[simp] theorem popped_frame (n : Node) :
    n.popped.pins = n.pins ∧ n.popped.filters = n.filters ∧ n.popped.clk = n.clk ∧
    n.popped.sul = n.sul ∧ n.popped.lc = n.lc ∧ n.popped.tsg = n.tsg ∧ n.popped.datums = n.datums ∧
    n.popped.exh = n.exh ∧ n.popped.pta = n.pta ∧ n.popped.cmu = n.cmu ∧ n.popped.seq = n.seq ∧
    n.popped.hlt = n.hlt ∧ n.popped.evl = n.evl ∧ n.popped.hlm = n.hlm := by
  simp [Node.popped]

/-- Taking a frame from its queue touches the two receive queues alone. -/
@[simp] theorem popFront_fields (b : Fbc) :
    b.popFront.receiver = b.receiver ∧ b.popFront.haltSlot = b.haltSlot ∧
    b.popFront.breakSlot = b.breakSlot ∧ b.popFront.markSlot = b.markSlot ∧
    b.popFront.loadSlot = b.loadSlot ∧ b.popFront.travelSlot = b.travelSlot ∧
    b.popFront.strainSlot = b.strainSlot ∧ b.popFront.stateSlot = b.stateSlot ∧
    b.popFront.fifo = b.fifo ∧ b.popFront.pendingResult = b.pendingResult ∧
    b.popFront.removal = b.removal ∧ b.popFront.onLine = b.onLine ∧ b.popFront.seqs = b.seqs ∧
    b.popFront.collisions = b.collisions ∧ b.popFront.yields = b.yields := by
  unfold Fbc.popFront
  split <;> simp

@[simp] theorem popped_fbc (n : Node) : n.popped.fbc = n.fbc.popFront := rfl

end Sys2Proof.Laws
end

