-- ==== Sys2Proof/Laws/HaltSafe.lean ====
section
/-! SUPPORT. Every operation on the node keeps the safety of the halt (`Node.HaltSafe`). -/
namespace Sys2Proof.Laws
open Sys2Proof Sys2Proof.Machine
-- One theorem at a time: the memory that many threads take together is bounded where this is checked.
set_option Elab.async false

/-! ### What the safety of the halt reads -/

/-- The safety of the halt reads the image, the two states, the halt record and the generator's state. -/
theorem haltSafe_congr (n m : Node) (h1 : m.sul = n.sul) (h2 : m.seq.op = n.seq.op)
    (h3 : m.seq.test = n.seq.test) (h4 : m.hlt.record = n.hlt.record)
    (h5 : m.tsg.gen.st = n.tsg.gen.st) (h : n.HaltSafe) : m.HaltSafe := by
  obtain ⟨a, b, c, d⟩ := h
  constructor
  · rw [h2, h3]; exact a
  · rw [h2, h3]; exact b
  · rw [h3, h4]; exact c
  · simpa [Node.driveLive, Node.inService, Node.roles, Node.drvEn, h1, h2, h3, h5] using d

/-- The same, with a generator that no longer runs. -/
theorem haltSafe_stopped (n m : Node) (h2 : m.seq.op = n.seq.op) (h3 : m.seq.test = n.seq.test)
    (h4 : m.hlt.record = n.hlt.record) (h5 : m.tsg.gen.st ≠ .running) (h : n.HaltSafe) : m.HaltSafe := by
  obtain ⟨a, b, c, d⟩ := h
  constructor
  · rw [h2, h3]; exact a
  · rw [h2, h3]; exact b
  · rw [h3, h4]; exact c
  · exact fun e => absurd e h5

/-! ### Replacing one block -/

@[simp] theorem setPins_safe (n : Node) (x : Pins) : (n.setPins x).HaltSafe ↔ n.HaltSafe :=
  ⟨haltSafe_congr _ _ rfl rfl rfl rfl rfl, haltSafe_congr _ _ rfl rfl rfl rfl rfl⟩
@[simp] theorem setFilters_safe (n : Node) (x : Filters) : (n.setFilters x).HaltSafe ↔ n.HaltSafe :=
  ⟨haltSafe_congr _ _ rfl rfl rfl rfl rfl, haltSafe_congr _ _ rfl rfl rfl rfl rfl⟩
@[simp] theorem setClk_safe (n : Node) (x : Clock) : (n.setClk x).HaltSafe ↔ n.HaltSafe :=
  ⟨haltSafe_congr _ _ rfl rfl rfl rfl rfl, haltSafe_congr _ _ rfl rfl rfl rfl rfl⟩
@[simp] theorem setLc_safe (n : Node) (x : Lc) : (n.setLc x).HaltSafe ↔ n.HaltSafe :=
  ⟨haltSafe_congr _ _ rfl rfl rfl rfl rfl, haltSafe_congr _ _ rfl rfl rfl rfl rfl⟩
@[simp] theorem setDatums_safe (n : Node) (x : Datums) : (n.setDatums x).HaltSafe ↔ n.HaltSafe :=
  ⟨haltSafe_congr _ _ rfl rfl rfl rfl rfl, haltSafe_congr _ _ rfl rfl rfl rfl rfl⟩
@[simp] theorem setExh_safe (n : Node) (x : Exh) : (n.setExh x).HaltSafe ↔ n.HaltSafe :=
  ⟨haltSafe_congr _ _ rfl rfl rfl rfl rfl, haltSafe_congr _ _ rfl rfl rfl rfl rfl⟩
@[simp] theorem setFbc_safe (n : Node) (x : Fbc) : (n.setFbc x).HaltSafe ↔ n.HaltSafe :=
  ⟨haltSafe_congr _ _ rfl rfl rfl rfl rfl, haltSafe_congr _ _ rfl rfl rfl rfl rfl⟩
@[simp] theorem setPta_safe (n : Node) (x : Pta) : (n.setPta x).HaltSafe ↔ n.HaltSafe :=
  ⟨haltSafe_congr _ _ rfl rfl rfl rfl rfl, haltSafe_congr _ _ rfl rfl rfl rfl rfl⟩
@[simp] theorem setCmu_safe (n : Node) (x : Cmu) : (n.setCmu x).HaltSafe ↔ n.HaltSafe :=
  ⟨haltSafe_congr _ _ rfl rfl rfl rfl rfl, haltSafe_congr _ _ rfl rfl rfl rfl rfl⟩
@[simp] theorem setEvl_safe (n : Node) (x : Evl) : (n.setEvl x).HaltSafe ↔ n.HaltSafe :=
  ⟨haltSafe_congr _ _ rfl rfl rfl rfl rfl, haltSafe_congr _ _ rfl rfl rfl rfl rfl⟩
@[simp] theorem setHlm_safe (n : Node) (x : Hlm) : (n.setHlm x).HaltSafe ↔ n.HaltSafe :=
  ⟨haltSafe_congr _ _ rfl rfl rfl rfl rfl, haltSafe_congr _ _ rfl rfl rfl rfl rfl⟩

theorem setTsg_safe (n : Node) (x : Tsg) (e : x.gen.st = n.tsg.gen.st) (h : n.HaltSafe) :
    (n.setTsg x).HaltSafe := haltSafe_congr n _ rfl rfl rfl rfl e h
theorem setSeq_safe (n : Node) (x : Seq) (e1 : x.op = n.seq.op) (e2 : x.test = n.seq.test)
    (h : n.HaltSafe) : (n.setSeq x).HaltSafe := haltSafe_congr n _ rfl e1 e2 rfl rfl h
theorem setHlt_safe (n : Node) (x : Hlt) (e : x.record = n.hlt.record) (h : n.HaltSafe) :
    (n.setHlt x).HaltSafe := haltSafe_congr n _ rfl rfl rfl e rfl h

/-! ### Test state and halt record -/

/-- A stop request never sets the generator running. -/
theorem requestStop_st (g : Gen) : g.requestStop.st ≠ .running := by
  unfold Gen.requestStop; cases h : g.st <;> simp [h]

/-- What a change of the test state makes of the sequencer and the drive. -/
@[simp] theorem setTest_effect (n : Node) (t : TestState) :
    (n.setTest t).seq = { n.seq with test := some t } ∧ (n.setTest t).tsg = n.tsg := by
  simp only [Node.setTest]
  refine ⟨?_, ?_⟩
  · split <;> simp
  · split
    · rename_i h
      simp only [Node.cmuHold, exhRejudge_frame]
      split
      · simp only [Node.requestHold, putCmu_frame, Node.setWanted, Node.testInProgress]
        cases t <;> simp_all [TestState.holds]
      · simp
    · simp

/-- A change from a test state that is not HALTED to one that is not HALTED. -/
theorem setTest_safe (n : Node) (t : TestState) (h : n.HaltSafe) (h1 : n.seq.test ≠ none)
    (h2 : n.seq.test ≠ some .halted) (ht : t ≠ .halted) : (n.setTest t).HaltSafe := by
  obtain ⟨a, b, c, d⟩ := h
  constructor
  · simp only [setTest_effect]; intro e; exact absurd (a e) h1
  · simp
  · simp only [setTest_effect, setTest_frame]
    constructor
    · intro e; exact absurd (Option.some.inj e) ht
    · intro e; exact absurd (c.mpr e) h2
  · simp only [setTest_effect, Node.driveLive, Node.inService, Node.roles, Node.drvEn, setTest_frame, img_eq] at d ⊢
    intro e; have := d e; simp_all [Node.roles]

/-- A direct stop leaves no generator running, in a live drive. -/
@[simp] theorem directStop_tsg (n : Node) : n.directStop.tsg = if n.driveLive then
    { n.tsg with wanted := 0, commanded := 0, issued := 0, jog := .idle, gen := n.tsg.gen.requestStop }
    else n.tsg := by
  unfold Node.directStop; split <;> simp

@[simp] theorem directStop_safe (n : Node) (h : n.HaltSafe) : n.directStop.HaltSafe := by
  by_cases hd : n.driveLive = true
  · refine haltSafe_stopped n _ ?_ ?_ ?_ ?_ h <;> simp [hd, requestStop_st]
  · refine haltSafe_congr n _ ?_ ?_ ?_ ?_ ?_ h <;> simp [hd]

/-- The close of the OPEN entry touches the segment table alone. -/
@[simp] theorem closeOpen_effect (n : Node) (cause : CloseCause) (t : Time) :
    (n.closeOpen cause t).seq.op = n.seq.op ∧ (n.closeOpen cause t).seq.test = n.seq.test ∧
    (n.closeOpen cause t).seq.cursor = n.seq.cursor ∧ (n.closeOpen cause t).seq.order = n.seq.order ∧
    (n.closeOpen cause t).seq.endCause = n.seq.endCause ∧
    (n.closeOpen cause t).seq.refusal = n.seq.refusal ∧
    (n.closeOpen cause t).seq.pauseTime = n.seq.pauseTime ∧
    (n.closeOpen cause t).seq.yieldSeen = n.seq.yieldSeen ∧
    (n.closeOpen cause t).seq.forceMax = n.seq.forceMax := by
  unfold Node.closeOpen
  split <;> simp [Seq.setEntry]

/-- What an entry to ENDED makes of the sequencer and the drive (R138). -/
@[simp] theorem enterEnded_effect (n : Node) (cause : EndCause) (close : CloseCause) :
    (n.enterEnded cause close).seq =
      { (n.closeOpen close n.now).seq with endCause := some cause, test := some .ended } ∧
    (n.enterEnded cause close).tsg = (if n.roles.drive then
      { n.tsg with wanted := 0, commanded := 0, issued := 0, jog := .idle, gen := n.tsg.gen.requestStop }
      else n.tsg) := by
  refine ⟨by simp [Node.enterEnded], ?_⟩
  cases hd : n.roles.drive <;> simp [Node.roles] at hd <;>
    simp [Node.enterEnded, Node.driveLive, Node.inService, Node.roles, hd]

theorem enterEnded_safe (n : Node) (cause : EndCause) (close : CloseCause) (h : n.HaltSafe)
    (h1 : n.seq.test ≠ none) (h2 : n.seq.test ≠ some .halted) : (n.enterEnded cause close).HaltSafe := by
  obtain ⟨a, b, c, d⟩ := h
  constructor
  · simp only [enterEnded_effect, closeOpen_effect]; intro e; exact absurd (a e) h1
  · simp
  · simp only [enterEnded_effect, enterEnded_frame]
    constructor
    · intro e; cases e
    · intro e; exact absurd (c.mpr e) h2
  · cases hd : n.roles.drive with
    | true => simp only [enterEnded_effect, hd, if_true]; intro e; exact absurd e (requestStop_st _)
    | false =>
      simp only [enterEnded_effect, hd]
      intro e
      have := (d (by simpa using e)).1
      simp [Node.driveLive, hd] at this

/-- What an entry to HALTED makes of the sequencer and the drive (R137). -/
@[simp] theorem enterHalted_effect (n : Node) :
    n.enterHalted.seq =
      { (n.closeOpen .byHalt n.now).seq with endCause := n.haltEndCause, test := some .halted } ∧
    n.enterHalted.tsg = (if n.roles.drive then
      { n.tsg with wanted := 0, commanded := 0, issued := 0, jog := .idle, gen := n.tsg.gen.requestStop }
      else n.tsg) := by
  refine ⟨by simp [Node.enterHalted], ?_⟩
  cases hd : n.roles.drive <;> simp [Node.roles] at hd <;>
    simp [Node.enterHalted, Node.driveLive, Node.inService, Node.roles, hd]

/-- A standing record set with the entry to HALTED. -/
theorem setRecord_enterHalted_safe (n : Node) (cause : HaltCause) (o : Fin 16) (h : n.HaltSafe)
    (h1 : n.seq.test ≠ none) : ((n.setRecord cause o true).enterHalted).HaltSafe := by
  obtain ⟨a, b, c, d⟩ := h
  constructor
  · simp only [enterHalted_effect, closeOpen_effect]; intro e; exact absurd (a e) h1
  · simp
  · simp [Node.setRecord]
  · have hr : (n.setRecord cause o true).roles = n.roles := rfl
    have ht : (n.setRecord cause o true).tsg = n.tsg := rfl
    cases hd : n.roles.drive with
    | true => simp only [enterHalted_effect, hr, hd, if_true]; intro e; exact absurd e (requestStop_st _)
    | false =>
      simp only [enterHalted_effect, hr, hd, ht]
      intro e
      have := (d (by simpa using e)).1
      simp [Node.driveLive, hd] at this

@[simp] theorem sendHalt_safe (n : Node) (c : HaltCause) (h : n.HaltSafe) : (n.sendHalt c).HaltSafe := by
  refine haltSafe_congr n _ ?_ ?_ ?_ ?_ ?_ h <;> simp

@[simp] theorem localCause_safe (n : Node) (c : HaltCause) (h : n.HaltSafe) :
    (n.localCause c).HaltSafe := by
  unfold Node.localCause
  split
  · exact h
  · exact h
  · rename_i e
    have h1 : n.seq.test ≠ none := by simp [e]
    dsimp only
    split
    · exact setRecord_enterHalted_safe n c _ h h1
    · exact sendHalt_safe _ _ (setRecord_enterHalted_safe n c _ h h1)

/-! ### Operations that leave the states and the record as they are -/

/-- From `n` to `m` the image, the two states and the halt record are the same, and a generator that runs in
`m` ran in `n`, or may run. -/
structure Calm (n m : Node) : Prop where
  sul : m.sul = n.sul
  op : m.seq.op = n.seq.op
  test : m.seq.test = n.seq.test
  record : m.hlt.record = n.hlt.record
  gen : m.tsg.gen.st = .running → n.tsg.gen.st = .running ∨ (n.driveLive = true ∧ n.drvEn = true)

@[simp] theorem Calm.refl (n : Node) : Calm n n := ⟨rfl, rfl, rfl, rfl, Or.inl⟩

theorem Calm.driveLive {n m : Node} (h : Calm n m) : m.driveLive = n.driveLive := by
  simp [Node.driveLive, Node.inService, Node.roles, h.sul, h.test]
theorem Calm.drvEn {n m : Node} (h : Calm n m) : m.drvEn = n.drvEn := by
  simp [Node.drvEn, h.op, h.test]

theorem Calm.trans {n m k : Node} (h : Calm n m) (g : Calm m k) : Calm n k :=
  ⟨g.sul.trans h.sul, g.op.trans h.op, g.test.trans h.test, g.record.trans h.record, fun e => by
    rcases g.gen e with e | e
    · exact h.gen e
    · exact Or.inr (by rw [← h.driveLive, ← h.drvEn]; exact e)⟩

/-- Such operations keep the safety of the halt. -/
theorem Calm.safe {n m : Node} (g : Calm n m) (h : n.HaltSafe) : m.HaltSafe := by
  obtain ⟨a, b, c, d⟩ := h
  constructor
  · rw [g.op, g.test]; exact a
  · rw [g.op, g.test]; exact b
  · rw [g.test, g.record]; exact c
  · intro e; rw [g.driveLive, g.drvEn]
    rcases g.gen e with e | e
    · exact d e
    · exact e

theorem calm_of_same {k n m : Node} (h : Calm k n) (h1 : m.sul = n.sul) (h2 : m.seq = n.seq)
    (h3 : m.hlt = n.hlt) (h4 : m.tsg = n.tsg) : Calm k m :=
  h.trans ⟨h1, by rw [h2], by rw [h2], by rw [h3], by rw [h4]; exact Or.inl⟩

@[simp] theorem setPins_calm (k n : Node) (x : Pins) (h : Calm k n) : Calm k (n.setPins x) :=
  calm_of_same h rfl rfl rfl rfl
@[simp] theorem setFilters_calm (k n : Node) (x : Filters) (h : Calm k n) : Calm k (n.setFilters x) :=
  calm_of_same h rfl rfl rfl rfl
@[simp] theorem setClk_calm (k n : Node) (x : Clock) (h : Calm k n) : Calm k (n.setClk x) :=
  calm_of_same h rfl rfl rfl rfl
@[simp] theorem setLc_calm (k n : Node) (x : Lc) (h : Calm k n) : Calm k (n.setLc x) :=
  calm_of_same h rfl rfl rfl rfl
@[simp] theorem setDatums_calm (k n : Node) (x : Datums) (h : Calm k n) : Calm k (n.setDatums x) :=
  calm_of_same h rfl rfl rfl rfl
@[simp] theorem setExh_calm (k n : Node) (x : Exh) (h : Calm k n) : Calm k (n.setExh x) :=
  calm_of_same h rfl rfl rfl rfl
@[simp] theorem setFbc_calm (k n : Node) (x : Fbc) (h : Calm k n) : Calm k (n.setFbc x) :=
  calm_of_same h rfl rfl rfl rfl
@[simp] theorem setPta_calm (k n : Node) (x : Pta) (h : Calm k n) : Calm k (n.setPta x) :=
  calm_of_same h rfl rfl rfl rfl
@[simp] theorem setCmu_calm (k n : Node) (x : Cmu) (h : Calm k n) : Calm k (n.setCmu x) :=
  calm_of_same h rfl rfl rfl rfl
@[simp] theorem setEvl_calm (k n : Node) (x : Evl) (h : Calm k n) : Calm k (n.setEvl x) :=
  calm_of_same h rfl rfl rfl rfl
@[simp] theorem setHlm_calm (k n : Node) (x : Hlm) (h : Calm k n) : Calm k (n.setHlm x) :=
  calm_of_same h rfl rfl rfl rfl
@[simp] theorem setTsg_calm (k n : Node) (x : Tsg) (h : Calm k n)
    (e : x.gen.st = .running → n.tsg.gen.st = .running) : Calm k (n.setTsg x) :=
  h.trans ⟨rfl, rfl, rfl, rfl, fun q => Or.inl (e q)⟩
@[simp] theorem setGen_calm (k n : Node) (x : Gen) (h : Calm k n)
    (e : x.st = .running → n.tsg.gen.st = .running) : Calm k (n.setGen x) := setTsg_calm k n _ h e
@[simp] theorem setSeq_calm (k n : Node) (x : Seq) (h : Calm k n) (e1 : x.op = n.seq.op)
    (e2 : x.test = n.seq.test) : Calm k (n.setSeq x) :=
  h.trans ⟨rfl, e1, e2, rfl, Or.inl⟩
@[simp] theorem setHlt_calm (k n : Node) (x : Hlt) (h : Calm k n) (e : x.record = n.hlt.record) :
    Calm k (n.setHlt x) := h.trans ⟨rfl, rfl, rfl, e, Or.inl⟩

@[simp] theorem setEntry_op (q : Seq) (i : Fin 32) (e : Segment) : (q.setEntry i e).op = q.op := rfl
@[simp] theorem setEntry_test (q : Seq) (i : Fin 32) (e : Segment) : (q.setEntry i e).test = q.test := rfl
@[simp] theorem requestStop_keeps (g : Gen) : g.requestStop.st = .running → g.st = .running :=
  fun h => absurd h (requestStop_st g)
@[simp] theorem emit_st (t : Tsg) (w : Nat) : (t.emit w).gen.st = t.gen.st := rfl
@[simp] theorem stopped_st (g : Gen) (t : Time) : (g.stopped t).st = .stopped := rfl
@[simp] theorem count_st (g : Gen) : g.count.st = g.st := rfl

@[simp] theorem reportSeg_calm (k n : Node) (f : Segment → Segment) (hk : Calm k n) :
    Calm k (n.reportSeg f) := by
  unfold Node.reportSeg
  split
  · exact setSeq_calm _ _ _ hk rfl rfl
  · exact hk
@[simp] theorem closeOpen_calm (k n : Node) (cause : CloseCause) (t : Time) (hk : Calm k n) :
    Calm k (n.closeOpen cause t) := by
  unfold Node.closeOpen
  split
  · exact setSeq_calm _ _ _ hk rfl rfl
  · exact hk
@[simp] theorem directStop_calm (k n : Node) (hk : Calm k n) : Calm k n.directStop := by
  unfold Node.directStop
  split
  · exact setTsg_calm _ _ _ hk (requestStop_keeps _)
  · exact hk

@[simp] theorem health_calm (k n : Node) (a : HealthId) (x : Int) (hk : Calm k n) :
    Calm k (n.health a x) :=
  calm_of_same hk (by simp) (by simp) (by simp) (by simp)

@[simp] theorem sendHalt_calm (k n : Node) (cause : HaltCause) (hk : Calm k n) :
    Calm k (n.sendHalt cause) :=
  calm_of_same hk (by simp) (by simp) (by simp) (by simp)

@[simp] theorem sendBreak_calm (k n : Node) (testId : Nat) (hk : Calm k n) :
    Calm k (n.sendBreak testId) :=
  calm_of_same hk (by simp) (by simp) (by simp) (by simp)

@[simp] theorem sendMark_calm (k n : Node) (index : Fin 32) (testId : Nat) (close : Time) (hk : Calm k n) :
    Calm k (n.sendMark index testId close) :=
  calm_of_same hk (by simp) (by simp) (by simp) (by simp)

@[simp] theorem sendSample_calm (k n : Node) (ch : Channel) (payload : List Byte) (hk : Calm k n) :
    Calm k (n.sendSample ch payload) :=
  calm_of_same hk (by simp) (by simp) (by simp) (by simp)

@[simp] theorem notice_calm (k n : Node) (hk : Calm k n) :
    Calm k (n.notice) :=
  calm_of_same hk (by simp) (by simp) (by simp) (by simp)

@[simp] theorem sendResult_calm (k n : Node) (parts : List (List Byte)) (hk : Calm k n) :
    Calm k (n.sendResult parts) :=
  calm_of_same hk (by simp) (by simp) (by simp) (by simp)

@[simp] theorem sendReply_calm (k n : Node) (target : Fin 16) (payload : List Byte) (hk : Calm k n) :
    Calm k (n.sendReply target payload) :=
  calm_of_same hk (by simp) (by simp) (by simp) (by simp)

@[simp] theorem sendPresence_calm (k n : Node) (hk : Calm k n) :
    Calm k (n.sendPresence) :=
  calm_of_same hk (by simp) (by simp) (by simp) (by simp)

@[simp] theorem startAttempt_calm (k n : Node) (h : Holder) (f : TxFrame) (hk : Calm k n) :
    Calm k (n.startAttempt h f) :=
  calm_of_same hk (by simp) (by simp) (by simp) (by simp)

@[simp] theorem attemptFailed_calm (k n : Node) (o : OnLine) (framing : Bool) (hk : Calm k n) :
    Calm k (n.attemptFailed o framing) :=
  calm_of_same hk (by simp) (by simp) (by simp) (by simp)

@[simp] theorem setPeer_calm (k n : Node) (i : Fin 16) (p : Peer) (hk : Calm k n) :
    Calm k (n.setPeer i p) :=
  calm_of_same hk (by simp) (by simp) (by simp) (by simp)

@[simp] theorem setSub_calm (k n : Node) (i : Fin 4) (x : Sub) (hk : Calm k n) :
    Calm k (n.setSub i x) :=
  calm_of_same hk (by simp) (by simp) (by simp) (by simp)

@[simp] theorem mapSubsOf_calm (k n : Node) (peer : Fin 16) (f : Sub → Sub) (hk : Calm k n) :
    Calm k (n.mapSubsOf peer f) :=
  calm_of_same hk (by simp) (by simp) (by simp) (by simp)

@[simp] theorem emptyHistsOf_calm (k n : Node) (peer : Fin 16) (hk : Calm k n) :
    Calm k (n.emptyHistsOf peer) :=
  calm_of_same hk (by simp) (by simp) (by simp) (by simp)

@[simp] theorem takeFacts_calm (k n : Node) (f : HeaderFacts) (hk : Calm k n) :
    Calm k (n.takeFacts f) :=
  calm_of_same hk (by simp) (by simp) (by simp) (by simp)

@[simp] theorem takePresence_calm (k n : Node) (f : RxFrame) (hk : Calm k n) :
    Calm k (n.takePresence f) :=
  calm_of_same hk (by simp) (by simp) (by simp) (by simp)

@[simp] theorem takeState_calm (k n : Node) (f : RxFrame) (hk : Calm k n) :
    Calm k (n.takeState f) :=
  calm_of_same hk (by simp) (by simp) (by simp) (by simp)

@[simp] theorem enterSample_calm (k n : Node) (i : Fin 4) (e : HistEntry) (hk : Calm k n) :
    Calm k (n.enterSample i e) :=
  calm_of_same hk (by simp) (by simp) (by simp) (by simp)

@[simp] theorem judgeSample_calm (k n : Node) (i : Fin 4) (f : RxFrame) (hk : Calm k n) :
    Calm k (n.judgeSample i f).1 :=
  calm_of_same hk (by simp) (by simp) (by simp) (by simp)

@[simp] theorem reseedExpires_calm (k n : Node) (i : Fin 16) (hk : Calm k n) :
    Calm k (n.reseedExpires i) :=
  calm_of_same hk (by simp) (by simp) (by simp) (by simp)

@[simp] theorem silenceExpires_calm (k n : Node) (i : Fin 16) (hk : Calm k n) :
    Calm k (n.silenceExpires i) :=
  calm_of_same hk (by simp) (by simp) (by simp) (by simp)

@[simp] theorem goesStale_calm (k n : Node) (i : Fin 4) (hk : Calm k n) :
    Calm k (n.goesStale i) :=
  calm_of_same hk (by simp) (by simp) (by simp) (by simp)

@[simp] theorem startStaleness_calm (k n : Node) (hk : Calm k n) :
    Calm k (n.startStaleness) :=
  calm_of_same hk (by simp) (by simp) (by simp) (by simp)

@[simp] theorem ptaFrameReset_calm (k n : Node) (hk : Calm k n) :
    Calm k (n.ptaFrameReset) :=
  calm_of_same hk (by simp) (by simp) (by simp) (by simp)

@[simp] theorem setWanted_calm (k n : Node) (v : Int) (hk : Calm k n) :
    Calm k (n.setWanted v) := by
  unfold Node.setWanted
  repeat' split
  all_goals simp (maxDischargeDepth := 9) [hk]

@[simp] theorem resync_calm (k n : Node) (hk : Calm k n) :
    Calm k (n.resync) := by
  unfold Node.resync
  repeat' split
  all_goals simp (maxDischargeDepth := 9) [hk]

@[simp] theorem captureLevel_calm (k n : Node) (hk : Calm k n) :
    Calm k (n.captureLevel) := by
  unfold Node.captureLevel
  repeat' split
  all_goals simp (maxDischargeDepth := 9) [hk]

@[simp] theorem recordDatums_calm (k n : Node) (hk : Calm k n) :
    Calm k (n.recordDatums) :=
  calm_of_same hk (by simp) (by simp) (by simp) (by simp)

@[simp] theorem awaitedDatum_calm (k n : Node) (i : Fin 4) (value : Int) (hk : Calm k n) :
    Calm k (n.awaitedDatum i value) :=
  calm_of_same hk (by simp) (by simp) (by simp) (by simp)

@[simp] theorem reportFlag_calm (k n : Node) (f : Summary → Summary) (hk : Calm k n) :
    Calm k (n.reportFlag f) := by
  unfold Node.reportFlag
  repeat' split
  all_goals simp (maxDischargeDepth := 9) [hk]

@[simp] theorem reportLock_calm (k n : Node) (t : Time) (hk : Calm k n) :
    Calm k (n.reportLock t) := by
  unfold Node.reportLock
  repeat' split
  all_goals simp (maxDischargeDepth := 9) [hk]

@[simp] theorem putCmu_calm (k n : Node) (c : Cmu) (hk : Calm k n) :
    Calm k (n.putCmu c) :=
  calm_of_same hk (by simp) (by simp) (by simp) (by simp)

@[simp] theorem requestHold_calm (k n : Node) (hk : Calm k n) :
    Calm k (n.requestHold) := by
  unfold Node.requestHold
  repeat' split
  all_goals simp (maxDischargeDepth := 9) [hk]

@[simp] theorem requestCrosshead_calm (k n : Node) (v : Int) (hk : Calm k n) :
    Calm k (n.requestCrosshead v) := by
  unfold Node.requestCrosshead
  repeat' split
  all_goals simp (maxDischargeDepth := 9) [hk]

@[simp] theorem fallBack_calm (k n : Node) (v : Int) (hk : Calm k n) :
    Calm k (n.fallBack v) := by
  unfold Node.fallBack
  repeat' split
  all_goals simp (maxDischargeDepth := 9) [hk]

@[simp] theorem enterClosed_calm (k n : Node) (m : Mode) (hk : Calm k n) :
    Calm k (n.enterClosed m) :=
  calm_of_same hk (by simp) (by simp) (by simp) (by simp)

@[simp] theorem entryStepTo_calm (k n : Node) (m : Mode) (hk : Calm k n) :
    Calm k (n.entryStepTo m) := by
  unfold Node.entryStepTo
  repeat' split
  all_goals simp (maxDischargeDepth := 9) [hk]

@[simp] theorem requestClosed_calm (k n : Node) (f : SegFields) (advance : Bool) (hk : Calm k n) :
    Calm k (n.requestClosed f advance) := by
  simp only [Node.requestClosed]
  repeat' split
  all_goals simp (maxDischargeDepth := 9) [hk]

@[simp] theorem requestSegment_calm (k n : Node) (f : SegFields) (advance : Bool) (hk : Calm k n) :
    Calm k (n.requestSegment f advance) := by
  unfold Node.requestSegment
  repeat' split
  all_goals simp (maxDischargeDepth := 9) [hk]

@[simp] theorem cmuOpen_calm (k n : Node) (f : SegFields) (advance underPause : Bool) (hk : Calm k n) :
    Calm k (n.cmuOpen f advance underPause) := by
  unfold Node.cmuOpen
  repeat' split
  all_goals simp (maxDischargeDepth := 9) [hk]

@[simp] theorem cmuHold_calm (k n : Node) (hk : Calm k n) :
    Calm k (n.cmuHold) := by
  unfold Node.cmuHold
  repeat' split
  all_goals simp (maxDischargeDepth := 9) [hk]

@[simp] theorem cmuResume_calm (k n : Node) (f : SegFields) (hk : Calm k n) :
    Calm k (n.cmuResume f) := by
  unfold Node.cmuResume
  repeat' split
  all_goals simp (maxDischargeDepth := 9) [hk]

@[simp] theorem rampReport_calm (k n : Node) (hk : Calm k n) :
    Calm k (n.rampReport) :=
  calm_of_same hk (by simp) (by simp) (by simp) (by simp)

@[simp] theorem handLock_calm (k n : Node) (before : Option LockState) (hk : Calm k n) :
    Calm k (n.handLock before) := by
  unfold Node.handLock
  repeat' split
  all_goals simp (maxDischargeDepth := 9) [hk]

@[simp] theorem applyEstimate_calm (k n : Node) (m : Mode) (rm : Int) (hk : Calm k n) :
    Calm k (n.applyEstimate m rm) := by
  unfold Node.applyEstimate
  repeat' split
  all_goals simp (maxDischargeDepth := 9) [hk]

@[simp] theorem cmuArrival_calm (k n : Node) (m : Mode) (e : HistEntry) (hk : Calm k n) :
    Calm k (n.cmuArrival m e) := by
  unfold Node.cmuArrival
  repeat' split
  all_goals simp (maxDischargeDepth := 9) [hk]

@[simp] theorem cmuStale_calm (k n : Node) (i : Fin 4) (hk : Calm k n) :
    Calm k (n.cmuStale i) := by
  unfold Node.cmuStale
  repeat' split
  all_goals simp (maxDischargeDepth := 9) [hk]

@[simp] theorem lockTimeout_calm (k n : Node) (hk : Calm k n) :
    Calm k (n.lockTimeout) := by
  unfold Node.lockTimeout
  repeat' split
  all_goals simp (maxDischargeDepth := 9) [hk]

@[simp] theorem lateLockTimeout_calm (k n : Node) (hk : Calm k n) :
    Calm k (n.lateLockTimeout) := by
  unfold Node.lateLockTimeout
  simp (maxDischargeDepth := 9) [hk]

@[simp] theorem cmuFrameReset_calm (k n : Node) (hk : Calm k n) :
    Calm k (n.cmuFrameReset) := by
  unfold Node.cmuFrameReset
  repeat' split
  all_goals simp (maxDischargeDepth := 9) [hk]

@[simp] theorem evalStart_calm (k n : Node) (hk : Calm k n) :
    Calm k (n.evalStart) :=
  calm_of_same hk (by simp) (by simp) (by simp) (by simp)

@[simp] theorem evalFrameReset_calm (k n : Node) (hk : Calm k n) :
    Calm k (n.evalFrameReset) :=
  calm_of_same hk (by simp) (by simp) (by simp) (by simp)

@[simp] theorem completeRecord_calm (k n : Node) (hk : Calm k n) :
    Calm k (n.completeRecord) :=
  calm_of_same hk (by simp) (by simp) (by simp) (by simp)

@[simp] theorem endDrain_calm (k n : Node) (hk : Calm k n) :
    Calm k (n.endDrain) :=
  calm_of_same hk (by simp) (by simp) (by simp) (by simp)

@[simp] theorem evalEnding_calm (k n : Node) (cause : EndCause) (hk : Calm k n) :
    Calm k (n.evalEnding cause) :=
  calm_of_same hk (by simp) (by simp) (by simp) (by simp)

@[simp] theorem drainLimit_calm (k n : Node) (hk : Calm k n) :
    Calm k (n.drainLimit) :=
  calm_of_same hk (by simp) (by simp) (by simp) (by simp)

@[simp] theorem putExh_calm (k n : Node) (x : Exh) (hk : Calm k n) :
    Calm k (n.putExh x) :=
  calm_of_same hk (by simp) (by simp) (by simp) (by simp)

@[simp] theorem keepReading_calm (k n : Node) (hk : Calm k n) :
    Calm k (n.keepReading) :=
  calm_of_same hk (by simp) (by simp) (by simp) (by simp)

@[simp] theorem slipStage_calm (k n : Node) (hk : Calm k n) :
    Calm k (n.slipStage) :=
  calm_of_same hk (by simp) (by simp) (by simp) (by simp)

@[simp] theorem handDisagree_calm (k n : Node) (r : Reading) (e : StrainEntry) (hk : Calm k n) :
    Calm k (n.handDisagree r e) :=
  calm_of_same hk (by simp) (by simp) (by simp) (by simp)

@[simp] theorem learnStage_calm (k n : Node) (hk : Calm k n) :
    Calm k (n.learnStage) :=
  calm_of_same hk (by simp) (by simp) (by simp) (by simp)

@[simp] theorem release_calm (k n : Node) (hk : Calm k n) :
    Calm k (n.release) :=
  calm_of_same hk (by simp) (by simp) (by simp) (by simp)

@[simp] theorem releaseStage_calm (k n : Node) (e : HistEntry) (hk : Calm k n) :
    Calm k (n.releaseStage e) :=
  calm_of_same hk (by simp) (by simp) (by simp) (by simp)

@[simp] theorem exhBreak_calm (k n : Node) (hk : Calm k n) :
    Calm k (n.exhBreak) :=
  calm_of_same hk (by simp) (by simp) (by simp) (by simp)

@[simp] theorem judgeOpen_calm (k n : Node) (hk : Calm k n) :
    Calm k (n.judgeOpen) :=
  calm_of_same hk (by simp) (by simp) (by simp) (by simp)

@[simp] theorem unplannedOpening_calm (k n : Node) (hk : Calm k n) :
    Calm k (n.unplannedOpening) :=
  calm_of_same hk (by simp) (by simp) (by simp) (by simp)

@[simp] theorem followInputs_calm (k n : Node) (hk : Calm k n) :
    Calm k (n.followInputs) :=
  calm_of_same hk (by simp) (by simp) (by simp) (by simp)

@[simp] theorem exhRejudge_calm (k n : Node) (hk : Calm k n) :
    Calm k (n.exhRejudge) :=
  calm_of_same hk (by simp) (by simp) (by simp) (by simp)

@[simp] theorem zeroArms_calm (k n : Node) (hk : Calm k n) :
    Calm k (n.zeroArms) :=
  calm_of_same hk (by simp) (by simp) (by simp) (by simp)

@[simp] theorem exhStart_calm (k n : Node) (hk : Calm k n) :
    Calm k (n.exhStart) :=
  calm_of_same hk (by simp) (by simp) (by simp) (by simp)

@[simp] theorem exhStartFails_calm (k n : Node) (hk : Calm k n) :
    Calm k (n.exhStartFails) :=
  calm_of_same hk (by simp) (by simp) (by simp) (by simp)

@[simp] theorem exhFrameReset_calm (k n : Node) (hk : Calm k n) :
    Calm k (n.exhFrameReset) :=
  calm_of_same hk (by simp) (by simp) (by simp) (by simp)

@[simp] theorem exhForce_calm (k n : Node) (e : HistEntry) (hk : Calm k n) :
    Calm k (n.exhForce e) :=
  calm_of_same hk (by simp) (by simp) (by simp) (by simp)

@[simp] theorem refuse_calm (k n : Node) (c : RefusalCode) (hk : Calm k n) :
    Calm k (n.refuse c) := by
  unfold Node.refuse
  repeat' split
  all_goals simp (maxDischargeDepth := 9) [hk]

@[simp] theorem skipTo_calm (k n : Node) (i : Fin 32) (hk : Calm k n) : Calm k (n.skipTo i) := by
  simp only [Node.skipTo]
  exact notice_calm _ _ (setSeq_calm _ _ _ hk rfl rfl)

@[simp] theorem openAt_calm (k n : Node) (i : Fin 32) (starved advance : Bool) (hk : Calm k n) :
    Calm k (n.openAt i starved advance) := by
  simp only [Node.openAt]
  exact notice_calm _ _ (cmuOpen_calm _ _ _ _ _ (setSeq_calm _ _ _ hk rfl rfl))

@[simp] theorem closeByCondition_calm (k n : Node) (hk : Calm k n) :
    Calm k (n.closeByCondition) := by
  unfold Node.closeByCondition
  repeat' split
  all_goals simp (maxDischargeDepth := 9) [hk]

@[simp] theorem seqForce_calm (k n : Node) (e : HistEntry) (hk : Calm k n) :
    Calm k (n.seqForce e) := by
  unfold Node.seqForce
  repeat' split
  all_goals simp (maxDischargeDepth := 9) [hk]

@[simp] theorem walk_calm (j : Nat) (k n : Node) (hk : Calm k n) : Calm k (Node.walk j n).1 := by
  induction j generalizing n with
  | zero => exact hk
  | succ j ih =>
    simp only [Node.walk]
    repeat' split
    · exact hk
    · exact skipTo_calm _ _ _ hk
    · exact ih _ (skipTo_calm _ _ _ hk)

@[simp] theorem stopJogging_calm (k n : Node) (hk : Calm k n) :
    Calm k (n.stopJogging) := by
  unfold Node.stopJogging
  repeat' split
  all_goals simp (maxDischargeDepth := 9) [hk]

@[simp] theorem setBreak_calm (k n : Node) (originator : Fin 16) (hk : Calm k n) :
    Calm k (n.setBreak originator) := by
  unfold Node.setBreak
  repeat' split
  all_goals simp (maxDischargeDepth := 9) [hk]

@[simp] theorem reportHeld_calm (k n : Node) (held : Bool) (hk : Calm k n) :
    Calm k (n.reportHeld held) := by
  unfold Node.reportHeld
  repeat' split
  all_goals simp (maxDischargeDepth := 9) [hk]

@[simp] theorem popLoad_calm (k n : Node) (hk : Calm k n) :
    Calm k (n.popLoad) :=
  calm_of_same hk (by simp) (by simp) (by simp) (by simp)

@[simp] theorem pushLoad_calm (k n : Node) (e : HistEntry) (hk : Calm k n) :
    Calm k (n.pushLoad e) :=
  calm_of_same hk (by simp) (by simp) (by simp) (by simp)

@[simp] theorem zeroStage_calm (k n : Node) (hk : Calm k n) :
    Calm k (n.zeroStage) := by
  unfold Node.zeroStage
  repeat' split
  all_goals simp (maxDischargeDepth := 9) [hk]

@[simp] theorem acceptConversion_calm (k n : Node) (c : Int) (hk : Calm k n) :
    Calm k (n.acceptConversion c) := by
  simp only [Node.acceptConversion]
  split <;> simp (maxDischargeDepth := 9) [hk]

@[simp] theorem endBalance_calm (k n : Node) (residue : Int) (hk : Calm k n) :
    Calm k (n.endBalance residue) :=
  calm_of_same hk (by simp) (by simp) (by simp) (by simp)

@[simp] theorem updateFmax_calm (k n : Node) (e : HistEntry) (hk : Calm k n) :
    Calm k (n.updateFmax e) :=
  calm_of_same hk (by simp) (by simp) (by simp) (by simp)

@[simp] theorem measure_calm (k n : Node) (c : Int) (hk : Calm k n) :
    Calm k (n.measure c).1 := by
  unfold Node.measure
  repeat' split
  all_goals simp (maxDischargeDepth := 9) [hk]

@[simp] theorem lcFrameReset_calm (k n : Node) (hk : Calm k n) :
    Calm k (n.lcFrameReset) :=
  calm_of_same hk (by simp) (by simp) (by simp) (by simp)

@[simp] theorem acceptEncoder_calm (k n : Node) (a b : Bool) (hk : Calm k n) :
    Calm k (n.acceptEncoder a b) :=
  calm_of_same hk (by simp) (by simp) (by simp) (by simp)

@[simp] theorem rampStage_calm (k n : Node) (hk : Calm k n) :
    Calm k (n.rampStage) := by
  unfold Node.rampStage
  repeat' split
  all_goals simp (maxDischargeDepth := 9) [hk]

@[simp] theorem issueStage_calm (k n : Node) (e : Option Int) (hk : Calm k n) :
    Calm k (n.issueStage e) := by
  simp only [Node.issueStage]
  repeat' split
  all_goals simp (maxDischargeDepth := 9) [hk]

@[simp] theorem handFollowing_calm (k n : Node) (hk : Calm k n) :
    Calm k (n.handFollowing) :=
  calm_of_same hk (by simp) (by simp) (by simp) (by simp)

@[simp] theorem sampleLimits_calm (k n : Node) (lo hi : Bool) (hk : Calm k n) :
    Calm k (n.sampleLimits lo hi) :=
  calm_of_same hk (by simp) (by simp) (by simp) (by simp)

@[simp] theorem underflow_calm (k n : Node) (hk : Calm k n) : Calm k n.underflow := by
  unfold Node.underflow
  split
  · rename_i e; exact setTsg_calm _ _ _ hk fun _ => e
  · exact setGen_calm _ _ _ hk (by simp)
  · exact hk

@[simp] theorem pulseEnds_calm (k n : Node) (hk : Calm k n) :
    Calm k (n.pulseEnds) := by
  unfold Node.pulseEnds
  repeat' split
  all_goals simp (maxDischargeDepth := 9) [hk]

@[simp] theorem runDownEnds_calm (k n : Node) (hk : Calm k n) :
    Calm k (n.runDownEnds) := by
  unfold Node.runDownEnds
  repeat' split
  all_goals simp (maxDischargeDepth := 9) [hk]

@[simp] theorem tsgFrameReset_calm (k n : Node) (hk : Calm k n) :
    Calm k (n.tsgFrameReset) := by
  unfold Node.tsgFrameReset
  repeat' split
  all_goals simp (maxDischargeDepth := 9) [hk]

@[simp] theorem clearEncFault_calm (k n : Node) (hk : Calm k n) :
    Calm k (n.clearEncFault) := by
  unfold Node.clearEncFault
  repeat' split
  all_goals simp (maxDischargeDepth := 9) [hk]

@[simp] theorem startLoad_calm (k n : Node) (hk : Calm k n) :
    Calm k (n.startLoad) :=
  calm_of_same hk (by simp) (by simp) (by simp) (by simp)

@[simp] theorem startExt_calm (k n : Node) (hk : Calm k n) :
    Calm k (n.startExt) :=
  calm_of_same hk (by simp) (by simp) (by simp) (by simp)

@[simp] theorem lcStart_calm (k n : Node) (hk : Calm k n) :
    Calm k (n.lcStart) :=
  calm_of_same hk (by simp) (by simp) (by simp) (by simp)

@[simp] theorem endJog_calm (k n : Node) (hk : Calm k n) :
    Calm k (n.endJog) := by
  unfold Node.endJog
  repeat' split
  all_goals simp (maxDischargeDepth := 9) [hk]

@[simp] theorem resumeRequest_calm (k n : Node) (hk : Calm k n) :
    Calm k (n.resumeRequest) := by
  unfold Node.resumeRequest
  repeat' split
  all_goals simp (maxDischargeDepth := 9) [hk]

@[simp] theorem takeUnknown_calm (k n : Node) (x1 : RxFrame) (hk : Calm k n) :
    Calm k (n.takeUnknown x1) := by
  unfold Node.takeUnknown
  repeat' split
  all_goals simp (maxDischargeDepth := 9) [hk]

@[simp] theorem setGauge_calm (k n : Node) (o : Order) (hk : Calm k n) :
    Calm k (n.setGauge o) :=
  calm_of_same hk (by simp) (by simp) (by simp) (by simp)

@[simp] theorem startZero_calm (k n : Node) (hk : Calm k n) :
    Calm k (n.startZero) :=
  calm_of_same hk (by simp) (by simp) (by simp) (by simp)

@[simp] theorem takeZero_calm (k n : Node) (x1 : RxFrame) (hk : Calm k n) :
    Calm k (n.takeZero x1) := by
  unfold Node.takeZero
  repeat' split
  all_goals simp (maxDischargeDepth := 9) [hk]

@[simp] theorem takeBalance_calm (k n : Node) (x1 : RxFrame) (hk : Calm k n) :
    Calm k (n.takeBalance x1) := by
  unfold Node.takeBalance
  repeat' split
  all_goals simp (maxDischargeDepth := 9) [hk]

@[simp] theorem startJog_calm (k n : Node) (v : Int) (hk : Calm k n) :
    Calm k (n.startJog v) := by
  unfold Node.startJog
  repeat' split
  all_goals simp (maxDischargeDepth := 9) [hk]

@[simp] theorem judgeJog_calm (k n : Node) (v : Int) (hk : Calm k n) :
    Calm k (n.judgeJog v) := by
  unfold Node.judgeJog
  repeat' split
  all_goals simp (maxDischargeDepth := 9) [hk]

@[simp] theorem takeJog_calm (k n : Node) (f : RxFrame) (hk : Calm k n) :
    Calm k (n.takeJog f) := by
  unfold Node.takeJog
  repeat' split
  all_goals simp (maxDischargeDepth := 9) [hk]

@[simp] theorem takeStopJog_calm (k n : Node) (x1 : RxFrame) (hk : Calm k n) :
    Calm k (n.takeStopJog x1) := by
  unfold Node.takeStopJog
  repeat' split
  all_goals simp (maxDischargeDepth := 9) [hk]

@[simp] theorem clearGap_calm (k n : Node) (id : Fin 16) (page : Nat) (hk : Calm k n) :
    Calm k (n.clearGap id page) :=
  calm_of_same hk (by simp) (by simp) (by simp) (by simp)

@[simp] theorem reply_calm (k n : Node) (f : RxFrame) (contents : List Byte) (hk : Calm k n) :
    Calm k (n.reply f contents) :=
  calm_of_same hk (by simp) (by simp) (by simp) (by simp)

@[simp] theorem takeStatus_calm (k n : Node) (f : RxFrame) (hk : Calm k n) :
    Calm k (n.takeStatus f) :=
  calm_of_same hk (by simp) (by simp) (by simp) (by simp)

@[simp] theorem takeSegmentQuery_calm (k n : Node) (f : RxFrame) (hk : Calm k n) :
    Calm k (n.takeSegmentQuery f) :=
  calm_of_same hk (by simp) (by simp) (by simp) (by simp)

@[simp] theorem takeResultQuery_calm (k n : Node) (f : RxFrame) (hk : Calm k n) :
    Calm k (n.takeResultQuery f) :=
  calm_of_same hk (by simp) (by simp) (by simp) (by simp)

@[simp] theorem takeHealthQuery_calm (k n : Node) (f : RxFrame) (hk : Calm k n) :
    Calm k (n.takeHealthQuery f) :=
  calm_of_same hk (by simp) (by simp) (by simp) (by simp)

@[simp] theorem takePeerQuery_calm (k n : Node) (f : RxFrame) (hk : Calm k n) :
    Calm k (n.takePeerQuery f) :=
  calm_of_same hk (by simp) (by simp) (by simp) (by simp)

@[simp] theorem takeRefused_calm (k n : Node) (f : RxFrame) (hk : Calm k n) :
    Calm k (n.takeRefused f) :=
  calm_of_same hk (by simp) (by simp) (by simp) (by simp)

@[simp] theorem runStart_calm (k n : Node) (hk : Calm k n) :
    Calm k (n.runStart) :=
  calm_of_same hk (by simp) (by simp) (by simp) (by simp)

@[simp] theorem skippingEnd_calm (k n : Node) (hk : Calm k n) :
    Calm k (n.skippingEnd) :=
  calm_of_same hk (by simp) (by simp) (by simp) (by simp)

@[simp] theorem receiveError_calm (k n : Node) (e : ReceiveError) (hk : Calm k n) :
    Calm k (n.receiveError e) :=
  calm_of_same hk (by simp) (by simp) (by simp) (by simp)

@[simp] theorem enqueue_calm (k n : Node) (m : MsgKind) (f : RxFrame) (hk : Calm k n) :
    Calm k (n.enqueue m f) := by
  apply calm_of_same hk <;> simp

@[simp] theorem hearPeer_calm (k n : Node) (h : Header) (p : List Byte) (hk : Calm k n) :
    Calm k (n.hearPeer h p) :=
  calm_of_same hk (by simp) (by simp) (by simp) (by simp)

@[simp] theorem attemptStart_calm (k n : Node) (hk : Calm k n) :
    Calm k (n.attemptStart) :=
  calm_of_same hk (by simp) (by simp) (by simp) (by simp)

@[simp] theorem attemptEnd_calm (k n : Node) (readBack : List LineChar) (hk : Calm k n) :
    Calm k (n.attemptEnd readBack) :=
  calm_of_same hk (by simp) (by simp) (by simp) (by simp)

@[simp] theorem windowPasses_calm (k n : Node) (c : FrameClass) (hk : Calm k n) :
    Calm k (n.windowPasses c) :=
  calm_of_same hk (by simp) (by simp) (by simp) (by simp)

@[simp] theorem pendingEntry_calm (k n : Node) (hk : Calm k n) :
    Calm k (n.pendingEntry) :=
  calm_of_same hk (by simp) (by simp) (by simp) (by simp)

@[simp] theorem factsArrive_calm (k n : Node) (hk : Calm k n) :
    Calm k (n.factsArrive) :=
  calm_of_same hk (by simp) (by simp) (by simp) (by simp)

@[simp] theorem reseedTimer_calm (k n : Node) (i : Fin 16) (hk : Calm k n) :
    Calm k (n.reseedTimer i) :=
  calm_of_same hk (by simp) (by simp) (by simp) (by simp)

@[simp] theorem silenceTimer_calm (k n : Node) (i : Fin 16) (hk : Calm k n) :
    Calm k (n.silenceTimer i) :=
  calm_of_same hk (by simp) (by simp) (by simp) (by simp)

@[simp] theorem genUnderflow_calm (k n : Node) (hk : Calm k n) :
    Calm k (n.genUnderflow) := by
  unfold Node.genUnderflow
  repeat' split
  all_goals simp (maxDischargeDepth := 9) [hk]

@[simp] theorem genPulseEnd_calm (k n : Node) (hk : Calm k n) :
    Calm k (n.genPulseEnd) := by
  unfold Node.genPulseEnd
  repeat' split
  all_goals simp (maxDischargeDepth := 9) [hk]

@[simp] theorem runDownTimer_calm (k n : Node) (hk : Calm k n) :
    Calm k (n.runDownTimer) := by
  unfold Node.runDownTimer
  repeat' split
  all_goals simp (maxDischargeDepth := 9) [hk]

@[simp] theorem acceptArm_calm (k n : Node) (arm : Arm) (a b : Bool) (hk : Calm k n) :
    Calm k (n.acceptArm arm a b) :=
  calm_of_same hk (by simp) (by simp) (by simp) (by simp)

@[simp] theorem armEvent_calm (k n : Node) (arm : Arm) (a b : Bool) (hk : Calm k n) :
    Calm k (n.armEvent arm a b) :=
  calm_of_same hk (by simp) (by simp) (by simp) (by simp)

@[simp] theorem armClosedChange_calm (k n : Node) (arm1 arm2 : Bool) (hk : Calm k n) :
    Calm k (n.armClosedChange arm1 arm2) :=
  calm_of_same hk (by simp) (by simp) (by simp) (by simp)

@[simp] theorem lockTimer_calm (k n : Node) (hk : Calm k n) :
    Calm k (n.lockTimer) := by
  unfold Node.lockTimer
  repeat' split
  all_goals simp (maxDischargeDepth := 9) [hk]

@[simp] theorem drainTimer_calm (k n : Node) (hk : Calm k n) :
    Calm k (n.drainTimer) :=
  calm_of_same hk (by simp) (by simp) (by simp) (by simp)

@[simp] theorem countDrive_calm (k n : Node) (hk : Calm k n) :
    Calm k (n.countDrive) :=
  calm_of_same hk (by simp) (by simp) (by simp) (by simp)

@[simp] theorem countArms_calm (k n : Node) (hk : Calm k n) :
    Calm k (n.countArms) :=
  calm_of_same hk (by simp) (by simp) (by simp) (by simp)

@[simp] theorem countGen_calm (k n : Node) (hk : Calm k n) : Calm k n.countGen := by
  unfold Node.countGen
  split
  · exact setGen_calm _ _ _ hk (by simp)
  · exact hk

@[simp] theorem countBit_calm (k n : Node) (hk : Calm k n) :
    Calm k (n.countBit) :=
  calm_of_same hk (by simp) (by simp) (by simp) (by simp)

/-! ### Operations that may change the states or the record

`x_hs` says that the operation `x` keeps the safety of the halt. -/

/-- A test in progress: its state is neither absent nor HALTED. -/
def Live (n : Node) : Prop := n.seq.test ≠ none ∧ n.seq.test ≠ some .halted

theorem live_of_progress {n : Node} (h : n.testInProgress = true) : Live n := by
  constructor <;> intro e <;> simp [Node.testInProgress, e] at h
theorem Calm.live {n m : Node} (g : Calm n m) (h : Live n) : Live m := by
  unfold Live; rw [g.test]; exact h
theorem live_of_meets {n : Node} {f : SegFields → Bool} (h : n.meets f = true) : Live n := by
  constructor <;> intro e <;> simp [Node.meets, e] at h

theorem enterEnded_hs (n : Node) (c : EndCause) (d : CloseCause) (h : n.HaltSafe) (l : Live n) :
    (n.enterEnded c d).HaltSafe := enterEnded_safe n c d h l.1 l.2
theorem setTest_hs (n : Node) (t : TestState) (h : n.HaltSafe) (l : Live n) (ht : t ≠ .halted) :
    (n.setTest t).HaltSafe := setTest_safe n t h l.1 l.2 ht

theorem closeByCondition_calm' (n : Node) : Calm n n.closeByCondition := by simp

theorem goOn_hs (j : Nat) (b : Bool) (n : Node) (h : n.HaltSafe) (l : Live n) :
    (Node.goOn j b n).HaltSafe := by
  induction j generalizing b n with
  | zero => exact h
  | succ j ih =>
    simp only [Node.goOn]
    split
    · exact enterEnded_hs _ _ _ h l
    · split
      · rename_i i _
        have c : Calm n (n.openAt i b !b) := by simp
        split
        · have c' := closeByCondition_calm' (n.openAt i b !b)
          exact ih _ _ (c'.safe (c.safe h)) (c'.live (c.live l))
        · exact c.safe h
      · exact Calm.safe (by simp) h

theorem closeAndGoOn_hs (n : Node) (h : n.HaltSafe) (l : Live n) : n.closeAndGoOn.HaltSafe := by
  have c := closeByCondition_calm' n
  exact goOn_hs _ _ _ (c.safe h) (c.live l)

theorem openAndJudge_hs (n : Node) (i : Fin 32) (b : Bool) (h : n.HaltSafe) :
    (n.openAndJudge i b).HaltSafe := by
  have c : Calm n (n.openAt i b false) := by simp
  simp only [Node.openAndJudge]
  split
  · rename_i e; exact closeAndGoOn_hs _ (c.safe h) (live_of_meets e)
  · exact c.safe h

theorem judgeEnd_hs (n : Node) (f : SegFields → Bool) (h : n.HaltSafe) : (n.judgeEnd f).HaltSafe := by
  unfold Node.judgeEnd
  split
  · rename_i e; exact closeAndGoOn_hs _ h (live_of_meets e)
  · exact h
theorem watchStrain_hs (n : Node) (e : HistEntry) (h : n.HaltSafe) : (n.watchStrain e).HaltSafe :=
  judgeEnd_hs _ _ h
theorem watchForce_hs (n : Node) (e : HistEntry) (h : n.HaltSafe) : (n.watchForce e).HaltSafe :=
  judgeEnd_hs _ _ h
theorem watchTravel_hs (n : Node) (h : n.HaltSafe) : n.watchTravel.HaltSafe := judgeEnd_hs _ _ h
theorem watchTime_hs (n : Node) (h : n.HaltSafe) : n.watchTime.HaltSafe := judgeEnd_hs _ _ h

theorem yieldReport_hs (n : Node) (h : n.HaltSafe) : n.yieldReport.HaltSafe := by
  have c : Calm n (n.setSeq { n.seq with yieldSeen := true }) := by simp
  simp only [Node.yieldReport]
  split
  · rename_i e; exact closeAndGoOn_hs _ (c.safe h) (live_of_meets e)
  · exact c.safe h

theorem walkAndGoOn_hs (n : Node) (k : Nat) (b : Bool) (h : n.HaltSafe) (l : Live n) :
    (n.walkAndGoOn k b).HaltSafe := by
  have c : Calm n (n.walk k).1 := walk_calm k n n (.refl n)
  unfold Node.walkAndGoOn
  split
  · rename_i m e; rw [e] at c; exact enterEnded_hs _ _ _ (c.safe h) (c.live l)
  · rename_i m e; rw [e] at c; exact goOn_hs _ _ _ (c.safe h) (c.live l)

theorem markAhead_hs (n : Node) (k : Nat) (t : Time) (h : n.HaltSafe) (l : Live n) :
    (n.markAhead k t).HaltSafe := by
  have c : Calm n (n.closeOpen .peerMark t) := by simp
  simp only [Node.markAhead]
  split
  · exact enterEnded_hs _ _ _ (c.safe h) (c.live l)
  · exact walkAndGoOn_hs _ _ _ (c.safe h) (c.live l)

theorem judgeMark_hs (n : Node) (j : Nat) (t : Time) (h : n.HaltSafe) (l : Live n) :
    (n.judgeMark j t).HaltSafe := by
  have c : Calm n (n.closeOpen .peerMark t) := by simp
  unfold Node.judgeMark
  split
  · exact h
  · split
    · split
      · exact goOn_hs _ _ _ (c.safe h) (c.live l)
      · exact h
    · exact markAhead_hs _ _ _ h l

theorem takeMark_hs (n : Node) (f : RxFrame) (h : n.HaltSafe) : (n.takeMark f).HaltSafe := by
  unfold Node.takeMark
  split
  · rename_i e; exact judgeMark_hs _ _ _ h (live_of_progress e.2.1)
  · exact h

theorem seqBreak_hs (n : Node) (h : n.HaltSafe) : n.seqBreak.HaltSafe := by
  unfold Node.seqBreak
  split
  · rename_i e; exact enterEnded_hs _ _ _ h (live_of_progress e)
  · exact h

theorem stopJogging_hs (n : Node) (h : n.HaltSafe) : n.stopJogging.HaltSafe := Calm.safe (by simp) h

/-- A record that does not stand, in a test state that is not HALTED. -/
theorem setRecord_noted_hs (n : Node) (c : HaltCause) (o : Fin 16) (h : n.HaltSafe)
    (ht : n.seq.test ≠ some .halted) : (n.setRecord c o false).HaltSafe := by
  obtain ⟨a, b, _, d⟩ := h
  refine ⟨a, b, ?_, d⟩
  constructor
  · intro e; exact absurd e ht
  · rintro ⟨r, hr, hs⟩
    simp only [Node.setRecord, setHlt_fields, Option.some.injEq] at hr
    subst hr; simp at hs

theorem receivedCause_hs (n : Node) (c : HaltCause) (o : Fin 16) (h : n.HaltSafe) :
    (n.receivedCause c o).HaltSafe := by
  unfold Node.receivedCause
  split
  · exact h
  · exact h
  · rename_i e
    split
    · exact h
    · exact stopJogging_hs _ (setRecord_noted_hs _ _ _ h (by simp [e]))
  · rename_i e; exact setRecord_enterHalted_safe _ _ _ h (by simp [e])
theorem takeHalt_hs (n : Node) (f : RxFrame) (h : n.HaltSafe) : (n.takeHalt f).HaltSafe :=
  receivedCause_hs _ _ _ h

theorem deliverBreak_hs (n : Node) (h : n.HaltSafe) : n.deliverBreak.HaltSafe :=
  Calm.safe (evalEnding_calm n.exhBreak.seqBreak _ _ (.refl _)) (seqBreak_hs _ (Calm.safe (n := n) (by simp) h))
theorem raiseBreak_hs (n : Node) (h : n.HaltSafe) : n.raiseBreak.HaltSafe := by
  unfold Node.raiseBreak
  split
  · exact deliverBreak_hs _ (Calm.safe (n := n) (by simp) h)
  · exact h
theorem takeBreak_hs (n : Node) (f : RxFrame) (h : n.HaltSafe) : (n.takeBreak f).HaltSafe := by
  have c : ((n.setBreak f.header.sender).deliverBreak).HaltSafe :=
    deliverBreak_hs _ (Calm.safe (n := n) (by simp) h)
  unfold Node.takeBreak
  dsimp only
  split <;> split
  · exact c
  · exact h
  · exact c
  · exact h
theorem sampleStop_hs (n : Node) (b : Bool) (h : n.HaltSafe) : (n.sampleStop b).HaltSafe := by
  simp only [Node.sampleStop]
  split
  · exact Calm.safe (n := n.localCause .stopInput) (setHlt_calm _ _ _ (.refl _) rfl) (localCause_safe _ _ h)
  · exact Calm.safe (n := n) (setHlt_calm _ _ _ (.refl _) rfl) h
theorem loadLost_hs (n : Node) (h : n.HaltSafe) : n.loadLost.HaltSafe := by
  unfold Node.loadLost
  split
  · exact localCause_safe _ _ h
  · exact h

/-- What an entry to SILENT leaves: where the node was ACTIVE, no generator runs and the halt stands. -/
theorem enterSilent_hs (n : Node) (h : n.HaltSafe) : n.enterSilent.HaltSafe := by
  obtain ⟨a, b, c, d⟩ := h
  simp only [Node.enterSilent]
  split
  · rename_i hop
    unfold Node.localCause
    split
    · rename_i e; exact absurd e (b hop)
    · rename_i e
      have e' : n.seq.test = some .halted := e
      refine ⟨by simp, by simp, ?_, ?_⟩
      · simpa using c
      · intro q
        have := (d q).2
        simp [Node.drvEn, e'] at this
    · rename_i t ne e
      have e' : n.seq.test = some t := e
      simp only [if_true]
      refine ⟨?_, by simp, by simp [Node.setRecord], ?_⟩
      · simp only [enterHalted_effect, closeOpen_effect]; simp [Node.setRecord]
      · cases hd : n.roles.drive with
        | true =>
          simp only [enterHalted_effect, Node.setRecord]
          simp only [Node.roles] at hd
          simp [Node.roles, hd, requestStop_st]
        | false =>
          simp only [enterHalted_effect, Node.setRecord]
          simp only [Node.roles] at hd
          simp [Node.roles, hd]
          intro q
          have := (d q).1
          simp [Node.driveLive, Node.roles, hd] at this
  · rename_i hop
    refine ⟨by simp, by simp, by simpa using c, ?_⟩
    intro q
    have := (d q).2
    simp [Node.drvEn, hop] at this

/-! ### Pairing and consumers -/

theorem reportYield_hs (n : Node) (h : n.HaltSafe) : n.reportYield.HaltSafe := by
  unfold Node.reportYield
  split
  · exact yieldReport_hs _ (Calm.safe (n := n) (by simp) h)
  · exact h
theorem setEvl_hs (n : Node) (e : Evl) (h : n.HaltSafe) : (n.setEvl e).HaltSafe :=
  Calm.safe (n := n) (by simp) h
theorem popLoad_hs (n : Node) (h : n.HaltSafe) : n.popLoad.HaltSafe := setEvl_hs _ _ h
theorem passPair_hs (n : Node) (p : EvalParams) (x : Pair) (h : n.HaltSafe) : (n.passPair p x).HaltSafe := by
  simp only [Node.passPair]
  have early := reportYield_hs ((n.setEvl (n.evl.earlyStages p x)).reportHeld x.held)
    (Calm.safe (n := n) (by simp) h)
  exact setEvl_hs _ _ (reportYield_hs _ (setEvl_hs _ _ early))
theorem formPair_hs (n : Node) (l : LoadEntry) (a : Answer) (h : n.HaltSafe) : (n.formPair l a).HaltSafe := by
  unfold Node.formPair
  split
  · exact passPair_hs _ _ _ h
  · exact h
theorem pairWith_hs (n : Node) (l : LoadEntry) (a : Answer) (h : n.HaltSafe) : (n.pairWith l a).HaltSafe := by
  unfold Node.pairWith
  split
  · exact Calm.safe (n := n) (by simp) h
  · exact formPair_hs _ _ _ h
theorem pairFront_hs (n m : Node) (l : LoadEntry) (e : n.pairFront l = some m) (h : n.HaltSafe) :
    m.HaltSafe := by
  unfold Node.pairFront at e
  revert e; cases Place.inside l.time _ <;> simp
  rintro rfl; exact popLoad_hs _ (pairWith_hs _ _ _ h)
theorem pairRounds_hs (k : Nat) (n : Node) (h : n.HaltSafe) : (Node.pairRounds k n).HaltSafe := by
  induction k generalizing n with
  | zero => exact h
  | succ k ih =>
    unfold Node.pairRounds
    split
    · exact h
    · split
      · split
        · rename_i _ m e; exact ih _ (pairFront_hs _ _ _ e h)
        · exact h
      · exact h
theorem pairingAttempt_hs (n : Node) (h : n.HaltSafe) : n.pairingAttempt.HaltSafe := by
  have c := pairRounds_hs n.evl.queue.length n h
  simp only [Node.pairingAttempt]
  split
  · exact Calm.safe (by simp) c
  · exact c
theorem overflow_hs (n : Node) (h : n.HaltSafe) : n.overflow.HaltSafe := by
  unfold Node.overflow
  split
  · exact h
  · split
    · exact popLoad_hs _ (pairWith_hs _ _ _ h)
    · exact setEvl_hs _ _ (popLoad_hs _ h)
theorem evalLoad_hs (n : Node) (e : HistEntry) (h : n.HaltSafe) : (n.evalLoad e).HaltSafe := by
  simp only [Node.evalLoad]
  split
  · apply pairingAttempt_hs
    split
    · exact Calm.safe (n := n) (by simp) h
    · exact Calm.safe (n := n.overflow) (by simp) (overflow_hs _ h)
  · exact h
theorem evalStrain_hs (n : Node) (e : HistEntry) (h : n.HaltSafe) : (n.evalStrain e).HaltSafe := by
  unfold Node.evalStrain
  split
  · exact pairingAttempt_hs _ (Calm.safe (n := n) (by simp) h)
  · exact h
theorem consumeStrain_hs (n : Node) (e : HistEntry) (h : n.HaltSafe) : (n.consumeStrain e).HaltSafe :=
  watchStrain_hs _ _ (evalStrain_hs _ _ (Calm.safe (cmuArrival_calm _ _ _ _ (.refl _)) h))
theorem consumeForce_hs (n : Node) (e : HistEntry) (h : n.HaltSafe) : (n.consumeForce e).HaltSafe :=
  watchForce_hs _ _ (evalLoad_hs _ _ (Calm.safe (cmuArrival_calm _ _ _ _ (.refl _))
    (Calm.safe (n := n) (by simp) h)))
theorem consumeSub_hs (n : Node) (i : Fin 4) (e : HistEntry) (h : n.HaltSafe) :
    (n.consumeSub i e).HaltSafe := by
  have t : ((n.awaitedDatum i e.value).watchTravel).HaltSafe :=
    watchTravel_hs _ (Calm.safe (awaitedDatum_calm _ _ _ _ (.refl n)) h)
  unfold Node.consumeSub
  split
  · split
    · split
      · exact h
      · exact consumeForce_hs _ _ h
    · split
      · exact h
      · exact consumeStrain_hs _ _ h
    · exact t
    · exact t
  · exact h

/-! ### The load channel -/

theorem detectBreak_hs (n : Node) (e : HistEntry) (h : n.HaltSafe) : (n.detectBreak e).HaltSafe := by
  unfold Node.detectBreak
  repeat' split
  · exact raiseBreak_hs _ (Calm.safe (n := n) (by simp) h)
  · exact h
  · exact h
theorem checkOverload_hs (n : Node) (e : HistEntry) (h : n.HaltSafe) : (n.checkOverload e).HaltSafe := by
  unfold Node.checkOverload
  split
  · exact localCause_safe _ _ h
  · exact h
theorem consumeLoad_hs (n : Node) (e : HistEntry) (h : n.HaltSafe) : (n.consumeLoad e).HaltSafe := by
  apply watchForce_hs; apply checkOverload_hs; apply detectBreak_hs; apply evalLoad_hs
  refine Calm.safe (cmuArrival_calm _ _ _ _ (.refl _)) ?_
  exact Calm.safe (n := n) (by simp) h
theorem publishLoad_hs (n : Node) (h : n.HaltSafe) : n.publishLoad.HaltSafe :=
  consumeLoad_hs _ _ (Calm.safe (n := n) (by simp) h)
theorem publishStage_hs (n : Node) (h : n.HaltSafe) : n.publishStage.HaltSafe := by
  unfold Node.publishStage
  split
  · exact publishLoad_hs _ h
  · exact Calm.safe (n := n) (by simp) h
theorem convert_hs (n : Node) (c : Int) (h : n.HaltSafe) : (n.convert c).HaltSafe := by
  have p := publishStage_hs (n.measure c).1 (Calm.safe (n := n) (by simp) h)
  simp only [Node.convert]
  split
  · exact Calm.safe (by simp) p
  · exact p
theorem conversion_hs (n : Node) (c : Int) (h : n.HaltSafe) : (n.conversion c).HaltSafe := by
  unfold Node.conversion
  repeat' split
  all_goals first
    | exact h
    | exact convert_hs _ _ h
    | exact convert_hs _ _ (Calm.safe (n := n) (by simp) h)
    | exact Calm.safe (n := n) (by simp) h

/-! ### The drive -/

theorem encoderError_hs (n : Node) (h : n.HaltSafe) : n.encoderError.HaltSafe :=
  localCause_safe _ _ (Calm.safe (n := n) (by simp) h)
theorem encoderStep_hs (n : Node) (s : QuadStep) (h : n.HaltSafe) : (n.encoderStep s).HaltSafe := by
  cases s
  · exact h
  · exact Calm.safe (n := n) (setTsg_calm _ _ _ (.refl _) id) h
  · exact Calm.safe (n := n) (setTsg_calm _ _ _ (.refl _) id) h
  · exact encoderError_hs _ h
theorem levelStage_hs (n : Node) (h : n.HaltSafe) : n.levelStage.HaltSafe := by
  simp only [Node.levelStage]
  repeat' split
  · exact localCause_safe _ _ (Calm.safe (n := n) (by simp) h)
  · exact Calm.safe (n := n) (by simp) h
  · exact h

/-- A generator set running in a live drive with drive enable asserted. -/
theorem setGen_enabled_calm (n : Node) (g : Gen) (h : n.driveLive = true ∧ n.drvEn = true) :
    Calm n (n.setGen g) := ⟨rfl, rfl, rfl, rfl, fun _ => Or.inr h⟩

theorem periodStage_hs (n : Node) (h : n.HaltSafe) (hd : n.driveLive = true) :
    n.periodStage.HaltSafe := by
  unfold Node.periodStage
  split
  · exact Calm.safe (n := n) (setGen_calm _ _ _ (.refl _) (requestStop_keeps _)) h
  · rename_i e
    have en : n.drvEn = true := by
      simp only [not_or, Node.stopStands] at e
      have := e.2
      cases ho : n.seq.op <;> simp_all [Node.drvEn]
    simp only [Node.runGenerator]
    repeat' split
    · exact localCause_safe _ _ ((setGen_enabled_calm n _ ⟨hd, en⟩).safe h)
    · exact (setGen_enabled_calm n _ ⟨hd, en⟩).safe h
    · exact (setGen_enabled_calm n _ ⟨hd, en⟩).safe h

theorem limitStage_hs (n : Node) (h : n.HaltSafe) : n.limitStage.HaltSafe := by
  have c : Calm n (n.setTsg { n.tsg with violLo := n.lowViolated, violHi := n.highViolated }) :=
    setTsg_calm _ _ _ (.refl _) id
  simp only [Node.limitStage]
  split
  · exact localCause_safe _ _ (c.safe h)
  · exact c.safe h
theorem followStage_hs (n : Node) (h : n.HaltSafe) : n.followStage.HaltSafe := by
  have c : Calm n n.handFollowing := by simp
  simp only [Node.followStage]
  split
  · exact localCause_safe _ _ (c.safe h)
  · exact c.safe h
theorem publishTravel_hs (n : Node) (h : n.HaltSafe) : n.publishTravel.HaltSafe := by
  apply watchTravel_hs
  exact Calm.safe (n := n) (by simp) h
theorem travelStage_hs (n : Node) (h : n.HaltSafe) : n.travelStage.HaltSafe := by
  unfold Node.travelStage
  split
  · exact publishTravel_hs _ h
  · exact Calm.safe (n := n) (by simp) h

/-- A local cause leaves the drive live or not as it was. -/
theorem localCause_driveLive (n : Node) (c : HaltCause) : (n.localCause c).driveLive = n.driveLive := by
  unfold Node.localCause
  split
  · rfl
  · rfl
  · rename_i e
    simp only [Node.driveLive, Node.inService, Node.roles]
    split <;> simp [e, Node.setRecord]
theorem levelStage_driveLive (n : Node) : n.levelStage.driveLive = n.driveLive := by
  simp only [Node.levelStage]
  repeat' split
  · rw [localCause_driveLive]; exact Calm.driveLive (by simp)
  · exact Calm.driveLive (by simp)
  · rfl
theorem pacer_hs (n : Node) (h : n.HaltSafe) (hd : n.driveLive = true) : n.pacer.HaltSafe := by
  simp only [Node.pacer]
  apply travelStage_hs; apply followStage_hs; apply limitStage_hs
  have c : Calm n n.rampStage := by simp
  have c2 : Calm n.rampStage.levelStage (n.rampStage.levelStage.issueStage n.rampStage.levelError) := by
    simp
  apply periodStage_hs
  · exact c2.safe (levelStage_hs _ (c.safe h))
  · rw [c2.driveLive, levelStage_driveLive, c.driveLive]; exact hd
theorem pacerExpiry_hs (n : Node) (a b : Bool) (h : n.HaltSafe) : (n.pacerExpiry a b).HaltSafe := by
  unfold Node.pacerExpiry
  split
  · rename_i e
    have c : Calm n (n.sampleLimits a b) := by simp
    exact pacer_hs _ (c.safe h) (by rw [c.driveLive]; simp_all)
  · exact h
theorem encoderEvent_hs (n : Node) (a b : Bool) (h : n.HaltSafe) : (n.encoderEvent a b).HaltSafe := by
  unfold Node.encoderEvent
  split
  · exact encoderStep_hs _ _ (Calm.safe (n := n) (by simp) h)
  · exact h

/-! ### Starts -/

theorem enterConfigFault_hs (n : Node) (c : FaultCode) (f : Nat) (k : Image) (h : n.HaltSafe)
    (ht : n.seq.test = none) : (n.enterConfigFault c f k).HaltSafe := by
  obtain ⟨a, b, cc, d⟩ := h
  refine Calm.safe (sendPresence_calm _ _ (.refl _)) ⟨?_, ?_, ?_, ?_⟩
  · simp [ht]
  · simp
  · simpa [ht] using cc
  · intro e; have := (d e).1; simp [Node.driveLive, Node.inService, ht] at this
theorem goLive_calm (n : Node) : Calm n n.goLive := by
  have c : Calm n (n.startLoad.setHlm (n.hlm.withThresholds n.img.health.thresholds)) := by simp
  unfold Node.goLive
  refine sendPresence_calm _ _ (notice_calm _ _ (resync_calm _ _ (startExt_calm _ _ (startStaleness_calm _ _ ?_))))
  exact setHlt_calm _ _ _ (setFilters_calm _ _ _ (setClk_calm _ _ _ c)) rfl
theorem enterActive_hs (n : Node) (i : Image) (h : n.HaltSafe) (ht : n.seq.test = none) :
    (n.enterActive i).HaltSafe := by
  obtain ⟨a, b, c, d⟩ := h
  have s : ((n.setSul { reading := false, image := i, fault := none }).setSeq
      { n.seq with op := .active, test := some .ready }).HaltSafe := by
    refine ⟨by simp, by simp, ?_, ?_⟩
    · have : ¬ ∃ r, n.hlt.record = some r ∧ r.standing = true := fun q => by
        have := c.mpr q; simp [ht] at this
      simpa using this
    · intro e; have := (d e).1; simp [Node.driveLive, Node.inService, ht] at this
  exact Calm.safe (goLive_calm _) s
theorem imageRead_hs (n : Node) (b : List Byte) (h : n.HaltSafe) (ht : n.seq.test = none) :
    (n.imageRead b).HaltSafe := by
  unfold Node.imageRead
  split
  · exact enterActive_hs _ _ h ht
  · exact enterConfigFault_hs _ _ _ _ h ht
theorem imageComplete_hs (n : Node) (b : List Byte) (h : n.HaltSafe) : (n.imageComplete b).HaltSafe := by
  unfold Node.imageComplete
  repeat' split
  all_goals first
    | exact h
    | (rename_i e; exact imageRead_hs _ _ (Calm.safe (n := n) (by simp) h) (by
        have := h.noTest; simp_all))
    | (rename_i e; exact imageRead_hs _ _ h (by have := h.noTest; simp_all))
theorem startValues_hs (p : Pins) (b : Bool) : (startValues p b).HaltSafe := by
  refine ⟨fun _ => rfl, ?_, ?_, ?_⟩
  · intro e; cases e
  · constructor
    · intro e; cases e
    · rintro ⟨r, hr, _⟩; cases hr
  · intro e; cases e

/-! ### Test commands -/

theorem loadedOpen_hs (n : Node) (h : n.HaltSafe) : ((n.openAndJudge 0 false).loadLost).HaltSafe :=
  loadLost_hs _ (openAndJudge_hs _ _ _ h)
theorem seqStart_hs (n : Node) (h : n.HaltSafe) (l : Live n) : n.seqStart.HaltSafe := by
  have c : Calm n (n.setSeq { n.seq with cursor := 0, yieldSeen := false, forceMax := 0,
                                          pauseTime := 0, endCause := none }) := by simp
  exact setTest_hs _ _ (c.safe h) (c.live l) (by decide)
theorem takenStart_hs (n : Node) (h : n.HaltSafe) (l : Live n) : n.takenStart.HaltSafe := by
  have s := seqStart_hs n h l
  apply loadedOpen_hs
  exact Calm.safe (n := n.seqStart) (by simp (maxDischargeDepth := 12)) s
theorem judgeStart_hs (n : Node) (i : Nat) (h : n.HaltSafe) (l : Live n) : (n.judgeStart i).HaltSafe := by
  unfold Node.judgeStart
  repeat' split
  · exact localCause_safe _ _ (Calm.safe (n := n) (by simp) h)
  · exact takenStart_hs _ h l
  · exact localCause_safe _ _ h
theorem takeStart_hs (n : Node) (f : RxFrame) (h : n.HaltSafe) : (n.takeStart f).HaltSafe := by
  unfold Node.takeStart
  split
  · split
    · exact localCause_safe _ _ h
    · rename_i e; exact judgeStart_hs _ _ h (by simp [Live, e])
    · exact h
    · exact h
    · exact Calm.safe (n := n) (by simp) h
  · exact h
theorem takePause_hs (n : Node) (f : RxFrame) (h : n.HaltSafe) : (n.takePause f).HaltSafe := by
  unfold Node.takePause
  split
  · split
    · rename_i e
      exact Calm.safe (cmuHold_calm _ _ (.refl _)) (setTest_hs _ _ h (by simp [Live, e]) (by decide))
    · exact h
    · exact Calm.safe (n := n) (by simp) h
  · exact h
theorem resumed_hs (n : Node) (h : n.HaltSafe) (l : Live n) : n.resumed.HaltSafe := by
  have t := Calm.safe (resumeRequest_calm _ _ (.refl _)) (setTest_hs n .running h l (by decide))
  simp only [Node.resumed]
  split
  · rename_i e; exact closeAndGoOn_hs _ t (live_of_meets e)
  · exact t
theorem takeResume_hs (n : Node) (f : RxFrame) (h : n.HaltSafe) : (n.takeResume f).HaltSafe := by
  unfold Node.takeResume
  split
  · split
    · rename_i e; exact resumed_hs _ h (by simp [Live, e])
    · exact h
    · exact Calm.safe (n := n) (by simp) h
  · exact h
theorem abortArmed_hs (n : Node) (h : n.HaltSafe) (l : Live n) : n.abortArmed.HaltSafe := by
  have c : Calm n (n.setSeq n.seq.dropOrder) := setSeq_calm _ _ _ (.refl _) rfl rfl
  exact directStop_safe _ (setTest_hs _ _ (c.safe h) (c.live l) (by decide))

/-- The standing halt is over, and the node is in a state that is not HALTED. -/
theorem left_halted (n m : Node) (t : TestState) (ht : t ≠ .halted) (h : n.HaltSafe)
    (h1 : m.seq.op = n.seq.op) (h2 : m.seq.test = some t) (hn : n.seq.test ≠ none)
    (hr : ∀ r, m.hlt.record = some r → r.standing = false) (hg : m.tsg.gen.st ≠ .running) :
    m.HaltSafe := by
  refine ⟨?_, by simp [h2], ?_, fun e => absurd e hg⟩
  · rw [h1]; intro e; exact absurd (h.noTest e) hn
  · rw [h2]; constructor
    · intro e; exact absurd (Option.some.inj e) ht
    · rintro ⟨r, e, s⟩; rw [hr r e] at s; cases s
/-- In HALTED no generator runs. -/
theorem halted_stopped (n : Node) (h : n.HaltSafe) (e : n.seq.test = some .halted) :
    n.tsg.gen.st ≠ .running := by
  intro q; have := (h.runs q).2; simp [Node.drvEn, e] at this

theorem abortHalted_hs (n : Node) (h : n.HaltSafe) (e : n.seq.test = some .halted) :
    n.abortHalted.HaltSafe := by
  have g := halted_stopped n h e
  refine Calm.safe (resync_calm _ _ (.refl _)) ?_
  refine left_halted n _ .ended (by decide) h (by simp) (by simp) (by simp [e]) ?_ ?_
  · intro r; simp [Hlt.noted]; rintro x _ rfl; rfl
  · simp only [enterEnded_effect]
    split
    · exact requestStop_st _
    · exact g
theorem takeAbort_hs (n : Node) (f : RxFrame) (h : n.HaltSafe) : (n.takeAbort f).HaltSafe := by
  unfold Node.takeAbort
  split
  · split
    · rename_i e; exact abortArmed_hs _ h (by simp [Live, e])
    · rename_i e; exact enterEnded_hs _ _ _ h (by simp [Live, e])
    · rename_i e; exact enterEnded_hs _ _ _ h (by simp [Live, e])
    · rename_i e; exact abortHalted_hs _ h e
    · exact h
    · exact Calm.safe (n := n) (by simp) h
  · exact h

theorem cleared_hs (n : Node) (h : n.HaltSafe)
    (e : n.seq.test = some .halted ∨ n.seq.test = some .ended) : n.cleared.HaltSafe := by
  refine Calm.safe (clearEncFault_calm _ _ (.refl _)) ?_
  rcases e with e | e
  · refine left_halted n _ .ready (by decide) h ?_ ?_ (by simp [e]) ?_ ?_
    · simp [Seq.dropOrder]
    · simp
    · intro r; simp
    · simp only [setTest_effect]; exact halted_stopped n h e
  · obtain ⟨a, b, c, d⟩ := h
    refine ⟨?_, by simp, ?_, ?_⟩
    · simp only [setTest_effect]; intro q; have := a (by simpa [Seq.dropOrder] using q); simp [e] at this
    · simp
    · simp only [setTest_effect, Node.driveLive, Node.inService, Node.roles, Node.drvEn, setTest_frame, img_eq]
      intro q; have := d q; simp_all [Node.driveLive, Node.inService, Node.roles, Node.drvEn, Seq.dropOrder]
theorem takeClear_hs (n : Node) (f : RxFrame) (h : n.HaltSafe) : (n.takeClear f).HaltSafe := by
  unfold Node.takeClear
  split
  · split
    · rename_i e; exact Calm.safe (resync_calm _ _ (.refl _)) (cleared_hs _ h (.inl e))
    · rename_i e; exact cleared_hs _ h (.inr e)
    · exact h
    · exact h
    · exact Calm.safe (n := n) (by simp) h
  · exact h

/-- FRAME-RESET's own part before the blocks are reset: the test state is READY. -/
theorem toReady_effect (n : Node) : n.toReady.seq = { n.seq with test := some .ready } ∧
    n.toReady.tsg = n.tsg := by
  unfold Node.toReady
  split
  · rename_i e; simp [← e]
  · simp
/-- The blocks' parts of FRAME-RESET, the direct stop and the halt unit's apart, are calm. -/
theorem blocksReset_effect (n : Node) : n.blocksReset.hlt = { stopFound := n.hlt.stopFound } ∧ ∃ m, Calm n.directStop m ∧
    n.blocksReset.sul = m.sul ∧ n.blocksReset.seq = m.seq ∧ n.blocksReset.tsg = m.tsg := by
  refine ⟨by simp [Node.blocksReset], (((((n.directStop.lcFrameReset).tsgFrameReset.setDatums {}).exhFrameReset).ptaFrameReset
    ).cmuFrameReset).evalFrameReset, ?_, rfl, rfl, rfl⟩
  simp (maxDischargeDepth := 12)

theorem frameReset_hs (n : Node) (h : n.HaltSafe) (ha : n.seq.op = .active) : n.frameReset.HaltSafe := by
  -- the node after its blocks are reset
  have key : ∀ k : Node, k.seq.op = n.seq.op → k.seq.test = some .ready → k.sul = n.sul →
      (k.tsg.gen.st = .running → n.tsg.gen.st = .running) → k.blocksReset.HaltSafe := by
    intro k h1 h2 h3 h4
    obtain ⟨e1, m, c, e2, e3, e4⟩ := blocksReset_effect k
    have t : m.seq.test = some .ready := by rw [c.test]; simpa using h2
    have o : m.seq.op = .active := by rw [c.op]; simpa [h1] using ha
    have su : m.sul = n.sul := by rw [c.sul]; simpa using h3
    refine ⟨?_, ?_, ?_, ?_⟩
    · rw [e3, o]; rintro (q | q) <;> cases q
    · rw [e3, t]; simp
    · rw [e3, t, e1]; simp
    · rw [e4]; intro q
      have live : m.driveLive = true ∧ m.drvEn = true := by
        refine ⟨?_, by simp [Node.drvEn, o, t]⟩
        rcases c.gen q with g | g
        · simp only [directStop_tsg] at g
          by_cases hd : k.driveLive = true
          · exact absurd g (by simp [hd, requestStop_st])
          · simp only [hd] at g
            have := (h.runs (h4 (by simpa using g))).1
            simp_all [Node.driveLive, Node.inService, Node.roles]
        · rw [c.driveLive]; exact g.1
      simp only [Node.driveLive, Node.inService, Node.roles, Node.drvEn, img_eq, e2, e3] at live ⊢
      exact live
  have step : ((n.setFbc n.fbc.atFrameReset).setSeq n.seq.atFrameReset).toReady.blocksReset.HaltSafe := by
    apply key
    · rw [(toReady_effect _).1]; rfl
    · rw [(toReady_effect _).1]
    · simp
    · rw [(toReady_effect _).2]; exact id
  simp only [Node.frameReset]
  refine Calm.safe (sendPresence_calm _ _ (.refl _)) ?_
  split
  · exact Calm.safe (resync_calm _ _ (.refl _)) step
  · exact step
theorem takeFrameReset_hs (n : Node) (f : RxFrame) (h : n.HaltSafe) : (n.takeFrameReset f).HaltSafe := by
  unfold Node.takeFrameReset
  split
  · rename_i e; exact frameReset_hs _ h (by simpa [Node.active] using e)
  · exact h

/-! ### Orders and segments -/

theorem dropOther_hs (n : Node) (t : Nat) (h : n.HaltSafe) : (n.dropOther t).HaltSafe := by
  unfold Node.dropOther
  split
  · rename_i e
    have c : Calm n (n.setSeq n.seq.dropOrder) := setSeq_calm _ _ _ (.refl _) rfl rfl
    have l : Live n := by simp_all [Live]
    exact setTest_hs _ _ (c.safe h) (c.live l) (by decide)
  · exact h
theorem putPart_hs (n : Node) (t : Nat) (x : OrderPart) (h : n.HaltSafe) : (n.putPart t x).HaltSafe := by
  have c : Calm n (n.setSeq { n.seq with order := some ((n.orderFor t).put x) }) :=
    setSeq_calm _ _ _ (.refl _) rfl rfl
  simp only [Node.putPart]
  have hh : ∀ k : Node, k.HaltSafe → ∀ b : Bool, (if (b && k.seq.test == some .ready) = true then k.setTest .armed
      else k).HaltSafe := by
    intro k hk b
    split
    · rename_i e; exact setTest_hs _ _ hk (by simp_all [Live]) (by decide)
    · exact hk
  apply hh
  split
  · exact Calm.safe (setGauge_calm _ _ _ (.refl _)) (c.safe h)
  · exact c.safe h
theorem takeOrder_hs (n : Node) (f : RxFrame) (h : n.HaltSafe) : (n.takeOrder f).HaltSafe := by
  have r : ∀ c, (n.refuse c).HaltSafe := fun c => Calm.safe (n := n) (by simp) h
  simp only [Node.takeOrder]
  repeat' split
  all_goals first
    | exact h
    | exact r _
    | exact putPart_hs _ _ _ (dropOther_hs _ _ h)

theorem loadSegment_hs (n : Node) (i : Fin 32) (f : SegFields) (h : n.HaltSafe) :
    (n.loadSegment i f).HaltSafe := by
  have c : Calm n (n.setSeq (n.seq.setEntry i { status := .loaded, fields := f })) :=
    setSeq_calm _ _ _ (.refl _) rfl rfl
  simp only [Node.loadSegment]
  split
  · exact openAndJudge_hs _ _ _ (c.safe h)
  · exact c.safe h
theorem takeSegment_hs (n : Node) (f : RxFrame) (h : n.HaltSafe) : (n.takeSegment f).HaltSafe := by
  have r : ∀ c, (n.refuse c).HaltSafe := fun c => Calm.safe (n := n) (by simp) h
  unfold Node.takeSegment Node.judgeSegment
  repeat' split
  all_goals first
    | exact h
    | exact r _
    | exact loadSegment_hs _ _ _ h

/-! ### Bus, peers, measuring -/

theorem completeFrame_hs (n : Node) (hd : Header) (p : List Byte) (h : n.HaltSafe) :
    (n.completeFrame hd p).HaltSafe := by
  have c : Calm n (n.setFbc (n.fbc.runEnded .hunting)) := by simp
  simp only [Node.completeFrame, Node.hearOwn]
  repeat' split
  · exact c.safe h
  · exact enterSilent_hs _ (c.safe h)
  · exact Calm.safe (hearPeer_calm _ _ _ _ (.refl _)) (c.safe h)
theorem receive_hs (n : Node) (b : List Byte) (h : n.HaltSafe) : (n.receive b).HaltSafe := by
  unfold Node.receive
  repeat' split
  all_goals first
    | exact h
    | exact completeFrame_hs _ _ _ h
    | exact Calm.safe (receiveError_calm _ _ _ (.refl _)) h

theorem takeSample_hs (n : Node) (f : RxFrame) (h : n.HaltSafe) : (n.takeSample f).HaltSafe := by
  unfold Node.takeSample
  split
  · rename_i i _
    have c : Calm n (n.judgeSample i f).1 := by simp
    split
    · rename_i m e q; rw [q] at c; exact consumeSub_hs _ _ _ (c.safe h)
    · rename_i m q; rw [q] at c; exact c.safe h
  · exact h
theorem partnerStale_hs (n : Node) (h : n.HaltSafe) : n.partnerStale.HaltSafe := by
  unfold Node.partnerStale
  split
  · exact localCause_safe _ _ h
  · exact h
theorem deliverStale_hs (n : Node) (i : Fin 4) (h : n.HaltSafe) : (n.deliverStale i).HaltSafe := by
  have c := Calm.safe (cmuStale_calm n n i (.refl _)) h
  unfold Node.deliverStale
  repeat' split
  · exact loadLost_hs _ c
  · exact c
  · exact partnerStale_hs _ h
  · exact h
  · exact h
theorem stalenessTimer_hs (n : Node) (i : Fin 4) (h : n.HaltSafe) : (n.stalenessTimer i).HaltSafe := by
  unfold Node.stalenessTimer
  split
  · exact deliverStale_hs _ _ (Calm.safe (goesStale_calm n n i (.refl _)) h)
  · exact h

theorem publishStrain_hs (n : Node) (r : Reading) (e : StrainEntry) (h : n.HaltSafe) :
    (n.publishStrain r e).HaltSafe := by
  unfold Node.publishStrain
  apply consumeStrain_hs
  refine Calm.safe (handDisagree_calm _ _ _ _ (setExh_calm _ _ _ (sendSample_calm _ _ _ _ (.refl n)))) h
theorem strainPoint_hs (n : Node) (r : Reading) (h : n.HaltSafe) : (n.strainPoint r).HaltSafe := by
  have c := publishStrain_hs n r (n.strainSample r) h
  exact Calm.safe (releaseStage_calm _ _ _ (learnStage_calm _ _ (.refl _))) c
theorem reading_hs (n : Node) (h : n.HaltSafe) : n.reading.HaltSafe := by
  have c : Calm n n.judgeOpen.slipStage := by simp
  simp only [Node.reading]
  split
  · exact strainPoint_hs _ _ (Calm.safe (setExh_calm _ _ _ (.refl _)) (c.safe h))
  · exact Calm.safe (setExh_calm _ _ _ (.refl _)) (c.safe h)
theorem armReading_hs (n : Node) (h : n.HaltSafe) : n.armReading.HaltSafe := by
  unfold Node.armReading
  split
  · exact reading_hs _ h
  · exact h
theorem releaseTimer_hs (n : Node) (h : n.HaltSafe) : n.releaseTimer.HaltSafe := by
  unfold Node.releaseTimer
  split
  · exact localCause_safe _ _ (Calm.safe (setExh_calm _ n _ (.refl _)) h)
  · exact h
theorem stopSample_hs (n : Node) (b : Bool) (h : n.HaltSafe) : (n.stopSample b).HaltSafe := by
  unfold Node.stopSample
  split
  · exact sampleStop_hs _ _ (Calm.safe (setPins_calm _ n _ (.refl _)) h)
  · exact h
theorem segmentClock_hs (n : Node) (h : n.HaltSafe) : n.segmentClock.HaltSafe := by
  unfold Node.segmentClock
  split
  · exact watchTime_hs _ (Calm.safe (reportSeg_calm _ n _ (.refl _)) h)
  · exact Calm.safe (setSeq_calm _ n _ (.refl _) rfl rfl) h
  · exact h

/-- The delivery of the frame that is next. -/
theorem deliver_hs (n : Node) (a : Arrival) (take : Node → RxFrame → Node)
    (ht : ∀ m f, m.HaltSafe → (take m f).HaltSafe) (h : n.HaltSafe) : (n.deliver a take).HaltSafe := by
  unfold Node.deliver
  repeat' split
  · exact ht _ _ (Calm.safe (setFbc_calm _ n _ (.refl _)) h)
  · exact h
  · exact h

/-- One oscillator count. -/
theorem oscillate_calm (n : Node) : Calm n n.oscillate.1 := by
  have t : ∀ m : Node, Calm n m → Calm n m.countTime := by
    intro m hm
    apply calm_of_same hm <;> (unfold Node.countTime Node.countMicro; split <;> rfl)
  exact t _ (by simp (maxDischargeDepth := 9))

end Sys2Proof.Laws
end

