-- ==== Sys2Proof/WellFormed.lean ====
section
/-! DEFINITION. The bounds the manual puts on what a command brings. -/
namespace Sys2Proof

/-- The largest magnitude of a raw code (1.1, R1). -/
def rawFullScale : Int := 8388607

/-- A command's operands lie within the manual's bounds: a raw code within full scale (R1), an image of
1,024 bytes (R187), a frame of 10 to 42 characters (4.2), an attempt of at most 42 characters (R72). -/
def Instr.wf : Instr → Bool
  | .conversionComplete c => decide (-rawFullScale ≤ c ∧ c ≤ rawFullScale)
  | .imageReadComplete image => image.length == 1024
  | .frameReceived chars => decide (10 ≤ chars.length ∧ chars.length ≤ 42)
  | .attemptEnd readBack => decide (1 ≤ readBack.length ∧ readBack.length ≤ 42)
  | .powerOn | .resetAssert | .resetRelease | .encoderEvent _ _ | .drivePacerExpiry _ _
  | .generatorUnderflow | .runDownTimerExpiry | .armEvent _ _ _ | .armReading
  | .armClosedChange _ _ | .releaseTimeoutExpiry | .frameReceiveError _ | .headerFacts
  | .attemptStart | .yieldPendingClear _ | .pendingResultEntry | .sampleArrival
  | .reseedTimerExpiry _ | .silenceTimerExpiry _ | .stalenessExpiry _ | .lockTimerExpiry
  | .presence | .stateNotice | .start | .pause | .resume | .abort | .clear | .zero | .balance
  | .jog | .stopJog | .frameReset | .unknownCommand | .order | .segment | .queryStatus
  | .querySegment | .queryResult | .queryHealth | .queryPeer | .queryRefused | .silentDiscard
  | .markFrame | .haltFrame | .breakFrame | .stopInputSample _ | .segmentClockExpiry
  | .drainLimitExpiry | .stepPulseEnd | .runStart | .skippingEnd => true

end Sys2Proof
end

