-- ==== Sys2Proof/Laws/PerInstr.lean ====
section
/-! SUPPORT. What well-formedness says of each command's operands. -/
namespace Sys2Proof.Laws
open Sys2Proof
-- One theorem at a time: the memory that many threads take together is bounded where this is checked.
set_option Elab.async false

/-- A command is well formed exactly where what it brings lies within the manual's bounds: a raw code within
full scale (R1), an image of 1,024 bytes (R187), a frame of 10 to 42 characters (4.2), an attempt of 1 to 42
characters read back (R72); a command that brings none of these always is. -/
def Operands.Statement (i : Instr) : Prop :=
  i.wf = true ↔
    (∀ c, i = .conversionComplete c → -8388607 ≤ c ∧ c ≤ 8388607) ∧
    (∀ b, i = .imageReadComplete b → b.length = 1024) ∧
    (∀ b, i = .frameReceived b → 10 ≤ b.length ∧ b.length ≤ 42) ∧
    ∀ b, i = .attemptEnd b → 1 ≤ b.length ∧ b.length ≤ 42

theorem Operands.powerOn : Operands.Statement .powerOn := by
  simp [Operands.Statement, Instr.wf]
theorem Operands.resetAssert : Operands.Statement .resetAssert := by
  simp [Operands.Statement, Instr.wf]
theorem Operands.resetRelease : Operands.Statement .resetRelease := by
  simp [Operands.Statement, Instr.wf]
theorem Operands.imageReadComplete (image : List Byte) : Operands.Statement (.imageReadComplete image) := by
  simp [Operands.Statement, Instr.wf]
theorem Operands.conversionComplete (code : Int) : Operands.Statement (.conversionComplete code) := by
  rw [Operands.Statement, Instr.wf, decide_eq_true_iff]
  simp [rawFullScale]
theorem Operands.encoderEvent (a b : Bool) : Operands.Statement (.encoderEvent a b) := by
  simp [Operands.Statement, Instr.wf]
theorem Operands.drivePacerExpiry (limLo limHi : Bool) : Operands.Statement (.drivePacerExpiry limLo limHi) := by
  simp [Operands.Statement, Instr.wf]
theorem Operands.generatorUnderflow : Operands.Statement .generatorUnderflow := by
  simp [Operands.Statement, Instr.wf]
theorem Operands.runDownTimerExpiry : Operands.Statement .runDownTimerExpiry := by
  simp [Operands.Statement, Instr.wf]
theorem Operands.armEvent (arm : Arm) (a b : Bool) : Operands.Statement (.armEvent arm a b) := by
  simp [Operands.Statement, Instr.wf]
theorem Operands.armReading : Operands.Statement .armReading := by
  simp [Operands.Statement, Instr.wf]
theorem Operands.armClosedChange (arm1 arm2 : Bool) : Operands.Statement (.armClosedChange arm1 arm2) := by
  simp [Operands.Statement, Instr.wf]
theorem Operands.releaseTimeoutExpiry : Operands.Statement .releaseTimeoutExpiry := by
  simp [Operands.Statement, Instr.wf]
theorem Operands.frameReceived (chars : List Byte) : Operands.Statement (.frameReceived chars) := by
  simp [Operands.Statement, Instr.wf]
theorem Operands.frameReceiveError (error : ReceiveError) : Operands.Statement (.frameReceiveError error) := by
  simp [Operands.Statement, Instr.wf]
theorem Operands.headerFacts : Operands.Statement .headerFacts := by
  simp [Operands.Statement, Instr.wf]
theorem Operands.attemptStart : Operands.Statement .attemptStart := by
  simp [Operands.Statement, Instr.wf]
theorem Operands.attemptEnd (readBack : List LineChar) : Operands.Statement (.attemptEnd readBack) := by
  simp [Operands.Statement, Instr.wf]
theorem Operands.yieldPendingClear (cls : FrameClass) : Operands.Statement (.yieldPendingClear cls) := by
  simp [Operands.Statement, Instr.wf]
theorem Operands.pendingResultEntry : Operands.Statement .pendingResultEntry := by
  simp [Operands.Statement, Instr.wf]
theorem Operands.sampleArrival : Operands.Statement .sampleArrival := by
  simp [Operands.Statement, Instr.wf]
theorem Operands.reseedTimerExpiry (peer : Fin 16) : Operands.Statement (.reseedTimerExpiry peer) := by
  simp [Operands.Statement, Instr.wf]
theorem Operands.silenceTimerExpiry (peer : Fin 16) : Operands.Statement (.silenceTimerExpiry peer) := by
  simp [Operands.Statement, Instr.wf]
theorem Operands.stalenessExpiry (sub : Fin 4) : Operands.Statement (.stalenessExpiry sub) := by
  simp [Operands.Statement, Instr.wf]
theorem Operands.lockTimerExpiry : Operands.Statement .lockTimerExpiry := by
  simp [Operands.Statement, Instr.wf]
theorem Operands.presence : Operands.Statement .presence := by
  simp [Operands.Statement, Instr.wf]
theorem Operands.stateNotice : Operands.Statement .stateNotice := by
  simp [Operands.Statement, Instr.wf]
theorem Operands.start : Operands.Statement .start := by
  simp [Operands.Statement, Instr.wf]
theorem Operands.pause : Operands.Statement .pause := by
  simp [Operands.Statement, Instr.wf]
theorem Operands.resume : Operands.Statement .resume := by
  simp [Operands.Statement, Instr.wf]
theorem Operands.abort : Operands.Statement .abort := by
  simp [Operands.Statement, Instr.wf]
theorem Operands.clear : Operands.Statement .clear := by
  simp [Operands.Statement, Instr.wf]
theorem Operands.zero : Operands.Statement .zero := by
  simp [Operands.Statement, Instr.wf]
theorem Operands.balance : Operands.Statement .balance := by
  simp [Operands.Statement, Instr.wf]
theorem Operands.jog : Operands.Statement .jog := by
  simp [Operands.Statement, Instr.wf]
theorem Operands.stopJog : Operands.Statement .stopJog := by
  simp [Operands.Statement, Instr.wf]
theorem Operands.frameReset : Operands.Statement .frameReset := by
  simp [Operands.Statement, Instr.wf]
theorem Operands.unknownCommand : Operands.Statement .unknownCommand := by
  simp [Operands.Statement, Instr.wf]
theorem Operands.order : Operands.Statement .order := by
  simp [Operands.Statement, Instr.wf]
theorem Operands.segment : Operands.Statement .segment := by
  simp [Operands.Statement, Instr.wf]
theorem Operands.queryStatus : Operands.Statement .queryStatus := by
  simp [Operands.Statement, Instr.wf]
theorem Operands.querySegment : Operands.Statement .querySegment := by
  simp [Operands.Statement, Instr.wf]
theorem Operands.queryResult : Operands.Statement .queryResult := by
  simp [Operands.Statement, Instr.wf]
theorem Operands.queryHealth : Operands.Statement .queryHealth := by
  simp [Operands.Statement, Instr.wf]
theorem Operands.queryPeer : Operands.Statement .queryPeer := by
  simp [Operands.Statement, Instr.wf]
theorem Operands.queryRefused : Operands.Statement .queryRefused := by
  simp [Operands.Statement, Instr.wf]
theorem Operands.silentDiscard : Operands.Statement .silentDiscard := by
  simp [Operands.Statement, Instr.wf]
theorem Operands.markFrame : Operands.Statement .markFrame := by
  simp [Operands.Statement, Instr.wf]
theorem Operands.haltFrame : Operands.Statement .haltFrame := by
  simp [Operands.Statement, Instr.wf]
theorem Operands.breakFrame : Operands.Statement .breakFrame := by
  simp [Operands.Statement, Instr.wf]
theorem Operands.stopInputSample (asserted : Bool) : Operands.Statement (.stopInputSample asserted) := by
  simp [Operands.Statement, Instr.wf]
theorem Operands.segmentClockExpiry : Operands.Statement .segmentClockExpiry := by
  simp [Operands.Statement, Instr.wf]
theorem Operands.drainLimitExpiry : Operands.Statement .drainLimitExpiry := by
  simp [Operands.Statement, Instr.wf]
theorem Operands.stepPulseEnd : Operands.Statement .stepPulseEnd := by
  simp [Operands.Statement, Instr.wf]
theorem Operands.runStart : Operands.Statement .runStart := by
  simp [Operands.Statement, Instr.wf]
theorem Operands.skippingEnd : Operands.Statement .skippingEnd := by
  simp [Operands.Statement, Instr.wf]

end Sys2Proof.Laws
end

