-- ==== Sys2Proof/Laws/SegTable.lean ====
section
/-! SUPPORT. Every operation on the node keeps the segment table as R120 has it (`Seq.TableKept`). -/
namespace Sys2Proof.Laws
open Sys2Proof Sys2Proof.Machine
-- One theorem at a time: the memory that many threads take together is bounded where this is checked.
set_option Elab.async false

/-! ### What R120 reads of the sequencer -/

/-- The test state, the cursor and the entries' statuses. -/
def tableOf (n : Node) : Option TestState × Fin 32 × (Fin 32 → SegStatus) :=
  (n.seq.test, n.seq.cursor, fun i => n.seq.segs[i].status)

theorem tableOf_eq {n m : Node} (h : m.seq = n.seq) : tableOf m = tableOf n := by rw [tableOf, tableOf, h]

/-- R120 reads nothing else. -/
theorem kept_of_table {n m : Node} (e : tableOf m = tableOf n) (h : n.seq.TableKept) :
    m.seq.TableKept := by
  simp only [tableOf, Prod.mk.injEq] at e
  obtain ⟨e1, e2, e3⟩ := e
  have st : ∀ i : Fin 32, m.seq.segs[i].status = n.seq.segs[i].status := fun i => congrFun e3 i
  obtain ⟨a, b, c, d, f⟩ := h
  simp only [Seq.cursorEntry, Segment.fresh] at *
  constructor <;> simp only [Seq.cursorEntry, Segment.fresh, e1, e2, st]
  · exact a
  · exact b
  · exact c
  · exact d
  · exact f

/-- An operation that leaves the sequencer as it is. -/
theorem kept_of_seq {n m : Node} (e : m.seq = n.seq) (h : n.seq.TableKept) : m.seq.TableKept := by
  rw [e]; exact h

/-! ### Operations on the sequencer that leave the table as it is -/

theorem setEntry_segs (q : Seq) (i j : Fin 32) (e : Segment) :
    (q.setEntry i e).segs[j] = if i = j then e else q.segs[j] := by
  simp only [Seq.setEntry, Fin.getElem_fin, Vector.getElem_set, Fin.ext_iff]

theorem openEntry_some {q : Seq} {e : Segment} (h : q.openEntry = some e) :
    q.segs[q.cursor] = e ∧ e.status = .opened := by
  unfold Seq.openEntry at h
  split at h
  · rename_i s; cases h; exact ⟨rfl, by simpa using s⟩
  · cases h

theorem openEntry_none {q : Seq} (h : q.openEntry = none) : q.cursorEntry.status ≠ .opened := by
  unfold Seq.openEntry at h
  split at h
  · cases h
  · rename_i s; simpa using s

/-- A report for the open segment that leaves its status. -/
theorem reportSeg_table (n : Node) (f : Segment → Segment) (hf : ∀ e, (f e).status = e.status) :
    tableOf (n.reportSeg f) = tableOf n := by
  unfold Node.reportSeg
  split
  · rename_i e h
    obtain ⟨h1, h2⟩ := openEntry_some h
    simp only [tableOf, setSeq_fields, Prod.mk.injEq]
    refine ⟨rfl, rfl, funext fun j => ?_⟩
    rw [setEntry_segs]
    split
    · rename_i k; rw [hf, ← k, h1]
    · rfl
  · rfl

@[simp] theorem reportFlag_table (n : Node) (f : Summary → Summary) :
    tableOf (n.reportFlag f) = tableOf n := reportSeg_table n _ fun _ => rfl
@[simp] theorem reportLock_table (n : Node) (t : Time) : tableOf (n.reportLock t) = tableOf n := by
  unfold Node.reportLock
  exact reportSeg_table n _ fun _ => rfl

/-- Replacing a block other than the sequencer. -/
@[simp] theorem setX_table (n : Node) :
    (∀ x, tableOf (n.setPins x) = tableOf n) ∧ (∀ x, tableOf (n.setFilters x) = tableOf n) ∧
    (∀ x, tableOf (n.setClk x) = tableOf n) ∧ (∀ x, tableOf (n.setLc x) = tableOf n) ∧
    (∀ x, tableOf (n.setTsg x) = tableOf n) ∧ (∀ x, tableOf (n.setGen x) = tableOf n) ∧
    (∀ x, tableOf (n.setExh x) = tableOf n) ∧ (∀ x, tableOf (n.setFbc x) = tableOf n) ∧
    (∀ x, tableOf (n.setPta x) = tableOf n) ∧ (∀ x, tableOf (n.setCmu x) = tableOf n) ∧
    (∀ x, tableOf (n.setHlt x) = tableOf n) ∧ (∀ x, tableOf (n.setEvl x) = tableOf n) ∧
    (∀ x, tableOf (n.setHlm x) = tableOf n) := by
  refine ⟨?_, ?_, ?_, ?_, ?_, ?_, ?_, ?_, ?_, ?_, ?_, ?_, ?_⟩ <;> exact fun _ => rfl

@[simp] theorem refuse_table (n : Node) (c : RefusalCode) : tableOf (n.refuse c) = tableOf n := rfl

/-! The control mode unit reaches the table by its reports alone. -/

@[simp] theorem cmuMoves_table (n : Node) :
    (∀ v, tableOf (n.setWanted v) = tableOf n) ∧ (∀ c, tableOf (n.putCmu c) = tableOf n) ∧
    tableOf n.requestHold = tableOf n ∧ (∀ v, tableOf (n.requestCrosshead v) = tableOf n) ∧
    (∀ m, tableOf (n.enterClosed m) = tableOf n) ∧ (∀ m, tableOf (n.entryStepTo m) = tableOf n) ∧
    tableOf n.cmuHold = tableOf n ∧ tableOf n.rampReport = tableOf n ∧
    tableOf n.notice = tableOf n ∧ tableOf n.cmuFrameReset = tableOf n ∧
    tableOf n.directStop = tableOf n := by
  refine ⟨fun v => ?_, fun c => ?_, ?_, fun v => ?_, fun m => ?_, fun m => ?_, ?_, ?_, ?_, ?_, ?_⟩ <;>
    exact tableOf_eq (by simp)
@[simp] theorem fallBack_table (n : Node) (v : Int) : tableOf (n.fallBack v) = tableOf n := by
  simp [Node.fallBack]
@[simp] theorem requestClosed_table (n : Node) (f : SegFields) (a : Bool) :
    tableOf (n.requestClosed f a) = tableOf n := by
  simp only [Node.requestClosed]
  repeat' split
  all_goals simp
@[simp] theorem requestSegment_table (n : Node) (f : SegFields) (a : Bool) :
    tableOf (n.requestSegment f a) = tableOf n := by
  unfold Node.requestSegment
  split <;> simp
@[simp] theorem cmuOpen_table (n : Node) (f : SegFields) (a u : Bool) :
    tableOf (n.cmuOpen f a u) = tableOf n := by
  simp only [Node.cmuOpen]
  repeat' split
  all_goals simp
@[simp] theorem cmuResume_table (n : Node) (f : SegFields) : tableOf (n.cmuResume f) = tableOf n := by
  unfold Node.cmuResume
  repeat' split
  all_goals simp
@[simp] theorem handLock_table (n : Node) (b : Option LockState) :
    tableOf (n.handLock b) = tableOf n := by
  unfold Node.handLock
  split <;> simp
@[simp] theorem applyEstimate_table (n : Node) (m : Mode) (rm : Int) :
    tableOf (n.applyEstimate m rm) = tableOf n := by
  simp [Node.applyEstimate]
@[simp] theorem cmuArrival_table (n : Node) (m : Mode) (e : HistEntry) :
    tableOf (n.cmuArrival m e) = tableOf n := by
  unfold Node.cmuArrival
  repeat' split
  all_goals simp
@[simp] theorem cmuStale_table (n : Node) (i : Fin 4) : tableOf (n.cmuStale i) = tableOf n := by
  unfold Node.cmuStale
  split <;> simp
@[simp] theorem lockTimeout_table (n : Node) : tableOf n.lockTimeout = tableOf n := by
  simp only [Node.lockTimeout]
  split <;> simp
@[simp] theorem lateLockTimeout_table (n : Node) : tableOf n.lateLockTimeout = tableOf n := by
  simp [Node.lateLockTimeout]
@[simp] theorem reportHeld_table (n : Node) (h : Bool) : tableOf (n.reportHeld h) = tableOf n := by
  unfold Node.reportHeld
  split <;> simp
@[simp] theorem seqForce_table (n : Node) (e : HistEntry) : tableOf (n.seqForce e) = tableOf n := by
  unfold Node.seqForce
  split <;> rfl
@[simp] theorem resumeRequest_table (n : Node) : tableOf n.resumeRequest = tableOf n := by
  unfold Node.resumeRequest
  split <;> simp
@[simp] theorem issueStage_table (n : Node) (e : Option Int) : tableOf (n.issueStage e) = tableOf n := by
  simp only [Node.issueStage]
  repeat' split
  all_goals simp
@[simp] theorem zeroStage_table (n : Node) : tableOf n.zeroStage = tableOf n := by
  unfold Node.zeroStage
  repeat' split
  all_goals first | rfl | exact tableOf_eq (by simp) | simp

/-! ### Closing, opening and skipping -/

/-- The two sides of the cursor, which a change of the test state does not touch. -/
structure Sided (q : Seq) : Prop where
  below : ∀ i : Fin 32, i < q.cursor → q.segs[i].status = .closed
  above : ∀ i : Fin 32, q.cursor < i → q.segs[i].fresh

theorem sided {q : Seq} (h : q.TableKept) : Sided q := ⟨h.below, h.above⟩

/-- A test in progress whose cursor entry is CLOSED, from which the sequencer goes on. -/
structure Advancing (q : Seq) : Prop where
  sides : Sided q
  runs : underWay q.test
  closed : q.cursorEntry.status = .closed

theorem test_cases (t : Option TestState) : beforeStart t ∨ underWay t ∨ isOver t := by
  rcases t with _ | t
  · exact .inl (.inl rfl)
  · cases t <;> simp [beforeStart, underWay, isOver]

/-- The three kinds of test state exclude each other. -/
theorem kinds_exclude (t : Option TestState) :
    (beforeStart t → ¬underWay t) ∧ (beforeStart t → ¬isOver t) ∧ (underWay t → ¬isOver t) := by
  rcases t with _ | t
  · simp [beforeStart, underWay, isOver]
  · cases t <;> simp [beforeStart, underWay, isOver]

theorem kept_before {q : Seq} (h : Sided q) (t : beforeStart q.test) (c : q.cursor = 0)
    (f : q.cursorEntry.fresh) : q.TableKept :=
  ⟨h.below, h.above, fun _ => ⟨c, f⟩, fun u => absurd u ((kinds_exclude _).1 t),
    fun o => absurd o ((kinds_exclude _).2.1 t)⟩
theorem kept_during {q : Seq} (h : Sided q) (t : underWay q.test)
    (c : q.cursorEntry.status = .opened ∨ q.cursorEntry.status = .closed) : q.TableKept :=
  ⟨h.below, h.above, fun b => absurd t ((kinds_exclude _).1 b), fun _ => c,
    fun o => absurd o ((kinds_exclude _).2.2 t)⟩
theorem kept_over {q : Seq} (h : Sided q) (t : isOver q.test)
    (c : q.cursorEntry.status = .closed ∨ q.cursor = 0 ∧ q.cursorEntry.fresh) : q.TableKept :=
  ⟨h.below, h.above, fun b => absurd t ((kinds_exclude _).2.1 b),
    fun u => absurd t ((kinds_exclude _).2.2 u), fun _ => c⟩
theorem Advancing.kept {q : Seq} (h : Advancing q) : q.TableKept := kept_during h.sides h.runs (.inr h.closed)

/-- Where no entry is OPEN the cursor's entry is CLOSED, or as before the test at cursor 0. -/
theorem notOpen_entry {q : Seq} (h : q.TableKept) (e : q.cursorEntry.status ≠ .opened) :
    q.cursorEntry.status = .closed ∨ q.cursor = 0 ∧ q.cursorEntry.fresh := by
  rcases test_cases q.test with t | t | t
  · exact .inr (h.before t)
  · exact .inl ((h.during t).resolve_left e)
  · exact h.after t

/-- An entry written at the cursor changes neither side. -/
theorem setCursor_sides (q : Seq) (e : Segment) (h : Sided q) : Sided (q.setEntry q.cursor e) := by
  refine ⟨fun i hi => ?_, fun i hi => ?_⟩ <;> rw [setEntry_segs]
  · rw [if_neg]
    · exact h.below i hi
    · rintro rfl; exact absurd hi (Fin.lt_irrefl _)
  · rw [if_neg]
    · exact h.above i hi
    · rintro rfl; exact absurd hi (Fin.lt_irrefl _)

theorem setCursor_entry (q : Seq) (e : Segment) : (q.setEntry q.cursor e).cursorEntry = e := by
  unfold Seq.cursorEntry
  exact (setEntry_segs q q.cursor q.cursor e).trans (if_pos rfl)

/-- What the close of the OPEN entry leaves. -/
theorem closeOpen_table (n : Node) (c : CloseCause) (t : Time) (h : n.seq.TableKept) :
    let q := (n.closeOpen c t).seq
    Sided q ∧ (q.cursorEntry.status = .closed ∨ q.cursor = 0 ∧ q.cursorEntry.fresh) ∧
      (underWay n.seq.test → q.cursorEntry.status = .closed) := by
  unfold Node.closeOpen
  split
  · rename_i e he
    simp only [setSeq_fields]
    refine ⟨setCursor_sides _ _ (sided h), ?_, fun _ => ?_⟩ <;> rw [setCursor_entry]
    exact .inl rfl
  · rename_i he
    have ne := openEntry_none he
    exact ⟨sided h, notOpen_entry h ne, fun u => (h.during u).resolve_left ne⟩

theorem closeOpen_advancing (n : Node) (c : CloseCause) (t : Time) (h : n.seq.TableKept)
    (u : underWay n.seq.test) : Advancing (n.closeOpen c t).seq := by
  obtain ⟨a, _, b⟩ := closeOpen_table n c t h
  exact ⟨a, by simpa using u, b u⟩

/-- An entry to ENDED or HALTED closes what is OPEN. -/
theorem over_of_closed (n m : Node) (c : CloseCause) (t : Time) (h : n.seq.TableKept)
    (e1 : m.seq.cursor = (n.closeOpen c t).seq.cursor) (e2 : m.seq.segs = (n.closeOpen c t).seq.segs)
    (o : isOver m.seq.test) : m.seq.TableKept := by
  obtain ⟨⟨a, b⟩, d, _⟩ := closeOpen_table n c t h
  refine kept_over ⟨?_, ?_⟩ o ?_
  · rw [e1, e2]; exact a
  · rw [e1, e2]; exact b
  · simp only [Seq.cursorEntry, e1, e2] at d ⊢; exact d

theorem enterEnded_kept (n : Node) (c : EndCause) (d : CloseCause) (h : n.seq.TableKept) :
    (n.enterEnded c d).seq.TableKept :=
  over_of_closed n _ d n.now h (by simp) (by simp) (by simp [isOver])
theorem enterHalted_kept (n : Node) (h : n.seq.TableKept) : n.enterHalted.seq.TableKept :=
  over_of_closed n _ .byHalt n.now h (by simp) (by simp) (by simp [isOver])

/-- The index after the cursor. -/
theorem nextIndex_some {i j : Fin 32} (h : nextIndex i = some j) : j.val = i.val + 1 := by
  unfold nextIndex at h
  split at h
  · cases h; rfl
  · cases h

/-- The cursor moves onto the next entry, which is written, with the entry before it CLOSED. -/
theorem moveOn_sides (q : Seq) (i : Fin 32) (e : Segment) (h : Sided q) (c : q.cursorEntry.status = .closed)
    (hi : i.val = q.cursor.val + 1) : Sided { q.setEntry i e with cursor := i } := by
  refine ⟨fun j hj => ?_, fun j hj => ?_⟩
  · show (q.setEntry i e).segs[j].status = .closed
    have hj : j.val < i.val := hj
    rw [setEntry_segs, if_neg (by rintro rfl; omega)]
    rcases Nat.lt_or_ge j.val q.cursor.val with k | k
    · exact h.below j k
    · have : j = q.cursor := Fin.ext (by omega)
      rw [this]; exact c
  · show (q.setEntry i e).segs[j].fresh
    have hj : i.val < j.val := hj
    rw [setEntry_segs, if_neg (by rintro rfl; omega)]
    exact h.above j (show q.cursor.val < j.val by omega)

theorem moveOn_entry (q : Seq) (i : Fin 32) (e : Segment) :
    ({ q.setEntry i e with cursor := i } : Seq).cursorEntry = e :=
  (setEntry_segs q i i e).trans (if_pos rfl)

/-- What an opening leaves of the table. -/
theorem openAt_table (n : Node) (i : Fin 32) (s a : Bool) : ∃ e : Segment, e.status = .opened ∧
    tableOf (n.openAt i s a) = tableOf (n.setSeq { n.seq.setEntry i e with cursor := i }) := by
  refine ⟨{ n.seq.segs[i] with
    status := .opened, openTime := n.now, elapsed := 0, firstLock := none
    summary := { starvedBefore := s }, outcome := none }, rfl, ?_⟩
  simp [Node.openAt]

theorem openAt_kept (n : Node) (i : Fin 32) (s a : Bool) (h : Advancing n.seq)
    (hi : i.val = n.seq.cursor.val + 1) : (n.openAt i s a).seq.TableKept := by
  obtain ⟨e, he, t⟩ := openAt_table n i s a
  exact kept_of_table t (kept_during (moveOn_sides _ _ _ h.sides h.closed hi) h.runs
    (.inl ((congrArg Segment.status (moveOn_entry n.seq i e)).trans he)))

theorem skipTo_advancing (n : Node) (i : Fin 32) (h : Advancing n.seq) (hi : i.val = n.seq.cursor.val + 1) :
    Advancing (n.skipTo i).seq := by
  simp only [Node.skipTo, notice_frame, setSeq_fields]
  exact ⟨moveOn_sides _ _ _ h.sides h.closed hi, h.runs, by rw [moveOn_entry]⟩

theorem openAt_test (n : Node) (i : Fin 32) (s a : Bool) :
    (n.openAt i s a).seq.test = n.seq.test := Calm.test (openAt_calm n n i s a (.refl n))

theorem closeByCondition_advancing (n : Node) (h : n.seq.TableKept) (u : underWay n.seq.test) :
    Advancing n.closeByCondition.seq := by
  have c := closeOpen_advancing n .condition n.now h u
  simpa [Node.closeByCondition] using c

theorem underWay_of_meets {n : Node} {f : SegFields → Bool} (h : n.meets f = true) :
    underWay n.seq.test := by
  simp only [Node.meets, Bool.and_eq_true, beq_iff_eq] at h; exact .inl h.1
theorem underWay_of_progress {n : Node} (h : n.testInProgress = true) : underWay n.seq.test := by
  simpa [Node.testInProgress, underWay] using h

theorem nextLoaded_val {n : Node} {i : Fin 32} (h : n.nextLoaded = some i) :
    i.val = n.seq.cursor.val + 1 := by
  unfold Node.nextLoaded at h
  split at h
  · rename_i j hj
    split at h
    · cases h; exact nextIndex_some hj
    · cases h
  · cases h

theorem goOn_kept (k : Nat) (b : Bool) (n : Node) (h : Advancing n.seq) :
    (Node.goOn k b n).seq.TableKept := by
  induction k generalizing b n with
  | zero => exact h.kept
  | succ k ih =>
    simp only [Node.goOn]
    split
    · exact enterEnded_kept _ _ _ h.kept
    · split
      · rename_i i hi
        have o := openAt_kept n i b (!b) h (nextLoaded_val hi)
        split
        · exact ih _ _ (closeByCondition_advancing _ o (by rw [openAt_test]; exact h.runs))
        · exact o
      · exact kept_of_table (by simp) h.kept

theorem closeAndGoOn_kept (n : Node) (h : n.seq.TableKept) (u : underWay n.seq.test) :
    n.closeAndGoOn.seq.TableKept := goOn_kept _ _ _ (closeByCondition_advancing n h u)

theorem judgeEnd_kept (n : Node) (f : SegFields → Bool) (h : n.seq.TableKept) :
    (n.judgeEnd f).seq.TableKept := by
  unfold Node.judgeEnd
  split
  · rename_i e; exact closeAndGoOn_kept _ h (underWay_of_meets e)
  · exact h
theorem watchTravel_kept (n : Node) (h : n.seq.TableKept) : n.watchTravel.seq.TableKept :=
  judgeEnd_kept n _ h

/-- An opening at the index after a CLOSED cursor entry, with YIELD-SEEN judged. -/
theorem openAndJudge_kept (n : Node) (i : Fin 32) (b : Bool) (o : (n.openAt i b false).seq.TableKept) :
    (n.openAndJudge i b).seq.TableKept := by
  simp only [Node.openAndJudge]
  split
  · rename_i e; exact closeAndGoOn_kept _ o (underWay_of_meets e)
  · exact o

theorem yieldReport_kept (n : Node) (h : n.seq.TableKept) : n.yieldReport.seq.TableKept := by
  have c : (n.setSeq { n.seq with yieldSeen := true }).seq.TableKept := kept_of_table (n := n) rfl h
  simp only [Node.yieldReport]
  split
  · rename_i e; exact closeAndGoOn_kept _ c (underWay_of_meets e)
  · exact c

theorem walk_advancing (j : Nat) (n : Node) (h : Advancing n.seq) : Advancing (Node.walk j n).1.seq := by
  induction j generalizing n with
  | zero => exact h
  | succ j ih =>
    simp only [Node.walk]
    repeat' split
    · exact h
    · rename_i i hi _; exact skipTo_advancing _ _ h (nextIndex_some hi)
    · rename_i i hi _; exact ih _ (skipTo_advancing _ _ h (nextIndex_some hi))

theorem walkAndGoOn_kept (n : Node) (k : Nat) (b : Bool) (h : Advancing n.seq) :
    (n.walkAndGoOn k b).seq.TableKept := by
  have c := walk_advancing k n h
  unfold Node.walkAndGoOn
  split
  · rename_i m e; rw [e] at c; exact enterEnded_kept _ _ _ c.kept
  · rename_i m e; rw [e] at c; exact goOn_kept _ _ _ c

theorem markAhead_kept (n : Node) (k : Nat) (t : Time) (h : n.seq.TableKept) (u : underWay n.seq.test) :
    (n.markAhead k t).seq.TableKept := by
  have c := closeOpen_advancing n .peerMark t h u
  simp only [Node.markAhead]
  split
  · exact enterEnded_kept _ _ _ c.kept
  · exact walkAndGoOn_kept _ _ _ c

theorem judgeMark_kept (n : Node) (j : Nat) (t : Time) (h : n.seq.TableKept) (u : underWay n.seq.test) :
    (n.judgeMark j t).seq.TableKept := by
  unfold Node.judgeMark
  repeat' split
  · exact h
  · exact goOn_kept _ _ _ (closeOpen_advancing _ _ _ h u)
  · exact h
  · exact markAhead_kept _ _ _ h u

theorem takeMark_kept (n : Node) (f : RxFrame) (h : n.seq.TableKept) : (n.takeMark f).seq.TableKept := by
  unfold Node.takeMark
  split
  · rename_i e; exact judgeMark_kept _ _ _ h (underWay_of_progress e.2.1)
  · exact h

theorem seqBreak_kept (n : Node) (h : n.seq.TableKept) : n.seqBreak.seq.TableKept := by
  unfold Node.seqBreak
  split
  · exact enterEnded_kept _ _ _ h
  · exact h

/-! ### Halts -/

theorem receivedCause_kept (n : Node) (c : HaltCause) (o : Fin 16) (h : n.seq.TableKept) :
    (n.receivedCause c o).seq.TableKept := by
  unfold Node.receivedCause
  repeat' split
  · exact h
  · exact h
  · exact h
  · exact kept_of_seq (n := n) (by unfold Node.stopJogging; split <;> simp [Node.setRecord]) h
  · exact enterHalted_kept _ h
theorem localCause_kept (n : Node) (c : HaltCause) (h : n.seq.TableKept) :
    (n.localCause c).seq.TableKept := by
  have k : (n.setRecord c n.nodeId true).enterHalted.seq.TableKept := enterHalted_kept _ h
  unfold Node.localCause
  dsimp only
  repeat' split
  · exact h
  · exact h
  · exact k
  · exact kept_of_seq (by simp) k
theorem takeHalt_kept (n : Node) (f : RxFrame) (h : n.seq.TableKept) : (n.takeHalt f).seq.TableKept :=
  receivedCause_kept _ _ _ h
theorem deliverBreak_kept (n : Node) (h : n.seq.TableKept) : n.deliverBreak.seq.TableKept :=
  kept_of_seq (n := n.exhBreak.seqBreak) (by simp [Node.deliverBreak])
    (seqBreak_kept _ (kept_of_seq (n := n) (by simp) h))
theorem raiseBreak_kept (n : Node) (h : n.seq.TableKept) : n.raiseBreak.seq.TableKept := by
  unfold Node.raiseBreak
  split
  · exact deliverBreak_kept _ (kept_of_seq (n := n) (by simp [Node.setBreak]) h)
  · exact h
theorem takeBreak_kept (n : Node) (f : RxFrame) (h : n.seq.TableKept) : (n.takeBreak f).seq.TableKept := by
  have c : ((n.setBreak f.header.sender).deliverBreak).seq.TableKept := deliverBreak_kept _ h
  unfold Node.takeBreak
  dsimp only
  repeat' split
  all_goals first | exact h | exact c
theorem sampleStop_kept (n : Node) (b : Bool) (h : n.seq.TableKept) : (n.sampleStop b).seq.TableKept := by
  simp only [Node.sampleStop]
  split
  · exact localCause_kept _ _ h
  · exact h
theorem loadLost_kept (n : Node) (h : n.seq.TableKept) : n.loadLost.seq.TableKept := by
  unfold Node.loadLost
  split
  · exact localCause_kept _ _ h
  · exact h
theorem enterSilent_kept (n : Node) (h : n.seq.TableKept) : n.enterSilent.seq.TableKept := by
  have c : ((n.setFbc n.fbc.atSilent).setSeq { n.seq with op := .silent }).seq.TableKept :=
    kept_of_table (n := n) rfl h
  unfold Node.enterSilent
  dsimp only
  split
  · exact localCause_kept _ _ c
  · exact c

/-! ### Pairing and consumers -/

theorem reportYield_kept (n : Node) (h : n.seq.TableKept) : n.reportYield.seq.TableKept := by
  unfold Node.reportYield
  split
  · exact yieldReport_kept _ h
  · exact h
theorem passPair_kept (n : Node) (p : EvalParams) (x : Pair) (h : n.seq.TableKept) :
    (n.passPair p x).seq.TableKept := by
  simp only [Node.passPair]
  have early := reportYield_kept ((n.setEvl (n.evl.earlyStages p x)).reportHeld x.held)
    (kept_of_table (n := n) (by simp) h)
  exact reportYield_kept (Node.setEvl _ _) early
theorem formPair_kept (n : Node) (l : LoadEntry) (a : Answer) (h : n.seq.TableKept) :
    (n.formPair l a).seq.TableKept := by
  unfold Node.formPair
  split
  · exact passPair_kept _ _ _ h
  · exact h
theorem pairWith_kept (n : Node) (l : LoadEntry) (a : Answer) (h : n.seq.TableKept) :
    (n.pairWith l a).seq.TableKept := by
  unfold Node.pairWith
  split
  · exact h
  · exact formPair_kept _ _ _ h
theorem pairFront_kept (n m : Node) (l : LoadEntry) (e : n.pairFront l = some m) (h : n.seq.TableKept) :
    m.seq.TableKept := by
  unfold Node.pairFront at e
  revert e; cases Place.inside l.time _ <;> simp
  rintro rfl; exact pairWith_kept _ _ _ h
theorem pairRounds_kept (k : Nat) (n : Node) (h : n.seq.TableKept) :
    (Node.pairRounds k n).seq.TableKept := by
  induction k generalizing n with
  | zero => exact h
  | succ k ih =>
    unfold Node.pairRounds
    repeat' split
    · exact h
    · rename_i _ m e; exact ih _ (pairFront_kept _ _ _ e h)
    · exact h
    · exact h
theorem pairingAttempt_kept (n : Node) (h : n.seq.TableKept) : n.pairingAttempt.seq.TableKept := by
  have c := pairRounds_kept n.evl.queue.length n h
  simp only [Node.pairingAttempt]
  split
  · exact kept_of_seq (by simp) c
  · exact c
theorem overflow_kept (n : Node) (h : n.seq.TableKept) : n.overflow.seq.TableKept := by
  unfold Node.overflow
  repeat' split
  · exact h
  · exact pairWith_kept _ _ _ h
  · exact h
theorem evalLoad_kept (n : Node) (e : HistEntry) (h : n.seq.TableKept) :
    (n.evalLoad e).seq.TableKept := by
  simp only [Node.evalLoad]
  split
  · apply pairingAttempt_kept
    split
    · exact h
    · exact overflow_kept n h
  · exact h
theorem evalStrain_kept (n : Node) (e : HistEntry) (h : n.seq.TableKept) :
    (n.evalStrain e).seq.TableKept := by
  unfold Node.evalStrain
  split
  · exact pairingAttempt_kept _ h
  · exact h
theorem consumeStrain_kept (n : Node) (e : HistEntry) (h : n.seq.TableKept) :
    (n.consumeStrain e).seq.TableKept := by
  have c := kept_of_table (cmuArrival_table n .strainRate e) h
  exact judgeEnd_kept _ _ (evalStrain_kept _ e c)
theorem consumeForce_kept (n : Node) (e : HistEntry) (h : n.seq.TableKept) :
    (n.consumeForce e).seq.TableKept := by
  have a : (n.exhForce e).seq.TableKept := kept_of_seq (n := n) (by simp) h
  have b : ((n.exhForce e).seqForce e).seq.TableKept := kept_of_table (seqForce_table _ _) a
  have c := kept_of_table (cmuArrival_table ((n.exhForce e).seqForce e) .loadRate e) b
  exact judgeEnd_kept _ _ (evalLoad_kept _ e c)
theorem consumeSub_kept (n : Node) (i : Fin 4) (e : HistEntry) (h : n.seq.TableKept) :
    (n.consumeSub i e).seq.TableKept := by
  have a : (n.awaitedDatum i e.value).seq.TableKept := kept_of_seq (n := n) (by simp) h
  have t : ((n.awaitedDatum i e.value).watchTravel).seq.TableKept := watchTravel_kept _ a
  unfold Node.consumeSub
  repeat' split
  · exact h
  · exact consumeForce_kept _ _ h
  · exact h
  · exact consumeStrain_kept _ _ h
  · exact t
  · exact t
  · exact h

/-! ### The load channel -/

theorem detectBreak_kept (n : Node) (e : HistEntry) (h : n.seq.TableKept) :
    (n.detectBreak e).seq.TableKept := by
  unfold Node.detectBreak
  repeat' split
  all_goals first | exact h | exact raiseBreak_kept _ h
theorem checkOverload_kept (n : Node) (e : HistEntry) (h : n.seq.TableKept) :
    (n.checkOverload e).seq.TableKept := by
  unfold Node.checkOverload
  split
  · exact localCause_kept _ _ h
  · exact h
theorem consumeLoad_kept (n : Node) (e : HistEntry) (h : n.seq.TableKept) :
    (n.consumeLoad e).seq.TableKept := by
  have a : ((n.exhForce e).updateFmax e).seq.TableKept := kept_of_seq (n := n) (by simp) h
  have c := kept_of_table (cmuArrival_table ((n.exhForce e).updateFmax e) .loadRate e) a
  exact judgeEnd_kept _ _ (checkOverload_kept _ _ (detectBreak_kept _ _ (evalLoad_kept _ e c)))
theorem publishStage_kept (n : Node) (h : n.seq.TableKept) : n.publishStage.seq.TableKept := by
  unfold Node.publishStage
  split
  · exact consumeLoad_kept _ _ (kept_of_seq (n := n) (by simp) h)
  · exact kept_of_seq (n := n) (by simp) h
theorem measure_table (n : Node) (c : Int) : tableOf (n.measure c).1 = tableOf n := by
  unfold Node.measure
  repeat' split
  all_goals first
    | rfl
    | (simp only [Node.acceptConversion]; split <;> simp)
theorem convert_kept (n : Node) (c : Int) (h : n.seq.TableKept) : (n.convert c).seq.TableKept := by
  have p := publishStage_kept (n.measure c).1 (kept_of_table (measure_table n c) h)
  simp only [Node.convert]
  split
  · exact kept_of_seq (by simp) p
  · exact p
theorem conversion_kept (n : Node) (c : Int) (h : n.seq.TableKept) : (n.conversion c).seq.TableKept := by
  unfold Node.conversion
  repeat' split
  all_goals first | exact h | exact convert_kept _ _ h

/-! ### The drive -/

theorem encoderStep_kept (n : Node) (s : QuadStep) (h : n.seq.TableKept) :
    (n.encoderStep s).seq.TableKept := by
  cases s
  · exact h
  · exact h
  · exact h
  · exact localCause_kept _ _ h
theorem levelStage_kept (n : Node) (h : n.seq.TableKept) : n.levelStage.seq.TableKept := by
  simp only [Node.levelStage]
  repeat' split
  · exact localCause_kept _ _ (kept_of_seq (n := n) (by simp) h)
  · exact kept_of_seq (n := n) (by simp) h
  · exact h
theorem periodStage_kept (n : Node) (h : n.seq.TableKept) : n.periodStage.seq.TableKept := by
  unfold Node.periodStage
  split
  · exact h
  · simp only [Node.runGenerator]
    repeat' split
    all_goals first | exact h | exact localCause_kept _ _ h
theorem limitStage_kept (n : Node) (h : n.seq.TableKept) : n.limitStage.seq.TableKept := by
  simp only [Node.limitStage]
  split
  · exact localCause_kept _ _ h
  · exact h
theorem followStage_kept (n : Node) (h : n.seq.TableKept) : n.followStage.seq.TableKept := by
  have c : n.handFollowing.seq.TableKept := kept_of_seq (n := n) (by simp) h
  simp only [Node.followStage]
  split
  · exact localCause_kept _ _ c
  · exact c
theorem travelStage_kept (n : Node) (h : n.seq.TableKept) : n.travelStage.seq.TableKept := by
  unfold Node.travelStage
  split
  · exact judgeEnd_kept _ _ (kept_of_seq (n := n) (by simp) h)
  · exact h
theorem pacer_kept (n : Node) (h : n.seq.TableKept) : n.pacer.seq.TableKept := by
  simp only [Node.pacer]
  apply travelStage_kept; apply followStage_kept; apply limitStage_kept; apply periodStage_kept
  exact kept_of_table (issueStage_table _ _)
    (levelStage_kept _ (kept_of_seq (n := n) (by simp [Node.rampStage]) h))
theorem pacerExpiry_kept (n : Node) (a b : Bool) (h : n.seq.TableKept) :
    (n.pacerExpiry a b).seq.TableKept := by
  unfold Node.pacerExpiry
  split
  · exact pacer_kept _ (kept_of_seq (n := n) (by simp) h)
  · exact h
theorem encoderEvent_kept (n : Node) (a b : Bool) (h : n.seq.TableKept) :
    (n.encoderEvent a b).seq.TableKept := by
  unfold Node.encoderEvent
  split
  · exact encoderStep_kept _ _ (kept_of_seq (n := n) (by simp) h)
  · exact h

/-! ### Starts and test commands -/

theorem enterConfigFault_kept (n : Node) (c : FaultCode) (f : Nat) (k : Image) (h : n.seq.TableKept) :
    (n.enterConfigFault c f k).seq.TableKept := by
  refine kept_of_table (n := n) ?_ h
  simp [tableOf, Node.enterConfigFault]
theorem enterActive_kept (n : Node) (i : Image) (h : n.seq.TableKept) (ht : n.seq.test = none) :
    (n.enterActive i).seq.TableKept := by
  have b := h.before (.inl ht)
  have s : ((n.setSul { reading := false, image := i, fault := none }).setSeq
      { n.seq with op := .active, test := some .ready }).seq.TableKept :=
    kept_before ⟨h.below, h.above⟩ (.inr (.inl rfl)) b.1 b.2
  exact kept_of_seq (by simp [Node.enterActive, Node.goLive]) s
/-- Where the image is read there is no test state yet (`HaltSafe`). -/
theorem imageComplete_kept (n : Node) (b : List Byte) (g : n.HaltSafe) (h : n.seq.TableKept) :
    (n.imageComplete b).seq.TableKept := by
  unfold Node.imageComplete
  repeat' split
  all_goals first
    | exact h
    | (rename_i e
       unfold Node.imageRead
       split
       · exact enterActive_kept _ _ h (by have := g.noTest; simp_all)
       · exact enterConfigFault_kept _ _ _ _ h)
theorem startValues_kept (p : Pins) (b : Bool) : (startValues p b).seq.TableKept := by
  have e : ∀ i : Fin 32, (startValues p b).seq.segs[i].status = .empty := fun i => by
    show (Vector.replicate 32 ({} : Segment))[i].status = _
    simp
  exact kept_before ⟨fun i hi => absurd hi (Nat.not_lt_zero _), fun i _ => .inl (e i)⟩ (.inl rfl) rfl
    (.inl (e 0))

theorem setTest_table (n : Node) (t : TestState) :
    tableOf (n.setTest t) = tableOf (n.setSeq { n.seq with test := some t }) := by simp [tableOf]

/-- A change of the test state within one of the three kinds of R120. -/
theorem setTest_before_kept (n : Node) (t : TestState) (h : n.seq.TableKept) (b : beforeStart n.seq.test)
    (c : beforeStart (some t)) : (n.setTest t).seq.TableKept :=
  kept_of_table (setTest_table n t) (kept_before ⟨h.below, h.above⟩ c (h.before b).1 (h.before b).2)
theorem setTest_during_kept (n : Node) (t : TestState) (h : n.seq.TableKept) (b : underWay n.seq.test)
    (c : underWay (some t)) : (n.setTest t).seq.TableKept :=
  kept_of_table (setTest_table n t) (kept_during ⟨h.below, h.above⟩ c (h.during b))

/-- An empty segment table, in any test state without an OPEN or CLOSED entry. -/
theorem dropped_kept (n : Node) (t : TestState) (c : beforeStart (some t)) (q : Seq) (e1 : q.cursor = 0)
    (e2 : q.segs = Vector.replicate 32 {}) : ((n.setSeq q).setTest t).seq.TableKept := by
  have e : ∀ i : Fin 32, q.segs[i].status = .empty := fun i => by rw [e2]; simp
  refine kept_of_table (setTest_table _ t) (kept_before ⟨fun i hi => ?_, fun i _ => .inl (e i)⟩ c e1
    (.inl (e _)))
  have hi : i < q.cursor := hi
  rw [e1] at hi; exact absurd hi (Nat.not_lt_zero _)

/-- START opens entry 0 of a table before the test. -/
theorem takenStart_kept (n : Node) (h : n.seq.TableKept) (b : beforeStart n.seq.test) :
    n.takenStart.seq.TableKept := by
  have k : ∀ m : Node, tableOf m = tableOf n.seqStart → ((m.openAndJudge 0 false).loadLost).seq.TableKept := by
    intro m e
    have hb := h.before b
    apply loadLost_kept; apply openAndJudge_kept
    obtain ⟨s, hs, t⟩ := openAt_table m 0 false false
    simp only [tableOf, Node.seqStart, setTest_effect, setSeq_fields, Prod.mk.injEq] at e
    obtain ⟨e1, e2, e3⟩ := e
    have st : ∀ i : Fin 32, m.seq.segs[i].status = n.seq.segs[i].status := fun i => congrFun e3 i
    refine kept_of_table t (kept_during ⟨fun i hi => absurd hi (Nat.not_lt_zero _), fun i hi => ?_⟩
      (.inl e1) (.inl ((congrArg Segment.status (moveOn_entry m.seq 0 s)).trans hs)))
    show (m.seq.setEntry 0 s).segs[i].fresh
    have hi : (0 : Fin 32) < i := hi
    rw [setEntry_segs, if_neg (by rintro rfl; exact absurd hi (Fin.lt_irrefl _)), Segment.fresh, st]
    exact h.above i (by rw [hb.1]; exact hi)
  exact k _ (by simp [tableOf])
theorem takeStart_kept (n : Node) (f : RxFrame) (h : n.seq.TableKept) : (n.takeStart f).seq.TableKept := by
  unfold Node.takeStart
  repeat' split
  · exact localCause_kept _ _ h
  · rename_i e
    unfold Node.judgeStart
    repeat' split
    · exact localCause_kept _ _ (kept_of_seq (n := n) (by simp) h)
    · exact takenStart_kept _ h (.inr (.inr e))
    · exact localCause_kept _ _ h
  · exact h
  · exact h
  · exact kept_of_table (n := n) (by simp) h
  · exact h
theorem takePause_kept (n : Node) (f : RxFrame) (h : n.seq.TableKept) : (n.takePause f).seq.TableKept := by
  unfold Node.takePause
  repeat' split
  · rename_i e
    exact kept_of_table (n := n.setTest .paused) (by simp)
      (setTest_during_kept _ _ h (.inl e) (.inr rfl))
  · exact h
  · exact kept_of_table (n := n) (by simp) h
  · exact h
theorem takeResume_kept (n : Node) (f : RxFrame) (h : n.seq.TableKept) :
    (n.takeResume f).seq.TableKept := by
  unfold Node.takeResume
  repeat' split
  · rename_i e
    have t := kept_of_table (resumeRequest_table (n.setTest .running))
      (setTest_during_kept n .running h (.inr e) (.inl rfl))
    simp only [Node.resumed]
    split
    · rename_i e; exact closeAndGoOn_kept _ t (underWay_of_meets e)
    · exact t
  · exact h
  · exact kept_of_table (n := n) (by simp) h
  · exact h
theorem abortArmed_kept (n : Node) : n.abortArmed.seq.TableKept :=
  kept_of_table (n := (n.setSeq n.seq.dropOrder).setTest .ready) (by simp [Node.abortArmed])
    (dropped_kept n .ready (.inr (.inl rfl)) _ rfl rfl)
theorem abortHalted_kept (n : Node) (h : n.seq.TableKept) : n.abortHalted.seq.TableKept :=
  kept_of_seq (n := (n.setHlt n.hlt.noted).enterEnded .byAbort .byAbort) (by simp [Node.abortHalted])
    (enterEnded_kept _ _ _ h)
theorem takeAbort_kept (n : Node) (f : RxFrame) (h : n.seq.TableKept) : (n.takeAbort f).seq.TableKept := by
  unfold Node.takeAbort
  repeat' split
  all_goals first
    | exact h
    | exact abortArmed_kept n
    | exact enterEnded_kept _ _ _ h
    | exact abortHalted_kept _ h
    | exact kept_of_table (n := n) (by simp) h
theorem cleared_kept (n : Node) : n.cleared.seq.TableKept := by
  refine kept_of_seq (by simp [Node.cleared]) (dropped_kept n .ready (.inr (.inl rfl)) n.seq.dropOrder
    rfl rfl)
theorem takeClear_kept (n : Node) (f : RxFrame) (h : n.seq.TableKept) : (n.takeClear f).seq.TableKept := by
  unfold Node.takeClear
  repeat' split
  all_goals first
    | exact h
    | exact cleared_kept n
    | exact kept_of_seq (by simp) (cleared_kept n)
    | exact kept_of_table (n := n) (by simp) h
theorem frameReset_kept (n : Node) : n.frameReset.seq.TableKept := by
  have d := dropped_kept n .ready (.inr (.inl rfl)) n.seq.atFrameReset rfl rfl
  have e : tableOf n.frameReset = tableOf ((n.setSeq n.seq.atFrameReset).setTest .ready) := by
    simp only [Node.frameReset]
    split <;> simp [tableOf, Node.blocksReset, toReady_effect]
  exact kept_of_table e d
theorem takeFrameReset_kept (n : Node) (f : RxFrame) (h : n.seq.TableKept) :
    (n.takeFrameReset f).seq.TableKept := by
  unfold Node.takeFrameReset
  split
  · exact frameReset_kept n
  · exact h

theorem takeUnknown_table (n : Node) (f : RxFrame) : tableOf (n.takeUnknown f) = tableOf n := by
  unfold Node.takeUnknown
  split <;> simp
theorem takeZero_table (n : Node) (f : RxFrame) : tableOf (n.takeZero f) = tableOf n := by
  unfold Node.takeZero
  repeat' split
  all_goals first | rfl | exact tableOf_eq (by simp)
theorem takeBalance_table (n : Node) (f : RxFrame) : tableOf (n.takeBalance f) = tableOf n := by
  unfold Node.takeBalance
  repeat' split
  all_goals first | rfl | simp
theorem takeJog_table (n : Node) (f : RxFrame) : tableOf (n.takeJog f) = tableOf n := by
  unfold Node.takeJog Node.judgeJog
  repeat' split
  all_goals first | rfl | exact tableOf_eq (by simp)
theorem takeStopJog_table (n : Node) (f : RxFrame) : tableOf (n.takeStopJog f) = tableOf n := by
  unfold Node.takeStopJog
  repeat' split
  all_goals first | rfl | simp

/-! ### Orders and segments -/

theorem dropOther_kept (n : Node) (t : Nat) (h : n.seq.TableKept) : (n.dropOther t).seq.TableKept := by
  unfold Node.dropOther
  split
  · exact dropped_kept n .ready (.inr (.inl rfl)) _ rfl rfl
  · exact h
theorem putPart_kept (n : Node) (t : Nat) (x : OrderPart) (h : n.seq.TableKept) :
    (n.putPart t x).seq.TableKept := by
  have hh : ∀ k : Node, k.seq.TableKept → ∀ b : Bool,
      (if (b && k.seq.test == some .ready) = true then k.setTest .armed else k).seq.TableKept := by
    intro k hk b
    split
    · rename_i e
      exact setTest_before_kept _ _ hk (.inr (.inl (by simp_all))) (.inr (.inr rfl))
    · exact hk
  have c : (n.setSeq { n.seq with order := some ((n.orderFor t).put x) }).seq.TableKept :=
    kept_of_table (n := n) rfl h
  simp only [Node.putPart]
  apply hh
  split
  · exact kept_of_seq (by simp) c
  · exact c
theorem takeOrder_kept (n : Node) (f : RxFrame) (h : n.seq.TableKept) : (n.takeOrder f).seq.TableKept := by
  simp only [Node.takeOrder]
  repeat' split
  all_goals first
    | exact h
    | exact kept_of_table (refuse_table n _) h
    | exact putPart_kept _ _ _ (dropOther_kept _ _ h)

/-- A SEGMENT is loaded above the cursor of a test in progress, or anywhere in ARMED. -/
theorem loadSegment_kept (n : Node) (i : Fin 32) (f : SegFields) (h : n.seq.TableKept)
    (p : n.seq.test = some .armed ∨ n.testInProgress = true ∧ n.seq.cursor < i) :
    (n.loadSegment i f).seq.TableKept := by
  let e : Segment := { status := .loaded, fields := f }
  have look : ∀ j : Fin 32, (n.seq.setEntry i e).segs[j] = if i = j then e else n.seq.segs[j] :=
    fun j => setEntry_segs n.seq i j e
  have above : ∀ j : Fin 32, n.seq.cursor < j → (n.seq.setEntry i e).segs[j].fresh := by
    intro j hj
    rw [look]; split
    · exact .inr rfl
    · exact h.above j hj
  have c : (n.setSeq (n.seq.setEntry i e)).seq.TableKept := by
    rcases p with p | ⟨p, hi⟩
    · have b := h.before (.inr (.inr p))
      refine kept_before ⟨fun j hj => ?_, above⟩ (.inr (.inr p)) b.1 ?_
      · have hj : j < n.seq.cursor := hj
        rw [b.1] at hj; exact absurd hj (Nat.not_lt_zero _)
      · show ((n.seq.setEntry i e).segs[n.seq.cursor]).fresh
        rw [look]; split
        · exact .inr rfl
        · exact b.2
    · refine kept_during ⟨fun j hj => ?_, above⟩ (underWay_of_progress p) ?_
      · show (n.seq.setEntry i e).segs[j].status = .closed
        have hj : j < n.seq.cursor := hj
        rw [look, if_neg (by rintro rfl; exact absurd (Fin.lt_trans hi hj) (Fin.lt_irrefl _))]
        exact h.below j hj
      · show (n.seq.setEntry i e).segs[n.seq.cursor].status = .opened ∨
          (n.seq.setEntry i e).segs[n.seq.cursor].status = .closed
        rw [look, if_neg (by rintro rfl; exact absurd hi (Fin.lt_irrefl _))]
        exact h.during (underWay_of_progress p)
  simp only [Node.loadSegment]
  split
  · rename_i s
    simp only [Bool.and_eq_true, beq_iff_eq, Node.starved] at s
    obtain ⟨⟨s1, s2⟩, s3⟩ := s
    have hv := nextIndex_some s3
    apply openAndJudge_kept; apply openAt_kept
    · refine ⟨sided c, underWay_of_progress s1, ?_⟩
      show (n.seq.setEntry i e).segs[n.seq.cursor].status = .closed
      have hv : i.val = n.seq.cursor.val + 1 := hv
      rw [look, if_neg (by rintro rfl; omega)]
      exact s2
    · exact hv
  · exact c
theorem takeSegment_kept (n : Node) (f : RxFrame) (h : n.seq.TableKept) :
    (n.takeSegment f).seq.TableKept := by
  unfold Node.takeSegment Node.judgeSegment
  repeat' split
  all_goals first
    | exact h
    | exact kept_of_table (refuse_table n _) h
    | skip
  rename_i t _ _ _ i g _ p
  apply loadSegment_kept _ _ _ h
  by_cases q : n.testInProgress = true
  · exact .inr ⟨q, by simpa [q] using p⟩
  · left
    cases e : n.seq.test with
    | none => simp [e] at t
    | some x => cases x <;> simp_all [TestState.takesSegment, Node.testInProgress]

/-! ### Bus, peers, measuring -/

theorem receive_kept (n : Node) (b : List Byte) (h : n.seq.TableKept) : (n.receive b).seq.TableKept := by
  unfold Node.receive
  repeat' split
  all_goals first
    | exact h
    | exact kept_of_seq (n := n) (by simp) h
    | (simp only [Node.completeFrame, Node.hearOwn]
       repeat' split
       · exact h
       · exact enterSilent_kept _ h
       · exact kept_of_seq (n := n) (by simp) h)
theorem takeSample_kept (n : Node) (f : RxFrame) (h : n.seq.TableKept) : (n.takeSample f).seq.TableKept := by
  unfold Node.takeSample
  split
  · rename_i i _
    have c : (n.judgeSample i f).1.seq.TableKept := kept_of_seq (n := n) (by simp) h
    split
    · rename_i m e q; rw [q] at c; exact consumeSub_kept _ _ _ c
    · rename_i m q; rw [q] at c; exact c
  · exact h
theorem deliverStale_kept (n : Node) (i : Fin 4) (h : n.seq.TableKept) :
    (n.deliverStale i).seq.TableKept := by
  have c := kept_of_table (cmuStale_table n i) h
  unfold Node.deliverStale Node.partnerStale
  repeat' split
  all_goals first
    | exact h
    | exact c
    | exact loadLost_kept _ c
    | exact localCause_kept _ _ h
theorem stalenessTimer_kept (n : Node) (i : Fin 4) (h : n.seq.TableKept) :
    (n.stalenessTimer i).seq.TableKept := by
  unfold Node.stalenessTimer
  split
  · exact deliverStale_kept _ _ (kept_of_seq (n := n) (by simp) h)
  · exact h
theorem strainPoint_kept (n : Node) (r : Reading) (h : n.seq.TableKept) :
    (n.strainPoint r).seq.TableKept := by
  have c : (n.publishStrain r (n.strainSample r)).seq.TableKept := by
    simp only [Node.publishStrain]
    exact consumeStrain_kept _ _ (kept_of_seq (n := n) (by simp) h)
  exact kept_of_seq (by simp [Node.strainPoint]) c
theorem armReading_kept (n : Node) (h : n.seq.TableKept) : n.armReading.seq.TableKept := by
  unfold Node.armReading
  split
  · simp only [Node.reading]
    split
    · exact strainPoint_kept _ _ (kept_of_seq (n := n) (by simp) h)
    · exact kept_of_seq (n := n) (by simp) h
  · exact h
theorem releaseTimer_kept (n : Node) (h : n.seq.TableKept) : n.releaseTimer.seq.TableKept := by
  unfold Node.releaseTimer
  split
  · exact localCause_kept _ _ h
  · exact h
theorem stopSample_kept (n : Node) (b : Bool) (h : n.seq.TableKept) : (n.stopSample b).seq.TableKept := by
  unfold Node.stopSample
  split
  · exact sampleStop_kept _ _ h
  · exact h
theorem segmentClock_kept (n : Node) (h : n.seq.TableKept) : n.segmentClock.seq.TableKept := by
  unfold Node.segmentClock
  split
  · exact judgeEnd_kept _ _ (kept_of_table (reportSeg_table _ _ fun _ => rfl) h)
  · exact kept_of_table (n := n) rfl h
  · exact h
theorem lockTimer_table (n : Node) : tableOf n.lockTimer = tableOf n := by
  unfold Node.lockTimer
  repeat' split
  all_goals simp

/-- The delivery of the frame that is next. -/
theorem deliver_kept (n : Node) (a : Arrival) (take : Node → RxFrame → Node)
    (ht : ∀ m f, m.seq.TableKept → (take m f).seq.TableKept) (h : n.seq.TableKept) :
    (n.deliver a take).seq.TableKept := by
  unfold Node.deliver
  repeat' split
  · exact ht _ _ h
  · exact h
  · exact h

/-- One oscillator count. -/
theorem oscillate_seq (n : Node) : n.oscillate.1.seq = n.seq := by
  have t : ∀ m : Node, m.countTime.seq = m.seq := by
    intro m
    unfold Node.countTime Node.countMicro
    split <;> rfl
  simp [Node.oscillate, t]

end Sys2Proof.Laws
end

