-- ==== Sys2Proof/Tests/Slice0.lean ====
section
/-! SUPPORT. The model's own tests: the ill-formed commands that the check refuses, the manual's worked
examples, and for each obligation with hypotheses a concrete node that meets them, clause by clause. -/
open Sys2Proof Sys2Proof.Machine
namespace Sys2Proof.Tests
-- One theorem at a time: the memory that many threads take together is bounded where this is checked.
set_option Elab.async false

/-! ### Ill-formed commands -/

theorem test_wf_code_above_full_scale : Instr.wf (.conversionComplete 8388608) = false := by decide
theorem test_wf_code_below_full_scale : Instr.wf (.conversionComplete (-8388608)) = false := by decide
theorem test_wf_code_at_full_scale : Instr.wf (.conversionComplete 8388607) = true := by decide
theorem test_wf_image_short : Instr.wf (.imageReadComplete []) = false := by decide
theorem test_wf_frame_short : Instr.wf (.frameReceived (List.replicate 9 0)) = false := by decide
theorem test_wf_frame_long : Instr.wf (.frameReceived (List.replicate 43 0)) = false := by decide
theorem test_wf_attempt_empty : Instr.wf (.attemptEnd []) = false := by decide
theorem test_wf_attempt_long :
    Instr.wf (.attemptEnd (List.replicate 43 ⟨0, true⟩)) = false := by decide

/-! ### The manual's worked examples -/

/-- 1.7: Fmax 2,150,000 dN, 300 per mille: the break threshold is 645,000 dN. -/
theorem test_break_threshold : roundDiv (2150000 * 300) 1000 = 645000 := by decide

/-- 3.5: release drop 20 per mille of 2,150,000 dN. -/
theorem test_release_threshold : roundDiv (2150000 * 980) 1000 = 2107000 := by decide

/-- 2.1: halves go away from zero. -/
theorem test_round_halves : roundDiv 5 2 = 3 ∧ roundDiv (-5) 2 = -3 ∧ roundDiv 7 (-2) = -4 := by decide

/-- 2.3: test travels 3,000,000 and 2,994,000. -/
theorem test_mean_travel : meanTravel [3000000, 2994000] = some 2997000 := by decide

/-- 3.4: the reference of the slipped arm 2. -/
theorem test_slip_reference :
    slipOf ⟨220100, 220500, true, true⟩ ⟨220500, 273500, true, true⟩ 20000 = some false ∧
      ((⟨5470, 0, false⟩ : ArmState).slippedTo ⟨4410, 0, false⟩).ref = 1060 := by decide

/-- An entry without flags. -/
def entry (seq : Byte) (time : Time) (value : Int) : HistEntry := ⟨seq, time, value, {}⟩

/-- 5.7: a request between two strain samples. -/
theorem test_interpolation :
    answerNewest [entry 117 50000 1200000, entry 118 52000 1201600] 51250 =
      some { value := 1201000, flags := {} } := by
  decide

/-- 5.7: the partner's travel beyond its newest sample, and at the cap. -/
theorem test_extrapolation :
    let h := [entry 1 40000 812396000, entry 2 41000 812396050]
    (answerExtrapolate h 43400).map (·.value) = some 812396170 ∧
      (answerExtrapolate h 48000).map (·.value) = some 812396300 := by decide

/-- 6.5: the rate over four intervals of 2,000 µs. -/
theorem test_rate_estimate : rateEstimate 1 (entry 1 0 1200000) (entry 5 8000 1201600) = 200000 := by
  decide

/-- 6.5: 10 MPa/s on 500,000 units of area. -/
theorem test_force_rate : forceRate 1000 500000 = 50000 := by decide

/-- 9.4: 1,855,000 dN on the same area. -/
theorem test_stress : (pairOf 500000 ⟨0, 1855000, {}⟩ ⟨0, {}, false⟩).stress = 37100 := by decide

/-- 9.6: the uniform elongation. -/
theorem test_uniform_elongation : plasticStrain 150000000 52000 200000 = 147400000 := by decide

/-- 9.6: the fracture pair of the break scan, and its elongation. -/
theorem test_fracture_pair :
    fracturePair [⟨38000, 239000000, true⟩, ⟨37600, 239800000, true⟩, ⟨37100, 240600000, true⟩,
        ⟨30200, 241250000, true⟩, ⟨12000, 241900000, true⟩] = some ⟨30200, 241250000, true⟩ ∧
      plasticStrain 241250000 30200 200000 = 239740000 := by decide

/-- R30, R188: 1,200,000 nm/s in steps of 2 nm. -/
theorem test_period : periodOf 2 1200000 = 27 := by decide

/-- R64: the nine digits 1 to 9, whose check value with these parameters is commonly published. -/
theorem test_check_value :
    checkValue [0x31, 0x32, 0x33, 0x34, 0x35, 0x36, 0x37, 0x38, 0x39] = 0x29B1 := by decide +kernel

/-! ### A configuration image, and small nodes -/

/-- Bytes 0 to 23 of an image: station 3 with the four roles and the partner travel of station 5. -/
def imageHead : List Byte :=
  [3, 1, 15, 2, 1, 1, 10, 0, 1, 5, 2, 3, 0, 0, 0, 0, 0, 0, 0, 0, 0, 0, 0, 0]

/-- Bytes 24 to 107. -/
def imageFields : List Byte :=
  [0, 255] ++ be16 50 ++ be16 2 ++ be16 40 ++ be16 50 ++
  u32 1 ++ u32 1200000 ++ u32 1000 ++ u32 1000000 ++ i32 (-500000000) ++ i32 1500000000 ++
  u32 100000 ++ u32 2000000 ++ u32 30000000 ++ u32 100000 ++ u32 1000 ++
  be16 100 ++ u32 20000 ++ [16, 16] ++ be16 50 ++ [8] ++ u32 5000 ++
  [50, 50, 50, 50, 50, 50, 50] ++ u32 10000 ++ u32 20000

/-- A calibration table of two points, in its 97 bytes. -/
def tableBytes : List Byte :=
  2 :: i32 (-536870848) ++ i32 (-2000000) ++ i32 536870848 ++ i32 2000000 ++ List.replicate 80 0

/-- Bytes 24 to 1,021. -/
def imageTail : List Byte :=
  imageFields ++ (tableBytes ++ (tableBytes ++ (tableBytes ++ (tableBytes ++ List.replicate 526 0))))

/-- An image with the first 24 bytes as given, and the check value of the image of `imageHead`. -/
def imageWith (head : List Byte) : List Byte := (head ++ imageTail) ++ [0x53, 0x71]

def imageBytes : List Byte := imageWith imageHead

/-- The check register as a number, which the kernel evaluates byte by byte. -/
def crcNat : List Byte → Nat → Nat
  | [], r => r
  | x :: xs, r =>
    match (crcByte (BitVec.ofNat 16 r) x).toNat with
    | 0 => crcNat xs 0
    | k + 1 => crcNat xs (k + 1)

theorem crcNat_eq (bs : List Byte) (r : Nat) (h : r < 65536) :
    BitVec.ofNat 16 (crcNat bs r) = bs.foldl crcByte (BitVec.ofNat 16 r) := by
  induction bs generalizing r with
  | nil => rfl
  | cons x xs ih =>
    have hx : crcNat (x :: xs) r = crcNat xs (crcByte (BitVec.ofNat 16 r) x).toNat := by
      rw [crcNat]; split <;> simp_all
    rw [hx, ih _ (crcByte (BitVec.ofNat 16 r) x).isLt, BitVec.ofNat_toNat, BitVec.setWidth_eq]
    rfl

theorem crc_tail : imageTail.foldl crcByte 0x694E = 0x5371 :=
  (crcNat_eq imageTail 0x694E (by decide)).symm.trans
    (congrArg (BitVec.ofNat 16) (by decide +kernel : crcNat imageTail 0x694E = 0x5371))

/-- A head of 24 bytes that takes the check register to 694E gives a whole image with the right check value. -/
theorem imageWith_checks (head : List Byte) (hl : head.length = 24)
    (hc : head.foldl crcByte 0xFFFF = 0x694E) : imageCheckOk (clockedIn (imageWith head)) = true := by
  have hcheck : checkValue (head ++ imageTail) = 0x5371 := by
    rw [checkValue, List.foldl_append, hc, crc_tail]
  have ht : imageTail.length = 998 := by decide +kernel
  have hb : (head ++ imageTail).length = 1022 := by rw [List.length_append, hl, ht]
  have hw : (imageWith head).length = 1024 := by rw [imageWith, List.length_append, hb]; rfl
  have hi : clockedIn (imageWith head) = imageWith head := by
    rw [clockedIn, ← hw, List.take_left']
    rfl
  rw [imageCheckOk, hi, imageWith, List.take_left' hb, List.drop_left' hb, checkBytes, hcheck]
  decide

def points : List CalPoint := [⟨-536870848, -2000000⟩, ⟨536870848, 2000000⟩]

/-- The values of that image. -/
def image : Image where
  nodeId := 3
  lineRate := 1
  roles := 15
  loadRate := 1000
  travelRate := 500
  strainRate := 500
  staleMs := 10
  subs := #v[some ⟨5, .travel, .partnerTravel⟩, none, none, none]
  drive := { filterCounts := 4, encScale := 50, step := 2, pulseWidth := 40, armScale := 50, vMin := 1
             vMax := 1200000, accel := 1000, followLimit := 1000000, travelMin := -500000000
             travelMax := 1500000000, levelSpan := 100000, tiltLimit := 2000000 }
  load := { tables := #v[points, points, points, points], overloadLimit := 30000000
            zeroLimit := 100000, balanceLimit := 1000 }
  control := { releaseTimeoutMs := 100, slipThreshold := 20000, gainLoad := 16, gainStrain := 16
               lockBand := 50, lockCount := 8, lockTimeoutMs := 5000 }
  health := { thresholds := #v[50, 50, 50, 50, 50, 50, 50], driftAllowance := 10000
              disagreeAllowance := 20000 }

/-- 11.3: the bytes spell the values. -/
theorem test_image_values : imageOf (clockedIn imageBytes) = image := by decide +kernel

/-- An ACTIVE node with that image in a test state. -/
def node (t : TestState) : Node :=
  { sul := { image := image }, seq := { op := .active, test := some t } }

/-- The node with a roles byte of its own, and with subscriptions of its own. -/
def node' (t : TestState) (roles : Byte) (subs : Vector (Option SubCfg) 4) : Node :=
  { node t with sul := { image := { image with roles := roles, subs := subs } } }

/-- The node with the load channel in a fixed range. -/
def fixedNode (lc : Lc) : Node :=
  { node .ready with
    sul := { image := { image with load := { image.load with fixedRange := some 3 } } }, lc := lc }

/-- A node in CONFIG-FAULT with FIELD 7. -/
def faulty : Node := { node .ready with
  sul := { image := { nodeId := 3, lineRate := 1, roles := 15 }, fault := some (.field, 7) }
  seq := { op := .configFault } }

/-- A frame of station 5 to station 3. -/
def frame (k : MsgKind) (p : List Byte) : RxFrame :=
  ⟨⟨classCode k.cls, k.code, 5, 3, false, p.length, 1, 100⟩, p, 200⟩

/-- The node with a frame waiting in its receive queue. -/
def hearing (n : Node) (k : MsgKind) (p : List Byte) : Node :=
  if k.cls = .urgent then { n with fbc := { n.fbc with urgentQ := [frame k p] } }
  else { n with fbc := { n.fbc with normalQ := [frame k p] } }

/-- A complete order of test 7. -/
def order : Order where
  testId := 7
  part1 := some ⟨500000, 50000000⟩
  part2 := some ⟨5000, 20000, 100000, 300000, 2000000, 100, 0⟩
  part3 := some ⟨300, 100000, 0, 0, 0, 65536⟩

/-- A loaded or open entry. -/
def seg (st : SegStatus) (f : SegFields) : Segment := { status := st, fields := f }

/-- A node of test 7 with an entry 0. -/
def inTest (t : TestState) (e : Segment) : Node :=
  { node t with seq := { op := .active, test := some t, order := some order
                         segs := (Vector.replicate 32 {}).set 0 e } }

/-! ### Witnesses: reset, start, load channel -/

/-- RESET released and held; a bit-time, a microsecond and an underflow due at this count, and not. -/
theorem witness_EmptyQueueCountsTheOscillator :
    let a : Node := { node .ready with
      clk := { divider := 15 }, fbc := { idleCount := 107, bitPhase := 15 }
      tsg := { gen := { st := .running, counter := 1, stepHigh := true, pulseLeft := 1 } } }
    (node .ready).pins.resetPin = false ∧ a.pins.resetPin = false ∧
      ({ node .ready with pins := { resetPin := true } } : Node).pins.resetPin = true ∧
      a.driveLive = true ∧ a.fbcLive = true ∧ 16 ≤ a.clk.divider + 1 ∧
      16 / a.img.lineRate ≤ a.fbc.bitPhase + 1 ∧ ¬16 ≤ (node .ready).clk.divider + 1 := by decide

/-- Timers that have run out at this microsecond and one that has not, header facts and a frame waiting: the commands
raised, in their order; and the image transfer at its microsecond. -/
theorem witness_EmptyQueueCountsTheOscillator_raised :
    let n : Node := { node .ready with
      clk := { divider := 15 }, tsg := { gen := { runDownAt := some 1 } }, cmu := { lockAt := some 1 }
      exh := { releaseAt := some 2 }, evl := { record := { st := .collecting }, drainAt := some 1 }
      pta := { subs := (Vector.replicate 4 {}).set 2 { staleAt := some 1 }
               peers := (Vector.replicate 16 {}).set 9 { reseedAt := some 1, silenceAt := some 0 } }
      fbc := { facts := [⟨5, 2, 1, 0, 0, 0⟩], normalQ := [frame .query [2, 31, 2]] } }
    let reads : Node := { clk := { divider := 15, time := 8223 }, sul := { reading := true } }
    let pending (n : Node) : List Instr := match step ⟨n, []⟩ with
      | .next s => s.pending
      | _ => []
    pending n = [.runDownTimerExpiry, .lockTimerExpiry, .drainLimitExpiry, .stalenessExpiry 2,
      .reseedTimerExpiry 9, .silenceTimerExpiry 9, .headerFacts, .querySegment] ∧
      pending { n with clk := { divider := 14 } } = [.headerFacts, .querySegment] ∧
      pending reads = [.imageReadComplete []] := by decide

/-- What a frame is as its delivery, at the bounds of a length, an argument and a page; the urgent queue first. -/
theorem witness_EmptyQueueCountsTheOscillator_delivery :
    let of_ (k : MsgKind) (p : List Byte) : List Instr := (hearing (node .ready) k p).dispatchEvent
    let n := hearing (hearing (node .ready) .order []) .mark []
    let silent : Node := { n with seq := { op := .silent }, fbc := { n.fbc with urgentQ := [] } }
    of_ .command [1, 0, 7] = [.start] ∧ of_ .command [1] = [.unknownCommand] ∧ of_ .command [] = [.unknownCommand] ∧
      of_ .command [10] = [.frameReset] ∧ of_ .command [11] = [.unknownCommand] ∧
      of_ .query [1, 255, 4] = [.queryStatus] ∧ of_ .query [1, 255, 5] = [.queryRefused] ∧
      of_ .query [2, 32, 1] = [.queryRefused] ∧ of_ .query [5, 15, 5] = [.queryPeer] ∧
      of_ .query [5, 15, 0] = [.queryRefused] ∧ of_ .query [5, 15] = [.queryRefused] ∧
      of_ .sample [] = [.sampleArrival] ∧ n.dispatchEvent = [.markFrame] ∧
      silent.dispatchEvent = [.silentDiscard] := by decide

theorem witness_ResetAndStartValues :
    (node .ready).pins.resetPin = false ∧
      ({ node .ready with pins := { resetPin := true } } : Node).pins.resetPin = true := by decide

theorem witness_ImageReadCompleteJudged_good_check : imageCheckOk (clockedIn imageBytes) = true :=
  imageWith_checks imageHead (by decide) (by decide +kernel)

theorem witness_ImageReadCompleteJudged_good :
    let n := State.reset.node
    n.seq.op = .starting ∧ n.sul.reading = true ∧
      firstOut (identityRanges (clockedIn imageBytes)) = none ∧
      firstOut (fieldRanges (clockedIn imageBytes)) = none ∧
      firstFailing (consistencyChecks (imageOf (clockedIn imageBytes))) = none ∧
      n.fbc.fifo = [] ∧ n.fbc.removal = false := by decide +kernel

theorem witness_ImageReadCompleteJudged_good_roles :
    rolesOf image.roles = ⟨true, true, true, true⟩ ∧ image.subs[0] ≠ none := by decide

/-- A byte of the head is wrong for the check value. -/
theorem witness_ImageReadCompleteJudged_bad_check : imageCheckOk [1] = false := by decide +kernel

/-- Node id 16, in a head whose unread bytes keep the check value right. -/
def headIdentity : List Byte :=
  [16, 1, 15, 2, 1, 1, 10, 0, 1, 5, 2, 3, 0, 0, 0, 0, 0, 0, 0, 0, 0, 0, 11, 46]

/-- Stale time 4 ms, one below its range. -/
def headField : List Byte :=
  [3, 1, 15, 2, 1, 1, 4, 0, 1, 5, 2, 3, 0, 0, 0, 0, 0, 0, 0, 0, 0, 0, 209, 62]

/-- The partner travel is of the node itself: check 5. -/
def headSub : List Byte :=
  [3, 1, 15, 2, 1, 1, 10, 0, 1, 3, 2, 3, 0, 0, 0, 0, 0, 0, 0, 0, 0, 0, 143, 107]

theorem witness_ImageReadCompleteJudged_bad_checks :
    imageCheckOk (clockedIn (imageWith headIdentity)) = true ∧
      imageCheckOk (clockedIn (imageWith headField)) = true ∧
      imageCheckOk (clockedIn (imageWith headSub)) = true :=
  ⟨imageWith_checks _ (by decide) (by decide +kernel), imageWith_checks _ (by decide) (by decide +kernel),
    imageWith_checks _ (by decide) (by decide +kernel)⟩

theorem witness_ImageReadCompleteJudged_bad :
    let b (head : List Byte) := clockedIn (imageWith head)
    firstOut (identityRanges (b headIdentity)) = some 1 ∧
      firstOut (identityRanges (b headField)) = none ∧ firstOut (fieldRanges (b headField)) = some 7 ∧
      firstOut (identityRanges (b headSub)) = none ∧ firstOut (fieldRanges (b headSub)) = none ∧
      firstFailing (consistencyChecks (imageOf (b headSub))) = some (.subscription, 8) := by
  decide +kernel

/-- The bytes of an image name one subscription present and three absent, no fixed range, and two points a table; and
a fixed range of 3. -/
theorem witness_ImageFieldsRangedAndChecked :
    let b := clockedIn imageBytes
    natAt b 8 = 1 ∧ byteAt b 10 = Channel.travel.code ∧ byteAt b 11 = SubUse.partnerTravel.code ∧
      natAt b 12 ≠ 1 ∧ natAt b 25 = 255 ∧ natAt (b.set 25 3) 25 = (3 : Fin 4).val ∧ 1 < natAt b 108 ∧
      (consistencyChecks (imageOf b))[29]? ≠ none ∧ (consistencyChecks (imageOf b))[30]? = none := by
  decide +kernel

theorem witness_ConversionAcceptedRangedOrSettling :
    let n := fixedNode {}
    let m := fixedNode { settle := 4 }
    n.lcLive = true ∧ n.lc.balance = none ∧ n.lc.zero = none ∧ n.img.load.fixedRange = some 3 ∧
      n.lc.decim + 1 ≠ n.loadEvery ∧ n.lc.settle = 0 ∧ m.lcLive = true ∧ m.lc.balance = none ∧
      m.lc.zero = none ∧ m.img.load.fixedRange = some 3 ∧ m.lc.decim + 1 ≠ m.loadEvery ∧
      m.lc.settle ≠ 0 := by decide

/-- The steps up from 7,549,747 on, not from 7,549,746, and not from ×1; down at the 64th code to 1,258,290. -/
theorem witness_ConversionAcceptedRangedOrSettling_autorange :
    let n (l : Lc) : Node := { node .ready with lc := l }
    let ok (n : Node) : Bool := n.lcLive && n.lc.balance.isNone && n.lc.settle == 0 &&
      codesOf n.lc.zero + 1 != 16 && n.img.load.fixedRange.isNone && n.lc.decim + 1 != n.loadEvery
    let up (n : Node) (c : Int) : Bool := decide (7549746 < c.natAbs) && decide (n.lc.range.val < 3)
    let low (n : Node) (c : Int) : Bool := n.beforeTest && n.lc.range.val != 0 && decide (c.natAbs < 1258291)
    let a := n { range := 2, zero := some ⟨3, 9⟩ }
    let b := n { range := 3, down := 63 }
    let d := n { range := 3, down := 5 }
    ok a = true ∧ up a 7549747 = true ∧ up a (-8388607) = true ∧ up a 7549746 = false ∧
      ok b = true ∧ up b 8388607 = false ∧ low b 1258290 = true ∧ low b 1258291 = false ∧
      b.lc.down + 1 = 64 ∧ ok d = true ∧ low d 0 = true ∧ d.lc.down + 1 ≠ 64 := by decide

/-- A settle in autorange and under a zero in flight; a zero in flight in a fixed range. -/
theorem witness_ConversionAcceptedRangedOrSettling_zero :
    let ok (n : Node) : Prop := n.lcLive = true ∧ n.lc.balance = none ∧ n.lc.decim + 1 ≠ n.loadEvery
    let auto (l : Lc) : Node := { node .ready with lc := l }
    let a := auto { settle := 4 }
    let z := auto { settle := 1, zero := some ⟨0, 0⟩ }
    let f := fixedNode { zero := some ⟨14, 9⟩ }
    (ok a ∧ a.lc.settle ≠ 0 ∧ a.img.load.fixedRange = none) ∧ (ok z ∧ z.lc.settle ≠ 0 ∧ z.lc.zero ≠ none) ∧
      (ok f ∧ f.lc.settle = 0 ∧ codesOf f.lc.zero + 1 ≠ 16 ∧ f.img.load.fixedRange ≠ none) := by decide

/-- A settling channel; a trial, its twelfth conversion and that of bit 0; the return to the held range, and its last
conversion with the residue at the balance limit and beyond: each at a publish point. -/
theorem witness_PublishPointWithoutCodesHolds :
    let ok (n : Node) : Prop := n.lcLive = true ∧ n.active = true ∧ n.lc.decim + 1 = n.loadEvery
    let n := fixedNode { settle := 2, decim := 1 }
    let b (s : Nat) (p : BalancePhase) := fixedNode { settle := s, decim := 1, balance := some ⟨256, 3, p⟩ }
    (ok n ∧ n.lc.balance = none ∧ n.lc.settle ≠ 0 ∧ n.lc.acc.count = 0) ∧ ok (b 0 (.trial 8 3 0)) ∧
      ok (b 4 (.trial 0 10 9)) ∧ ok (b 0 (.trial (7 + 1) 11 5)) ∧ ok (b 0 (.trial 0 11 (-5))) ∧
      ok (b 2 (.restore 7)) ∧ 1 < (b 2 (.restore 7)).lc.settle ∧ ok (b 1 (.restore 1000)) ∧
      ok (b 0 (.restore 1001)) ∧ (b 1 (.restore 1000)).lc.settle ≤ 1 ∧
      ¬n.img.load.balanceLimit < ((1000 : Int).natAbs : Int) ∧
      n.img.load.balanceLimit < ((1001 : Int).natAbs : Int) := by decide

/-- A force at its overload limit and one above it; a full-scale code in ×1. -/
theorem witness_PublishPointFormsTheSample :
    let n (t : TestState) (limit : Int) : Node := { node t with
      sul := { image := { image with load := { image.load with
        fixedRange := some 3, overloadLimit := limit } } }
      lc := { decim := 1 } }
    let ok (n : Node) : Prop := n.lcLive = true ∧ n.active = true ∧ n.lc.balance = none ∧
      n.lc.zero = none ∧ n.lc.settle = 0 ∧ n.img.load.fixedRange = some 3 ∧ n.lc.decim + 1 = n.loadEvery
    let f (c : Int) := (publishedForce image.load.tables[(3 : Fin 4)]
      (roundDiv (c * 4 ^ (n .ready 0).lc.range.val) 1)).1
    ok (n .running 1000) ∧ (n .running 1000).testInProgress = true ∧ ok (n .halted 1000) ∧
      ((f 4194).natAbs : Int) = 1000 ∧ 1000 < ((f 4197).natAbs : Int) ∧
      (n .running 1000).lc.range = 3 := by decide

/-- A publish point in autorange that steps up, steps down at the 64th code, counts one of them, and keeps the range;
and one with a zero at its fifteenth code, at its sixteenth with the mean at the zero limit, and beyond it. -/
theorem witness_PublishPointFormsTheSample_ranged :
    let auto (l : Lc) : Node := { node .ready with lc := { l with decim := 1 } }
    let zero (k : Nat) (s : Int) := fixedNode { decim := 1, zero := some ⟨k, s⟩ }
    let ok (n : Node) : Prop := n.lcLive = true ∧ n.lc.balance = none ∧ n.lc.settle = 0 ∧
      n.lc.decim + 1 = n.loadEvery
    let z (s c : Int) : Int := roundDiv (s + c * 4 ^ (zero 15 s).lc.range.val) 16
    ok (auto { range := 2 }) ∧ (7549746 < (7549747 : Int).natAbs ∧ (auto { range := 2 }).lc.range.val < 3) ∧
      ok (auto { down := 63 }) ∧ ok (auto { down := 5 }) ∧ (auto {}).beforeTest = true ∧
      (auto {}).lc.range.val ≠ 0 ∧ (1258290 : Int).natAbs < 1258291 ∧
      (auto { down := 63 }).lc.down + 1 = 64 ∧ (auto { down := 5 }).lc.down + 1 ≠ 64 ∧
      (auto {}).img.load.fixedRange = none ∧ ok (zero 14 0) ∧ ok (zero 15 1600000) ∧
      (zero 14 0).lc.zero = some ⟨14, 0⟩ ∧ (zero 15 0).lc.zero = some ⟨15, 0⟩ ∧
      ((z 1600000 0).natAbs : Int) = (zero 15 0).img.load.zeroLimit ∧
      (zero 15 0).img.load.zeroLimit < ((z 1600016 0).natAbs : Int) := by decide

/-- A table of four points: a code below the second point, at it, below the third, at it, and far above the last. -/
theorem witness_PublishPointFormsTheSample_table :
    let t : List CalPoint := [⟨0, 0⟩, ⟨10, 100⟩, ⟨20, 400⟩, ⟨30, 20000400⟩]
    (t.map (·.code)).Pairwise (· < ·) ∧ publishedForce t (-5) = (-50, false) ∧
      publishedForce t 9 = (90, false) ∧ publishedForce t 10 = (100, false) ∧
      publishedForce t 19 = (370, false) ∧ publishedForce t 20 = (400, false) ∧
      publishedForce t 35 = (30000000, true) := by decide

theorem witness_ZeroAndBalanceAccepted :
    let ok (n : Node) : Prop := n.active = true ∧ n.beforeTest = true ∧ n.lc.balance = none ∧ n.lc.zero = none
    let z := hearing (node .ready) .command [6]
    let b := hearing (node .armed) .command [7]
    (ok z ∧ z.delivers (.command .zero) (frame .command [6]) ∧ z.roles.load = true ∧ z.roles.ext = true) ∧
      ok b ∧ b.delivers (.command .balance) (frame .command [7]) ∧ b.roles.load = true := by
  unfold Node.delivers; decide

/-- The mean of the sixteen codes at the zero limit, and one above it; codes 1 and 15, and a node in autorange. -/
theorem witness_SixteenthCodeEndsTheZero :
    let n (k : Nat) (s : Int) := fixedNode { zero := some ⟨k, s⟩ }
    let auto : Node := { node .ready with lc := { range := 2, zero := some ⟨14, 0⟩ } }
    let z (s c : Int) : Int := roundDiv (s + c * 4 ^ (n 15 s).lc.range.val) 16
    let ok (n : Node) : Prop := n.lcLive = true ∧ n.lc.settle = 0 ∧ n.lc.balance = none ∧
      n.lc.decim + 1 ≠ n.loadEvery
    ok (n 0 0) ∧ ok (n 14 5) ∧ ok (n 15 1600000) ∧ ok auto ∧ auto.img.load.fixedRange = none ∧
      ((z 1600000 0).natAbs : Int) = (n 15 0).img.load.zeroLimit ∧
      (n 15 0).img.load.zeroLimit < ((z 1600016 0).natAbs : Int) := by decide

theorem witness_BalanceConversions :
    let n (s : Nat) (p : BalancePhase) : Node :=
      { node .ready with lc := { settle := s, range := 0, balance := some ⟨256, 3, p⟩ } }
    let ok (n : Node) : Prop := n.lcLive = true ∧ n.lc.decim + 1 ≠ n.loadEvery
    ok (n 0 (.trial 8 3 0)) ∧ ok (n 0 (.trial 8 4 0)) ∧ ok (n 0 (.trial (7 + 1) 11 5)) ∧
      ok (n 0 (.trial 0 11 (-5))) ∧ ok (n 2 (.restore 7)) ∧ ok (n 1 (.restore 7)) ∧
      ok (n 0 (.restore 7)) := by decide

/-- Fmax at the break minimum, and the force at the break fraction of it. -/
theorem witness_BreakEndsTheTest :
    let n : Node := { inTest .running (seg .opened {}) with lc := { fmax := 100000, breakArmed := true } }
    let e := entry 1 0 30000
    n.part3 = order.part3 ∧ n.testInProgress = true ∧ e.flags.held = false ∧ n.lc.breakArmed = true ∧
      (100000 : Int) ≤ n.lc.fmax ∧ e.value ≤ roundDiv (n.lc.fmax * 300) 1000 ∧
      n.hlt.breakRecord = none ∧ n.active = true ∧ n.roles.drive = true ∧
      n.seq.openEntry ≠ none := by decide

/-! ### Witnesses: halts -/

theorem witness_LocalCausesAndStopEnterHalted :
    State.reset.node.seq.test = none ∧ (node .ready).seq.test = some .ready ∧
      (node .ready).active = true ∧ (node .ready).fbc.haltSlot = none ∧
      (inTest .running (seg .opened {})).testInProgress = true := by decide

theorem witness_LocalCausesAndStopEnterHalted_stop :
    let h : Node := { node .ready with hlt := { stopPrev := true } }
    (node .ready).inService = true ∧ (node .ready).hlt.stopPrev = false ∧ h.inService = true ∧
      h.hlt.stopPrev = true ∧ (node .halted).inService = true := by decide

/-- A node with a halt record. -/
def haltedNode (t : TestState) : Node :=
  { node t with hlt := { record := some ⟨.operator, 5, 0, t == .halted⟩ } }

theorem witness_HaltFrameReceived :
    let ok (n : Node) : Prop := n.delivers .halt (frame .halt [13, 5])
    let jog : Node := { node .ended with tsg := { jog := .jogging } }
    ok (hearing (haltedNode .halted) .halt [13, 5]) ∧ ok (hearing (haltedNode .ended) .halt [13, 5]) ∧
      ok (hearing (node .ended) .halt [13, 5]) ∧ ok (hearing jog .halt [13, 5]) ∧
      jog.roles.drive = true ∧ ok (hearing (node .ready) .halt [13, 5]) ∧
      ok (hearing (inTest .running (seg .opened {})) .halt [13, 5]) := by
  unfold Node.delivers; decide

theorem witness_HaltFrameReceived_bytes :
    ([14, 5] : List Byte).length = 2 ∧ 13 < natAt [14, 5] 0 ∧ natAt [0, 5] 0 = 0 ∧ 15 < natAt [13, 16] 1 ∧
      ([13] : List Byte).length ≠ 2 ∧ haltOf (frame .halt [1, 15]) = (.stopInput, 15) ∧
      haltOf (frame .halt [13, 0]) = (.operator, 0) := by decide

theorem witness_BreakEndsTheTest_frame :
    let n (t : TestState) := hearing (inTest t (seg .opened {})) .break_ [0, 7]
    let f := frame .break_ [0, 7]
    (∀ t ∈ [TestState.armed, .running, .paused, .halted, .ended], (n t).delivers .break_ f ∧
      (n t).seq.test = some t ∧ (n t).seq.order ≠ none ∧ nat16At f.payload 0 = (n t).testId ∧
      (n t).hlt.breakRecord = none) ∧ f.payload.length = 2 ∧
      nat16At [0, 8] 0 ≠ (n .running).testId := by
  unfold Node.delivers; decide

/-! ### Witnesses: drive -/

/-- The pair 00 goes to 10 and to 01, and to 11. -/
theorem witness_QuadratureEventsCount :
    (node .ready).driveLive = true ∧ (node .ready).filters.encA.accepted = false ∧
      (node .ready).filters.encB.accepted = false ∧ (node .ready).seq.test ≠ some .halted ∧
      (node .ready).extLive = true := by decide

/-- A node with the drive as given, and no partner. -/
def driven (t : TestState) (x : Tsg) : Node :=
  { node' t 15 (Vector.replicate 4 none) with tsg := x }

theorem witness_PacerExpiryRampsAndIssues :
    let ok (n : Node) : Prop := n.driveLive = true ∧ n.active = true ∧ n.seq.test ≠ some .halted ∧
      (n.tsg.level = none ∨ n.partnerAt n.now = none) ∧ n.staleUse .partnerTravel = false ∧
      n.img.drive.travelMin < n.absolutePos ∧ n.absolutePos < n.img.drive.travelMax ∧
      (n.followingError.natAbs : Int) ≤ n.img.drive.followLimit ∧ n.tsg.pubCount + 1 ≠ n.travelEvery
    ok (driven .ready {}) ∧ ok (driven .running { wanted := 1000, commanded := 0 }) ∧
      ok { node .ready with tsg := { level := some 5 } } ∧
      ok (driven .running { wanted := 1001, commanded := 0, gen := { st := .running, period := 16 } }) ∧
      ok (driven .running { wanted := -1000, commanded := 1 }) := by decide

theorem witness_PacerExpiryRampsAndIssues_modes :
    let c : Cmu := { requested := .loadRate, entryStep := true, entryVel := 1000 }
    c.requested.closed = true ∧ ({ requested := .crossheadRate, reqVel := 1000 } : Cmu).requested =
      .crossheadRate ∧ ({} : Cmu).requested = .hold := by decide

/-- The issued velocity 0 of a generator that runs, and 1,000 nm/s of one that is stopped, with the counter one above
the period of 32,000 counts and at it, and of one that is stopping. -/
theorem witness_PacerExpiryRampsAndIssues_generator :
    let g (st : GenState) (k : Nat) : Gen := { st := st, counter := k, period := 64000 }
    let p := (clamp 16 16777215 (roundDiv (16000000 * image.drive.step) (1000 : Int).natAbs)).toNat
    (g .running 9).st = .running ∧ (g .stopped 0).st = .stopped ∧ p = 32000 ∧ (g .running 32001).st ≠ .stopped ∧
      p < (g .running 32001).counter ∧ (g .stopping 32000).st ≠ .stopped ∧
      (g .stopping 32000).counter ≤ p := by decide

/-- A side that stays violated with the velocity away from it; a stale partner under a generator that runs; a following
error beyond the limit at rest after the run-down window. -/
theorem witness_PacerExpiryRampsAndIssues_kept :
    let ok (n : Node) : Prop := n.driveLive = true ∧ n.active = true ∧ n.seq.test ≠ some .halted ∧
      (n.tsg.level = none ∨ n.partnerAt n.now = none) ∧ n.tsg.pubCount + 1 ≠ n.travelEvery
    let away := driven .ready { count := -10000000, pulses := -250000000, violLo := true, wanted := 5 }
    let stale : Node := { node .ready with
      tsg := { wanted := 5, commanded := 5, gen := { st := .running } }
      pta := { subs := (Vector.replicate 4 {}).set 0 { stale := true } } }
    let sags := driven .ready { pulses := 500001 }
    (ok away ∧ away.absolutePos = away.img.drive.travelMin ∧ away.followingError = 0) ∧
      (ok stale ∧ stale.staleUse .partnerTravel = true ∧ stale.tsg.gen.st ≠ .stopped) ∧
      (ok sags ∧ sags.img.drive.followLimit < (sags.followingError.natAbs : Int) ∧
        sags.tsg.gen.st = .stopped ∧ sags.tsg.gen.runDown = false ∧ sags.tsg.wanted = 0) := by decide

/-- A travel publish point at rest and in RUNNING, with each mode that the ramp report may bring. -/
theorem witness_PacerPublishesTravel :
    let n (t : TestState) (c : Cmu) : Node :=
      { driven t { pubCount := 1, wanted := 1000, commanded := 1000 } with cmu := c }
    let ok (n : Node) : Prop := n.driveLive = true ∧ n.tsg.pubCount + 1 = n.travelEvery
    ok (driven .ready { pubCount := 1 }) ∧ ok (n .running {}) ∧ (n .running {}).active = true ∧
      ok (n .running { requested := .crossheadRate, reqVel := 1000 }) ∧
      ok (n .running { requested := .strainRate, entryStep := true, entryVel := 1000 }) := by decide

/-- At the lower travel limit, newly and with a velocity further down, and with the following error one step
beyond its limit. -/
theorem witness_PacerExpiryHalts :
    let a := driven .ready { count := -10000000 }
    let d := driven .ready { count := -10000000, pulses := -250000000, violLo := true, wanted := -5 }
    let b := driven .ready { pulses := 500001, gen := { st := .running } }
    let ok (n : Node) : Prop := n.driveLive = true ∧ n.seq.test = some .ready ∧ n.tsg.level = none ∧
      n.staleUse .partnerTravel = false
    ok a ∧ a.absolutePos ≤ a.img.drive.travelMin ∧ a.tsg.violLo = false ∧
      ok d ∧ d.absolutePos ≤ d.img.drive.travelMin ∧ d.tsg.violLo = true ∧
      ((d.tsg.wanted - d.tsg.commanded).natAbs : Int) ≤ d.img.drive.accel ∧
      clamp (-d.img.drive.vMax) d.img.drive.vMax d.tsg.wanted < 0 ∧
      ok b ∧ b.img.drive.followLimit < (b.followingError.natAbs : Int) ∧
      b.img.drive.travelMin < b.absolutePos ∧ b.absolutePos < b.img.drive.travelMax := by decide

/-- The following error beyond its limit with a side that stays violated, and at the expiry that starts the generator,
where the run-down mark is clear; a level error at the tilt limit. -/
theorem witness_PacerExpiryHalts_following :
    let beyond (n : Node) : Prop := n.driveLive = true ∧ n.seq.test = some .ready ∧ n.active = true ∧
      n.staleUse .partnerTravel = false ∧ n.img.drive.followLimit < (n.followingError.natAbs : Int)
    let stays := driven .ready { count := -10000000, violLo := true, wanted := 5, gen := { st := .running } }
    let starts := driven .ready { pulses := 500001, wanted := 5 }
    let datum : Node := { node .ready with
      tsg := { pulses := 500001, wanted := 5, level := some 0 }
      pta := { subs := (Vector.replicate 4 {}).set 0 { hist := [entry 1 0 2000000] } } }
    (beyond stays ∧ stays.absolutePos = stays.img.drive.travelMin) ∧
      (beyond starts ∧ starts.tsg.gen.st = .stopped ∧ starts.tsg.gen.runDown = false) ∧
      (beyond datum ∧ datum.partnerAt datum.now = some 2000000 ∧
        ((datum.absolutePos - 2000000 - 0).natAbs : Int) = datum.img.drive.tiltLimit) := by decide

/-- A node in DATUM 0 whose partner stands at a position, and whose wanted velocity is as given. -/
def levelled (t : TestState) (stale : Bool) (level : Option Int) (at_ : Int) (x : Tsg) : Node :=
  { node t with
    tsg := { x with level := level }
    pta := { subs := (Vector.replicate 4 {}).set 0 { hist := [entry 1 0 at_], stale := stale } } }

/-- A level error beyond the tilt limit and at it; a raw trim at its bound and beyond it, with and without an OPEN
segment; a start from STOPPED with a stale partner. -/
theorem witness_LevelTrimmedAndGuarded :
    let go : Tsg := { wanted := 1000, commanded := 1000 }
    let n (at_ : Int) := levelled .ready false (some 0) at_ go
    let s (at_ : Int) : Node :=
      { inTest .running (seg .opened {}) with tsg := (n at_).tsg, pta := (n at_).pta }
    let lost := levelled .ready true none 0 { go with commanded := 0 }
    let live (n : Node) : Prop := n.driveLive = true ∧ n.active = true ∧ 0 ≤ n.img.drive.vMax ∧
      n.seq.test ≠ none ∧ n.seq.test ≠ some .halted
    let quiet (n : Node) : Prop := n.staleUse .partnerTravel = false ∧ n.tsg.pubCount + 1 ≠ n.travelEvery ∧
      n.img.drive.travelMin < n.absolutePos ∧ n.absolutePos < n.img.drive.travelMax ∧
      (n.followingError.natAbs : Int) ≤ n.img.drive.followLimit
    let raw (at_ : Int) : Int := roundDiv (((n at_).absolutePos - at_ - 0) * 1 * 65536) image.drive.levelSpan
    live (n 0) ∧ quiet (n 0) ∧ live (s 12502) ∧ quiet (s 12502) ∧ (s 12502).seq.openEntry ≠ none ∧
      (n (-2000001)).partnerAt (n 0).now = some (-2000001) ∧ (n 0).tsg.level = some 0 ∧
      image.drive.tiltLimit < (((n 0).absolutePos - -2000001 - 0).natAbs : Int) ∧
      (((n 0).absolutePos - -2000000 - 0).natAbs : Int) ≤ image.drive.tiltLimit ∧
      raw (-12500) = 8192 ∧ raw (-12501) = 8193 ∧ raw 12502 = -8193 ∧
      live lost ∧ lost.tsg.level = none ∧ lost.staleUse .partnerTravel = true ∧
      lost.tsg.gen.st = .stopped ∧ 0 < lost.img.drive.vMax ∧
      ((lost.tsg.wanted - lost.tsg.commanded).natAbs : Int) ≤ lost.img.drive.accel := by decide

/-- A start in DATUM under a stale partner whose sample is held, with the level error at the tilt limit; and the same
at rest, which starts nothing. -/
theorem witness_LevelTrimmedAndGuarded_lost :
    let n (w : Int) := levelled .ready true (some 0) 2000000 { wanted := w }
    let even (w : Int) : Prop := (((n w).absolutePos - 2000000 - 0).natAbs : Int) ≤ image.drive.tiltLimit
    (n 1000).driveLive = true ∧ (n 1000).active = true ∧ (n 1000).staleUse .partnerTravel = true ∧
      (n 1000).partnerAt (n 1000).now = some 2000000 ∧ (n 1000).tsg.gen.st = .stopped ∧ even 1000 ∧
      roundDiv ((1000 : Int) * (65536 - -8192)) 65536 = 1125 ∧
      roundDiv ((0 : Int) * (65536 - 0)) 65536 = 0 ∧ even 0 := by decide

theorem witness_GeneratorEvents :
    (driven .ready {}).driveLive = true ∧
      due (driven .ready {}).now (some 0) = true ∧
      (driven .ready { gen := { st := .running, stepHigh := true } }).driveLive = true := by decide

theorem witness_JogAcceptedAndStopped :
    let p : List Byte := [8, 0, 0x12, 0x4F, 0x80]
    let n := hearing (node .ready) .command p
    let v := int32At p 1
    (n.active = true ∧ n.roles.drive = true ∧ n.delivers (.command .jog) (frame .command p) ∧ v ≠ 0 ∧
      (v.natAbs : Int) = n.img.drive.vMax ∧ n.tsg.towardViolated v = false ∧ n.partner.isSome = true) ∧
      (hearing { node .ready with tsg := { jog := .jogging } } .command [9]).delivers (.command .stopJog)
        (frame .command [9]) := by
  unfold Node.delivers; decide

/-- R21, R42: where line A's change is accepted, the time already counted for line B goes on. -/
theorem test_second_edge_kept :
    let n : Node := { node .ready with
      pins := { encA := true, encB := true, arm1A := true, arm1B := true }
      filters := { encA := ⟨false, 4⟩, encB := ⟨false, 2⟩, arm1A := ⟨false, 4⟩, arm1B := ⟨false, 3⟩ } }
    (∃ m, exec (.encoderEvent true false) ⟨n, []⟩ = .next ⟨m, []⟩ ∧ m.filters.encB = ⟨false, 2⟩ ∧
      m.pins.encB = true ∧ m.tsg.count = 1) ∧
    ∃ m, exec (.armEvent .one true false) ⟨n, []⟩ = .next ⟨m, []⟩ ∧ m.filters.arm1B = ⟨false, 3⟩ ∧
      m.pins.arm1B = true ∧ m.exh.arm1.count = 1 :=
  ⟨⟨_, rfl, by decide⟩, ⟨_, rfl, by decide⟩⟩

/-! ### Witnesses: extensometer -/

/-- A node with the arms closed and the extensometer handler as given. -/
def withArms (t : TestState) (x : Exh) : Node :=
  { node t with pins := { arm1Closed := true, arm2Closed := true }, exh := x }

/-- The slip example of 3.4 for either arm, and two changes that differ by the threshold alone. -/
theorem witness_ArmReadingKeptOrCorrected :
    let n (a b : Int) := withArms .ready { arm1 := ⟨a, 0, false⟩, arm2 := ⟨b, 0, false⟩, st := .attached
                                           prev := some ⟨0, 0, true, true⟩ }
    let el (x : ArmState) : Int := clamp (-2000000000) 2000000000 ((x.count - x.ref) * image.drive.armScale)
    let diff (n : Node) : Int := (el n.exh.arm1 - el n.exh.arm2).natAbs
    let ok (n : Node) : Prop := n.extLive = true ∧ n.pairOpen = false ∧ n.exh.pubCount + 1 ≠ n.strainEvery
    ok (n 8 1060) ∧ image.control.slipThreshold < diff (n 8 1060) ∧
      (el ⟨8, 0, false⟩).natAbs < (el ⟨1060, 0, false⟩).natAbs ∧
      ok (n 1060 8) ∧ image.control.slipThreshold < diff (n 1060 8) ∧
      ok (n 400 0) ∧ diff (n 400 0) = image.control.slipThreshold ∧ ok (withArms .ready {}) := by decide

/-- The usual reading with no arm closed: DETACHED or RELEASED, with ARM-RELEASE low. -/
theorem witness_ArmReadingKeptOrCorrected_open :
    let n (s : ExtState) : Node := { node .ready with exh := { st := s } }
    let ok (n : Node) : Prop := n.extLive = true ∧ n.pairOpen = true ∧ n.exh.st ≠ .releasing ∧
      n.exh.releaseOut = false ∧ n.exh.pubCount + 1 ≠ n.strainEvery
    ok (n .detached) ∧ ok (n .released) := by decide

/-- The measured sample, the derived one with every part and with one absent, and a history that teaches a ratio, at
its lower bound and below it. -/
theorem witness_ReadingFormsTheStrainSample :
    let n (s : ExtState) := withArms .ready { st := s, pubCount := 3 }
    let ok (n : Node) : Prop := n.extLive = true ∧ n.exh.pubCount + 1 = n.strainEvery
    let measured (n : Node) : Prop := n.pairOpen = false ∧ n.slipNow = none ∧ n.exh.arm1.fault = false ∧
      n.exh.arm2.fault = false ∧ n.active = true
    let r (k : Option Int) : Node := { n .released with
      exh := { (n .released).exh with snap := ⟨some 9, some 5, some 3⟩, k := k }
      lc := { hist := [entry 1 0 40] }, tsg := { hist := [entry 1 0 100] }, datums := { own := some 10 } }
    (ok (n .attached) ∧ measured (n .attached)) ∧ (ok (n .detached) ∧ measured (n .detached)) ∧
      ok (r (some 65536)) ∧ (r (some 65536)).travelNow = some 90 ∧ (r (some 65536)).latestForce = some 40 ∧
      (r (some 65536)).exh.st = .released ∧ ok (r none) ∧ (r none).exh.k = none := by decide

theorem witness_ReadingFormsTheStrainSample_learning :
    let x (t v : Nat) : StrainEntry := ⟨entry 1 (BitVec.ofNat 32 t) 0, v⟩
    let n (rise : Nat) : Node := { inTest .running (seg .opened {}) with
      exh := { st := .attached, hist := x 0 0 :: (List.replicate 6 (x 5 0) ++ [x 10 rise]) }
      lc := { hist := [entry 1 0 40, entry 2 10 40] }, tsg := { hist := [entry 1 0 0, entry 2 10 65536] }
      datums := { own := some 0 } }
    (n 9).exh.st = .attached ∧ (n 9).seq.test = some .running ∧ (n 9).exh.hist.length = 8 ∧
      (n 9).travelBracketed 0 = some 0 ∧ (n 9).travelBracketed 10 = some 65536 ∧
      answerBracketed (n 9).loadHist 0 = some 40 ∧ answerBracketed (n 9).loadHist 10 = some 40 ∧
      roundDiv (65536 * ((4096 : Int) - 0)) 65536 = 4096 ∧ roundDiv (65536 * ((4095 : Int) - 0)) 65536 = 4095 ∧
      (n 9).travelBracketed 11 = none := by decide

/-- Travel bracketed by one source and by two, by one of two alone, and with no datum. -/
theorem witness_ReadingFormsTheStrainSample_bracketed :
    let n (d e : Option Int) (h : List HistEntry) : Node := { node .running with
      tsg := { hist := [entry 1 0 0, entry 2 10 100] }
      datums := { own := d, subs := #v[e, none, none, none] }
      pta := { subs := (Vector.replicate 4 {}).set 0 { hist := h } } }
    let both := [entry 1 0 200, entry 2 10 300]
    (n (some 0) none []).travelBracketed 5 = some 50 ∧ (n (some 0) (some 0) both).travelBracketed 5 = some 150 ∧
      (n (some 0) (some 0) (both.take 1)).travelBracketed 5 = none ∧
      (n none none both).travelBracketed 5 = none := by decide

/-- One arm faulted, either, and both; RELEASING; a slip of arm 1 found at the publish point; a value below the bound
of the disagreement and at it; both inputs open with the handler RELEASING and DETACHED. -/
theorem witness_ReadingFormsTheStrainSample_arms :
    let n (s : ExtState) (f1 f2 : Bool) := withArms .ready
      { st := s, pubCount := 3, arm1 := ⟨10, 0, f1⟩, arm2 := ⟨10, 0, f2⟩ }
    let ok (n : Node) : Prop := n.extLive = true ∧ n.exh.pubCount + 1 = n.strainEvery ∧ n.pairOpen = false ∧
      n.exh.st ≠ .released
    let slip := withArms .ready { st := .attached, pubCount := 3, arm1 := ⟨1060, 0, false⟩
                                  arm2 := ⟨8, 0, false⟩, prev := some ⟨0, 0, true, true⟩ }
    let apart (s : ExtState) : Node := { node .ready with exh := { st := s, releaseOut := true } }
    let value (k : Int) : Int := roundDiv (k * 1000000000) 50000000
    (ok (n .attached true false) ∧ ok (n .attached false true) ∧ ok (n .attached true true) ∧
      ok (n .releasing false false)) ∧
      (ok slip ∧ slip.slipNow = some true) ∧
      (value 249999 < 5000000 ∧ value 250000 = 5000000) ∧
      (apart .releasing).extLive = true ∧ (apart .releasing).pairOpen = true ∧
      (apart .detached).pairOpen = true ∧ (apart .detached).exh.st ≠ .releasing := by decide

theorem witness_ArmClosedInputsJudged :
    (node .ready).extLive = true ∧ (node .running).testInProgress = true ∧
      (node .running).extLive = true := by decide

/-- R49: both inputs open in a test. The snapshot is of the newest measured sample, not of the derived one after it,
and of nothing where there is none. -/
theorem test_opening_snapshot :
    let x (t : Nat) (derived : Bool) : StrainEntry :=
      ⟨{ entry 1 (BitVec.ofNat 32 t) 9 with flags := { derived := derived } }, t⟩
    let n (h : List StrainEntry) : Node :=
      { withArms .running { st := .attached, hist := h } with lc := { hist := [entry 1 5 40] } }
    (∃ m, exec (.armClosedChange false false) ⟨n [x 5 false, x 6 true], []⟩ = .next ⟨m, []⟩ ∧
      m.exh.snap = ⟨some 5, none, some 40⟩ ∧ m.exh.unplanned = true) ∧
    ∃ m, exec (.armClosedChange false false) ⟨n [], []⟩ = .next ⟨m, []⟩ ∧ m.exh.snap = {} :=
  ⟨⟨_, rfl, by decide⟩, ⟨_, rfl, by decide⟩⟩

/-- A BREAK; the two criteria of a planned release, each at its bound and one beside it; the timeout. -/
theorem witness_ReleasesAndTheirTimeout :
    let a := withArms .running { st := .attached }
    let p (allowed : Bool) : Node := { inTest .running (seg .opened { releaseAllowed := allowed }) with
      seq := { (inTest .running (seg .opened { releaseAllowed := allowed })).seq with
        order := some { order with part3 := some ⟨300, 100000, 5000, 20, 0, 65536⟩ } }
      exh := { st := .attached, forceMax := 2150000 }, lc := { hist := [entry 1 0 2107000] } }
    let r (t : TestState) := withArms t { st := .releasing, releaseAt := some 0 }
    (a.extLive = true ∧ a.exh.st = .attached ∧ (node .running).exh.st ≠ .attached) ∧
      ((p true).exh.st = .attached ∧ (p true).testInProgress = true ∧
        (p true).part3 = some ⟨300, 100000, 5000, 20, 0, 65536⟩ ∧
        (p true).seq.openEntry = some (seg .opened { releaseAllowed := true }) ∧
        (p false).seq.openEntry = some (seg .opened { releaseAllowed := false }) ∧
        (5000 : Int) ≤ (entry 1 0 5000).value ∧ ¬(5000 : Int) ≤ (entry 1 0 4999).value ∧
        (p true).latestForce = some 2107000 ∧ roundDiv (2150000 * (1000 - 20)) 1000 = 2107000 ∧
        (100000 : Int) ≤ (p true).exh.forceMax) ∧
      (r .running).extLive = true ∧ (r .running).exh.st = .releasing ∧
      due (r .running).now (r .running).exh.releaseAt = true ∧ (r .halted).seq.test = some .halted ∧
      (r .halted).extLive = true := by decide

/-! ### Witnesses: bus -/

/-- A node whose frame bus controller is as given. -/
def onBus (b : Fbc) : Node := { node .ready with fbc := b }

theorem witness_ReceiverFollowsTheLine :
    (onBus {}).hears = true ∧ (onBus { receiver := .receiving }).hears = true ∧
      (onBus { receiver := .skipping }).hears = true := by decide

/-- A PRESENCE from a station, broadcast. -/
def presenceHeader (sender : Fin 16) : Header := ⟨3, 7, sender, 0, true, 5, 9, 1000⟩

theorem witness_ValidFrameIsQueuedOrOverruns :
    let p : List Byte := [1, 1, 1, 0, 0]
    let halt : Header := ⟨1, 1, 5, 0, true, 2, 9, 1000⟩
    let n := onBus { receiver := .receiving }
    n.hears = true ∧ judge (frameChars (presenceHeader 5) p) = .valid (presenceHeader 5) p ∧
      n.takenKind (presenceHeader 5) p = some .presence ∧
      judge (frameChars halt [13, 5]) = .valid halt [13, 5] ∧ n.takenKind halt [13, 5] = some .halt ∧
      n.takenKind ⟨3, 5, 5, 3, false, 5, 9, 1000⟩ p = none := by decide +kernel

theorem witness_OwnIdentityHeardSilences :
    let p : List Byte := [1, 1, 1, 0, 0]
    let n := onBus { receiver := .receiving }
    let silent : Node := { n with seq := { op := .silent, test := some .halted } }
    let faulty : Node := { n with
      sul := { image := { nodeId := 3, lineRate := 1, roles := 15 }, fault := some (.field, 7) }
      seq := { op := .configFault } }
    judge (frameChars (presenceHeader 3) p) = .valid (presenceHeader 3) p ∧ n.hears = true ∧
      silent.hears = true ∧ faulty.hears = true ∧ n.nodeId = 3 ∧ faulty.nodeId = 3 ∧
      n.seq.op = .active := by decide +kernel

/-- Station 3's gaps with and without a yield: 7 and 23, 43, 79. -/
theorem witness_AttemptStartTakesTheContender :
    let h := broadcastFrame .halt [1, 3]
    let s := broadcastFrame .sample (List.replicate 12 0)
    let b := broadcastFrame .presence [1, 1, 1, 0, 0]
    (onBus { idleCount := 7, haltSlot := some h }).contender = some (.haltSlot, h) ∧
      (onBus { idleCount := 23, haltSlot := some h, yields := ⟨true, false, false⟩ }).contender =
        some (.haltSlot, h) ∧
      (onBus { idleCount := 43, loadSlot := some ⟨s, 0⟩ }).contender = some (.loadSlot, s) ∧
      (onBus { idleCount := 79, fifo := [⟨b, 0⟩] }).contender = some (.fifo, b) := by decide

/-- HALT before BREAK before MARK; the earliest fill time, and the first of equal ones; a STATE filled before the front
entry came in, at its time, and after it. -/
theorem witness_AttemptStartTakesTheContender_choice :
    let m := broadcastFrame .mark [0]
    let s (t : Nat) : Slot := ⟨m, BitVec.ofNat 32 t⟩
    let u : Fbc := { haltSlot := some m, breakSlot := some m, markSlot := some m }
    let x : Fbc := { loadSlot := some (s 6), travelSlot := some (s 5), strainSlot := some (s 5) }
    let b (t : Nat) : Fbc := { stateSlot := some (s t), fifo := [s 5] }
    u.haltSlot = some m ∧ ({ u with haltSlot := none } : Fbc).breakSlot = some m ∧
      ({ u with haltSlot := none, breakSlot := none } : Fbc).markSlot = some m ∧
      (later (s 6).fill (s 5).fill = true ∧ later (s 5).fill (s 5).fill = false) ∧
      x.readySample = some (.travelSlot, m) ∧ later (s 5).fill (s 4).fill = true ∧
      (b 4).readyBulk = some (.stateSlot, m) ∧ (b 5).readyBulk = some (.fifo, m) ∧
      (b 6).readyBulk = some (.fifo, m) := by decide

/-- A PRESENCE on the line from a holder, after so many failed attempts. -/
def sending (x : Holder) (failed : Nat) : OnLine :=
  ⟨{ broadcastFrame .presence [1, 1, 1, 0, 0] with seq := some 0, failed := failed }, x,
    [0xC7, 0x30, 0x85], false⟩

theorem witness_AttemptEnds :
    (onBus { onLine := some (sending .fifo 0) }).fbc.onLine = some (sending .fifo 0) := by decide

/-- The first character and the last one wrong, by its bits and by its stop bit; a second and a third attempt, each
holder, its slot empty and filled meanwhile; the slots of R74 full and empty. -/
theorem witness_AttemptEnds_failed :
    let o (x : Holder) := sending x 1
    let holders : List Holder :=
      [.haltSlot, .breakSlot, .markSlot, .loadSlot, .travelSlot, .strainSlot, .stateSlot, .fifo]
    let m := broadcastFrame .mark [2, 0, 7, 0, 0, 0, 0]
    let b (x : Holder) : Fbc := { onLine := some (o x), haltSlot := some m, markSlot := some m
                                  loadSlot := some ⟨m, 0⟩, fifo := [⟨m, 0⟩] }
    (∀ x ∈ holders, (o x).noRetry = false ∧ (o x).frame.failed < 2 ∧ 0 < (o x).chars.length ∧
      2 < (o x).chars.length ∧ (b x).onLine = some (o x) ∧ (b x).markSlot = some m) ∧
      (⟨0, true⟩ : LineChar) ≠ ⟨(o .fifo).chars.getD 0 0, true⟩ ∧
      (⟨0x85, false⟩ : LineChar) ≠ ⟨(o .fifo).chars.getD 2 0, true⟩ ∧
      2 ≤ (sending .loadSlot 2).frame.failed ∧ ({ o .fifo with noRetry := true } : OnLine).noRetry = true ∧
      (b .fifo).haltSlot = some m ∧ ({} : Fbc).haltSlot = none ∧ ({} : Fbc).markSlot = none ∧
      ({} : Fbc).fifo = [] ∧ (directFrame .reply 5 [1]).kind = .reply ∧
      (onBus (b .fifo)).inService = true := by decide

/-- R72, R181: the third failed attempt of a PRESENCE, and that of a REPLY, bring one BUS update. -/
theorem test_discarded_frame_updates_bus :
    let n (f : TxFrame) : Node :=
      onBus { onLine := some ⟨{ f with seq := some 0, failed := 2 }, .fifo, [1], false⟩, fifo := [⟨f, 0⟩] }
    let m (f : TxFrame) : Node := (n f).attemptFailed ⟨{ f with seq := some 0, failed := 2 }, .fifo, [1], false⟩ false
    (m (broadcastFrame .presence [1])).hlm.bus.measure = 1 ∧ (m (directFrame .reply 5 [1])).hlm.bus.measure = 1 ∧
      (m (directFrame .reply 5 [1])).fbc.fifo = [] ∧ (m (directFrame .reply 5 [1])).fbc.collisions = 1 := by decide

theorem witness_YieldClearedPendingEnteredAndDiscarded :
    let n (k : Nat) := onBus { idleCount := k }
    let ok (n : Node) : Prop := n.hears = true ∧ n.seq.op ≠ .silent ∧ n.fbc.lineBusy = false
    let part := broadcastFrame .result []
    let pend (k : Nat) : Fbc :=
      { fifo := List.replicate k ⟨part, 0⟩, pendingResult := some [part, part, part], removal := true }
    let silent := hearing { node .halted with seq := { op := .silent, test := some .halted } } .command [1]
    ok (n 36) ∧ ok (n 72) ∧ ok (n 0) ∧ (pend 5).fifo.length + 3 ≤ 8 ∧ 8 < (pend 6).fifo.length + 3 ∧
      silent.delivers .silentDiscard (frame .command [1]) ∧ silent.fbc.urgentQ = [] := by
  unfold Node.delivers; decide

/-- Payloads of no byte and of 32 bytes. -/
theorem witness_CheckValueAndFrameRoundTrip :
    let h (k : Nat) : Header := ⟨3, 7, 5, 0, true, k, 9, 1000⟩
    (h 0).len = ([] : List Byte).length ∧ (h 32).len = (List.replicate 32 (0 : Byte)).length ∧
      (List.replicate 32 (0 : Byte)).length ≤ 32 := by decide

/-- A signed field at its bounds and beside them, read back; the bits of a SAMPLE's flags at either end of each byte. -/
theorem witness_CheckValueAndFrameRoundTrip_fields :
    [2147483647, -2147483648, -1].map (fun x => int32At (i32 x) 0) = [2147483647, -2147483648, -1] ∧
      nat32At (u32 4294967295) 0 = 4294967295 ∧ nat16At [1, 2] 0 = 258 ∧
      SampleFlags.bytes { held := true, releasing := true, derived := true, detached := true } = [5, 129] ∧
      SampleFlags.ofBytes 5 129 = { held := true, releasing := true, derived := true, detached := true } ∧
      samplePayload .load { held := true } 3 1 (-2) = [1, 0, 1, 3, 0, 0, 0, 1, 255, 255, 255, 254] ∧
      (node .running).statePayload = [2, 0, 0, 0, 0, 0, 0, 0, 0, 0] := by decide

/-! ### Witnesses: peer table -/

/-- A node that knows station 5 as given, with a fact of it handed over: sequence s, offset o. -/
def told (p : Peer) (s : Byte) (o : Time) : Node :=
  { node .ready with pta := { peers := (Vector.replicate 16 {}).set 5 p }
                     fbc := { facts := [⟨5, 2, 1, s, 0, o⟩] } }

/-- An offset 500 µs off is an inlier and 501 µs an outlier, the fourth of which re-seeds; the steps of the
sequence at their bounds are 0, 1, 2, 127, 128, 247 and 248. -/
theorem witness_HeaderFactsTaken :
    let known (k : Nat) : Peer := { offset := some 1000, offsetValid := true, outliers := k
                                    rxSeq := ⟨none, some 10, none⟩ }
    let n := told (known 0) 11 1500
    n.fbc.facts = [⟨5, 2, 1, 11, 0, 1500⟩] ∧ (n.peer 5).offset = some 1000 ∧
      (tdiff 1500 1000).natAbs = 500 ∧ 500 < (tdiff 1501 1000).natAbs ∧ (known 2).outliers ≠ 3 ∧
      (known 3).outliers = 3 ∧ ({} : Peer).offsetValid = false ∧ classOfCode 2 = some .sample ∧
      [(10 : Byte), 11, 12, 137, 138, 1, 2].map (fun s => (s - (10 : Byte)).toNat) =
        [0, 1, 2, 127, 128, 247, 248] := by decide

/-- A node that holds a TRAVEL sample of station 5, sequence z, and hears sequence 1 of it. -/
def sampled (z : Option Byte) : Node :=
  let p := samplePayload .travel {} 0 1000 77
  hearing { node .ready with pta := {
      peers := (Vector.replicate 16 {}).set 5 { offset := some 0, offsetValid := true }
      subs := (Vector.replicate 4 {}).set 0 { hist := (z.map fun z => entry z 900 5).toList } } }
    .sample p

theorem witness_SampleEnteredOrDropped :
    let f := frame .sample (samplePayload .travel {} 0 1000 77)
    let n := sampled (some 0)
    (n.delivers .sample f ∧ n.subOfSample f = some 0 ∧ f.payload.length = 12 ∧
      (n.peer f.header.sender).offset = some 0 ∧ (n.peer f.header.sender).offsetValid = true ∧
      (n.peer f.header.sender).reseedStamp = none ∧ newest? (n.sub 0).hist = some (entry 0 900 5)) ∧
      [(0 : Byte), 1, 130, 9, 10, 129].map (fun z => (f.header.seq - z).toNat) =
        [1, 0, 127, 248, 247, 128] ∧
      later (word32At f.payload 4 + 0) 900 = true ∧ later (word32At f.payload 4 + 0) 1000 = false ∧
      (newest? ((sampled none).sub 0).hist = none) := by
  unfold Node.delivers; decide

/-- Each use beside the node's own source and without it; a force that counts and one that is HELD; a datum that is
awaited and one that is not. -/
theorem witness_SampleEnteredOrDropped_consumers :
    let cfg (u : SubUse) (c : Channel) : Vector (Option SubCfg) 4 := #v[some ⟨5, c, u⟩, none, none, none]
    let n (r : Byte) (u : SubUse) (c : Channel) : Node := node' .running r (cfg u c)
    let awaits : Datums := { awaiting := #v[true, false, false, false] }
    (∀ r ∈ [(1 : Byte), 2], (n r .loadSource .load).subCfg 0 = some ⟨5, .load, .loadSource⟩) ∧
      (n 1 .loadSource .load).roles.load = true ∧ (n 4 .loadSource .load).roles.load = false ∧
      (n 4 .loadSource .load).roles.ext = true ∧ (n 2 .loadSource .load).roles.ext = false ∧
      (n 4 .strainSource .strain).roles.ext = true ∧ (n 2 .strainSource .strain).roles.ext = false ∧
      (n 2 .partnerTravel .travel).subCfg 0 = some ⟨5, .travel, .partnerTravel⟩ ∧
      (n 8 .otherTravel .travel).subCfg 0 = some ⟨5, .travel, .otherTravel⟩ ∧
      (n 4 .loadSource .load).testInProgress = true ∧ (entry 1 0 0).flags.held = false ∧
      ({ held := true } : SampleFlags).held = true ∧ awaits.awaiting[(0 : Fin 4)] = true ∧
      awaits.awaiting[(1 : Fin 4)] = false := by decide

theorem witness_PeerNoticesAndTimers :
    let p : List Byte := [1, 1, 1, 0, 0]
    let s : List Byte := [0, 0, 7, 0, 0, 0, 0, 0, 0, 0]
    (hearing (node .ready) .presence p).delivers .presence (frame .presence p) ∧ p.length = 5 ∧
      (hearing (node .ready) .state s).delivers .state (frame .state s) ∧ s.length = 10 ∧
      due (node .ready).now (some 0) = true := by
  unfold Node.delivers; decide

theorem witness_StalenessExpiryDelivered :
    let cfg (u : SubUse) (c : Channel) : Vector (Option SubCfg) 4 := #v[some ⟨5, c, u⟩, none, none, none]
    let n (t : TestState) (r : Byte) (u : SubUse) (c : Channel) : Node :=
      { node' t r (cfg u c) with pta := { subs := (Vector.replicate 4 {}).set 0 { staleAt := some 0 } } }
    let ok (n : Node) : Prop := n.inService = true ∧ due n.now (n.sub 0).staleAt = true
    (ok (n .running 2 .loadSource .load) ∧ (n .running 2 .loadSource .load).roles.drive = true ∧
      (n .running 2 .loadSource .load).testInProgress = true ∧
      (n .running 2 .loadSource .load).subOfUse .loadSource = some 0) ∧
    (ok (n .ready 3 .partnerTravel .travel) ∧ (n .ready 3 .partnerTravel .travel).roles.drive = true) ∧
    (ok (n .running 3 .strainSource .strain) ∧ (n .running 3 .strainSource .strain).roles.ext = false ∧
      (n .running 3 .strainSource .strain).subOfUse .strainSource = some 0) ∧
    ok (n .running 3 .otherTravel .travel) := by decide

/-! ### Witnesses: control, sequencer -/

/-- A time before the oldest entry, on it, between two, on the newest, after it, and beyond the 5,000 µs; one entry
alone. -/
theorem witness_HistoryAnswersAndRateEstimate :
    let a := entry 1 100 7
    let b := entry 2 1100 9
    let passed (x : HistEntry) (t : Time) : Prop := x.time ≠ t ∧ later x.time t = false
    later a.time 99 = true ∧ ¬passed a 100 ∧ passed a 101 ∧ later b.time 101 = true ∧ passed a 1099 ∧
      later b.time 1099 = true ∧ b.time = 1100 ∧ passed b 1101 ∧ passed a 7000 ∧ passed b 7000 ∧
      5000 < tdiff 7000 b.time ∧ 0 < tdiff b.time a.time := by decide

/-- A law at its window of three entries, one entry short of it, and an arrival that ends a STRAIN-RATE. -/
theorem witness_HistoryAnswersAndRateEstimate_law :
    let c : Cmu := { requested := .loadRate, window := 3, lock := some .acquiring }
    let h := [entry 1 0 5, entry 2 2000 6, entry 3 4000 7, entry 4 6000 8]
    let n (h : List HistEntry) : Node := { node .running with cmu := c, lc := { hist := h } }
    let s : Node := { node .running with cmu := { requested := .strainRate } }
    (n h).controlHist .loadRate = [entry 1 0 5] ++ entry 2 2000 6 :: ([entry 3 4000 7] ++ [entry 4 6000 8]) ∧
      (n h).cmu.window = [entry 3 4000 7].length + 2 ∧ (n h).estimate .loadRate = some 500 ∧
      ((n (h.drop 2)).controlHist .loadRate).length < c.window ∧ (n h).driveLive = true ∧
      (n h).cmu.requested = .loadRate ∧ (n h).cmu.lock ≠ none ∧ s.cmu.requested = .strainRate ∧
      ({ fault := true } : SampleFlags).fault = true ∧ s.driveLive = true := by decide

/-- A deviation at the band, one above it, and at twice the band and above. -/
theorem witness_EstimateUpdatesLockAndVelocity :
    let c : Cmu := { requested := .strainRate, target := 1000, lock := some .acquiring }
    let band : Int := 50
    c.rate = 1000 ∧ (50 : Int) * 1000 ≤ c.rate * band ∧ ¬(51 : Int) * 1000 ≤ c.rate * band ∧
      ¬(100 : Int) * 1000 > 2 * c.rate * band ∧ (101 : Int) * 1000 > 2 * c.rate * band ∧
      ({ c with inBand := 7 } : Cmu).inBand + 1 = image.control.lockCount ∧
      1 ≤ image.drive.vMin ∧ image.drive.vMin ≤ image.drive.vMax ∧ c.direction ≠ 0 := by decide

theorem witness_TimedRowsOfControlSegmentAndDrain :
    let timed := { seg .opened { endKind := .timeAtLeast, endValue := 5 } with elapsed := 4 }
    let n := inTest .running timed
    let next : Node := { n with
      seq := { n.seq with segs := n.seq.segs.set 1 (seg .loaded {}) }
      cmu := { lock := some .acquiring, lockAt := some 0 } }
    let late : Node := { n with cmu := { lateTimeout := true } }
    let d : Node := { node .ended with evl :=
      { record := { st := .collecting, endCause := some .byBreak }, closing := some 0, drainAt := some 0 } }
    (n.driveLive = true ∧ due n.now (some 0) = true ∧ n.seq.openEntry = some timed ∧
      timed.fields.endValue ≤ (timed.elapsed : Int) + 1 ∧ (3 : Int) + 1 < timed.fields.endValue ∧
      n.nextLoaded = none) ∧
      (next.nextLoaded = some 1 ∧ next.driveLive = true ∧ due next.now next.cmu.lockAt = true ∧
        next.seq.segs[(1 : Fin 32)].fields.endKind ≠ .yieldSeen) ∧
      (late.driveLive = true ∧ late.cmu.lateTimeout = true ∧ late.seq.openEntry = some timed) ∧
      (d.collecting = true ∧ d.evl.closing ≠ none ∧ due d.now d.evl.drainAt = true ∧ d.active = true ∧
        d.fbc.fifo.length ≤ 5) ∧
      (inTest .running (seg .closed {})).seq.openEntry = none := by decide

/-- A DRIVE node that opens LOAD-RATE at 1,000 on advance. It moves in the direction, against it, not at all, or has
HOLD established; its LOAD-SOURCE is as given; the ramp has reached the entry velocity or not. -/
theorem witness_ClosedModeRequestedEnteredAndLocked :
    let cfg : Vector (Option SubCfg) 4 := #v[some ⟨5, .load, .loadSource⟩, some ⟨5, .strain, .strainSource⟩, none, none]
    let f : SegFields := { mode := .loadRate, target := 1000, entryVel := 50, window := 3 }
    let n (stale : Bool) (w : Int) (est : Mode) : Node := { node' .running 2 cfg with
      tsg := { wanted := w, commanded := 50 }, cmu := { established := est, requested := .loadRate
                                                        entryStep := true, entryVel := 50 }
      pta := { subs := (Vector.replicate 4 {}).set 0 { stale := stale } } }
    f.mode.closed = true ∧ (n false 5 .crossheadRate).sourceUnfit .loadRate = false ∧
      (n true 5 .crossheadRate).sourceUnfit .loadRate = true ∧
      (n false 5 .crossheadRate).sourceUnfit .strainRate = false ∧
      0 < (n false 5 .crossheadRate).tsg.wanted * f.entryVel ∧ ¬0 < (n false 0 .strainRate).tsg.wanted * f.entryVel ∧
      ¬0 < (n false (-5) .loadRate).tsg.wanted * f.entryVel ∧ (n false 5 .hold).cmu.established = .hold ∧
      (n false 5 .hold).active = true ∧ (n false 5 .hold).driveLive = true ∧
      (n false 5 .hold).tsg.commanded = (n false 5 .hold).cmu.entryVel ∧
      ({ node .running with cmu := { requested := .loadRate, entryStep := true, entryVel := 9 } } :
        Node).tsg.commanded ≠ 9 := by decide

/-- R102, R103, R107: the direct path keeps the wanted velocity and enters LOAD-RATE with the force rate of 7.4's
area, 1,000 on 500,000. -/
theorem test_direct_entry :
    let n : Node := { inTest .running (seg .closed {}) with
      tsg := { wanted := 5 }, cmu := { established := .crossheadRate, requested := .crossheadRate } }
    let m := n.requestSegment { mode := .loadRate, target := 1000, entryVel := 50, window := 3 } true
    m.tsg.wanted = 5 ∧ m.cmu.established = .loadRate ∧ m.cmu.lock = some .acquiring ∧
      m.cmu.forceTarget = some 50000 ∧ m.cmu.lockAt = some 5000000 := by decide

/-- An estimate that locks, the first in its segment and a later one. -/
theorem witness_ClosedModeRequestedEnteredAndLocked_lock :
    let n (again : Bool) : Node := { inTest .running (seg .opened {}) with
      cmu := { requested := .strainRate, target := 1000, lock := some .acquiring, inBand := 7
               lockedInSeg := again } }
    (n false).cmu.lock = some .acquiring ∧ ((n false).applyEstimate .strainRate 1050).cmu.lock = some .locked ∧
      ((n false).applyEstimate .strainRate 1051).cmu.lock = some .acquiring ∧
      (n false).seq.openEntry = some (seg .opened {}) ∧
      ((n true).applyEstimate .strainRate 1050).cmu.lock = some .locked := by decide

/-- R108: an arrival whose pair first shows yield, and so opens a STRAIN-RATE segment on advance, is offered to the law
of the segment it finds, not to the law of the one it opens: the direct entry starts from the wanted velocity as it
stood. -/
theorem test_request_after_arrival :
    let x (t v : Nat) : StrainEntry := ⟨entry 1 (BitVec.ofNat 32 t) v, 0⟩
    let n : Node := { inTest .running (seg .opened { endKind := .yieldSeen }) with
      seq := { (inTest .running (seg .opened { endKind := .yieldSeen })).seq with
        segs := ((Vector.replicate 32 {}).set 0 (seg .opened { endKind := .yieldSeen })).set 1
          (seg .loaded { mode := .strainRate, target := 1000, entryVel := 50, window := 2 }) }
      tsg := { wanted := 5 }, cmu := { established := .crossheadRate, requested := .crossheadRate }
      exh := { hist := [x 0 0, x 2000 9] }
      evl := { record := { st := .collecting }, params := some ⟨500000, 5000, 20000, 100000, 300000, 2000000, 100, 500⟩
               queue := [⟨2000, 1000000, {}⟩], yield := { peak := some (30000, 200) } } }
    let m := n.consumeStrain (entry 1 2000 9)
    m.seq.cursor = 1 ∧ m.cmu.established = .strainRate ∧ m.tsg.wanted = 5 ∧ m.cmu.rm = none := by decide

/-- R108: an arrival at the local time of a direct entry sets nothing, and one a microsecond later is the law's. -/
theorem test_arrival_with_request :
    let n : Node := { inTest .running (seg .closed {}) with
      tsg := { wanted := 100000 }, cmu := { established := .crossheadRate, requested := .crossheadRate }
      lc := { hist := [entry 1 0 0, entry 2 2000 200] } }
    let m := n.requestSegment { mode := .loadRate, target := 1000, entryVel := 50, window := 2 } true
    let e := entry 2 2000 200
    m.cmu.lock = some .acquiring ∧ m.estimate .loadRate = some 100000 ∧ m.cmuArrival .loadRate e = m ∧
      m.countMicro.cmu.requestNow = false ∧ (m.countMicro.cmuArrival .loadRate e).tsg.wanted ≠ 100000 ∧
      (m.countMicro.cmuArrival .loadRate e).cmu.rm = some 100000 := by decide

/-- START of test 7 in ARMED, with the arms as given. -/
def starting (arms : Bool) (m : Mode) : Node :=
  hearing { inTest .armed (seg .loaded { mode := m }) with
    pins := { arm1Closed := arms, arm2Closed := arms } } .command [1, 0, 7]

theorem starting_mayStart (arms : Bool) (m : Mode) : (starting arms m).mayStart 7 := by
  refine ⟨⟨order, rfl, rfl, by decide, by decide, by decide⟩, rfl, fun _ => ⟨rfl, rfl⟩, rfl, fun _ => ?_⟩
  cases m <;> rfl

theorem witness_StartTaken :
    let n := starting true .hold
    let f := frame .command [1, 0, 7]
    n.delivers (.command .start) f ∧ n.active = true ∧ n.seq.test = some .armed ∧
      n.seq.order = some order ∧ nat16At f.payload 1 = 7 ∧ n.pairClosed = true ∧
      n.exh.releaseOut = false ∧ n.staleUse .loadSource = false := by
  unfold Node.delivers; decide

/-- START with a closed-mode entry 0 whose source is fit and unfit, and with a stale LOAD-SOURCE. -/
theorem witness_StartTaken_closed :
    let n := starting true .strainRate
    let derived : Node := { n with exh := { hist := [⟨{ entry 1 0 0 with flags := { derived := true } }, 0⟩] } }
    let lost : Node := { starting true .hold with
      sul := { image := { image with roles := 2, subs := #v[some ⟨5, .load, .loadSource⟩, none, none, none] } }
      pta := { subs := (Vector.replicate 4 {}).set 0 { stale := true } } }
    let f := frame .command [1, 0, 7]
    (n.delivers (.command .start) f ∧ n.seq.segs[(0 : Fin 32)].fields.mode.closed = true ∧
      n.sourceUnfit .strainRate = false ∧ n.staleUse .loadSource = false) ∧
      (derived.delivers (.command .start) f ∧ derived.sourceUnfit .strainRate = true ∧
        derived.staleUse .loadSource = false) ∧
      lost.delivers (.command .start) f ∧ lost.roles.drive = true ∧ lost.roles.ext = false ∧
      lost.active = true ∧ lost.seq.test = some .armed ∧ lost.seq.order = some order ∧
      lost.staleUse .loadSource = true ∧ lost.startChecks 7 = true := by
  unfold Node.delivers; decide

/-- START with a partner whose history is empty and with one sample of it, and without the DRIVE role; the two parts
whose parameters the evaluator copies. -/
theorem witness_StartTaken_level :
    let n := starting true .hold
    let held : Node := { n with pta := { subs := (Vector.replicate 4 {}).set 0 { hist := [entry 1 0 100] } } }
    (n.roles.drive = true ∧ n.subOfUse .partnerTravel = some 0 ∧ answerExtrapolate (n.sub 0).hist n.now = none) ∧
      (held.delivers (.command .start) (frame .command [1, 0, 7]) ∧
        answerExtrapolate (held.sub 0).hist held.now = some ⟨100, {}, false⟩) ∧
      n.roles.eval = true ∧ (node' .armed 1 image.subs).roles.drive = false ∧
      order.part1 = some ⟨500000, 50000000⟩ ∧ order.part2 = some ⟨5000, 20000, 100000, 300000, 2000000, 100, 0⟩ := by
  unfold Node.delivers; decide

/-- R122, R146: a STOP that the last sample found asserted keeps START out after CLEAR has released the watch. -/
theorem test_stop_held_over_clear :
    let n := hearing { starting true .hold with hlt := { stopPrev := true, stopFound := true } } .command [5]
    n.cleared.hlt.stopPrev = false ∧ n.cleared.hlt.stopFound = true ∧
      ({ starting true .hold with hlt := n.cleared.hlt } : Node).startChecks 7 = false := by decide

/-- In each test state each command that has none of its effect is delivered; a jog velocity 0, at v_max
and one above it. -/
theorem witness_CommandsHaltedRefusedOrIgnored :
    let at_ (t : TestState) (c : CommandCode) (p : List Byte) : Prop :=
      (hearing (node t) .command p).delivers (.command c) (frame .command p)
    (∀ t ∈ [TestState.ready, .armed, .running, .paused, .halted, .ended],
      at_ t .start [1, 0, 7] ∧ at_ t .pause [2] ∧ at_ t .resume [3] ∧ at_ t .abort [4] ∧ at_ t .clear [5] ∧
      at_ t .zero [6] ∧ at_ t .balance [7] ∧ at_ t .jog [8, 0, 0, 0, 0] ∧ at_ t .stopJog [9] ∧
      (hearing (node t) .command [11]).delivers .unknownCommand (frame .command [11])) ∧
      int32At [8, 0, 0x12, 0x4F, 0x80] 1 = image.drive.vMax ∧
      int32At [8, 0, 0x12, 0x4F, 0x81] 1 = image.drive.vMax + 1 := by
  unfold Node.delivers; decide

theorem witness_CommandsHaltedRefusedOrIgnored_start :
    let n := starting false .hold
    n.delivers (.command .start) (frame .command [1, 0, 7]) ∧ n.roles.ext = true ∧
      n.pairClosed = false ∧ (node .armed).seq.order = none := by
  unfold Node.delivers; decide

theorem witness_PauseAndResumeTaken :
    let r := hearing (inTest .paused (seg .opened { mode := .crossheadRate, target := 5 })) .command [3]
    (hearing (inTest .running (seg .opened {})) .command [2]).delivers (.command .pause)
      (frame .command [2]) ∧ r.delivers (.command .resume) (frame .command [3]) ∧
      r.seq.openEntry = some (seg .opened { mode := .crossheadRate, target := 5 }) ∧
      r.roles.drive = true ∧ r.cmu.fallback = false := by
  unfold Node.delivers; decide

/-- RESUME into a closed mode whose source is fit and unfit, and under the fallback mark. -/
theorem witness_PauseAndResumeTaken_closed :
    let n (h : List StrainEntry) (c : Cmu) : Node := hearing
      { inTest .paused (seg .opened { mode := .strainRate, entryVel := 9 }) with exh := { hist := h }, cmu := c }
      .command [3]
    let ok (n : Node) : Prop := n.delivers (.command .resume) (frame .command [3]) ∧ n.roles.drive = true ∧
      n.seq.openEntry = some (seg .opened { mode := .strainRate, entryVel := 9 })
    ok (n [] {}) ∧ (n [] {}).sourceUnfit .strainRate = false ∧
      ok (n [⟨{ entry 1 0 0 with flags := { fault := true } }, 0⟩] {}) ∧
      (n [⟨{ entry 1 0 0 with flags := { fault := true } }, 0⟩] {}).sourceUnfit .strainRate = true ∧
      ok (n [] { fallback := true, fallbackVel := some 4 }) := by
  unfold Node.delivers; decide

theorem witness_AbortAndClearTaken :
    let n (t : TestState) (p : List Byte) := hearing (inTest t (seg .opened {})) .command p
    (∀ t ∈ [TestState.armed, .running, .paused, .halted],
      (n t [4]).delivers (.command .abort) (frame .command [4])) ∧
      (n .halted [5]).delivers (.command .clear) (frame .command [5]) ∧
      (n .ended [5]).delivers (.command .clear) (frame .command [5]) := by
  unfold Node.delivers; decide

theorem witness_FrameResetTaken :
    let n := hearing (haltedNode .halted) .command [10]
    let fifo : List Slot := [⟨broadcastFrame .presence [1], 0⟩, ⟨broadcastFrame .presence [2], 0⟩]
    let b (x : Holder) : Fbc := { n.fbc with onLine := some (sending x 1), fifo := fifo }
    let at_ (x : Holder) : Node := { n with fbc := b x }
    n.delivers (.command .frameReset) (frame .command [10]) ∧ n.active = true ∧
      n.seq.test = some .halted ∧ n.fbc.onLine = none ∧
      (∀ x ∈ [Holder.fifo, .stateSlot], (at_ x).delivers (.command .frameReset) (frame .command [10])) ∧
      (∃ o, (at_ .fifo).fbc.onLine = some o ∧ o.holder = .fifo) ∧
      ¬∃ o, (at_ .stateSlot).fbc.onLine = some o ∧ o.holder = .fifo := by
  refine ⟨by unfold Node.delivers; decide, rfl, rfl, rfl, by unfold Node.delivers; decide, ⟨_, rfl, rfl⟩, ?_⟩
  rintro ⟨o, h, e⟩
  cases h
  cases e

/-- R75, R78: a STATE notice fills an empty slot now and keeps the fill time of a full one. -/
theorem witness_notified :
    let s : Slot := ⟨broadcastFrame .state [], 5⟩
    let n (slot : Option Slot) : Node :=
      hearing { inTest .running (seg .opened {}) with clk := { time := 9 }, fbc := { stateSlot := slot } } .command [4]
    (n none).active = true ∧ (n none).fbc.stateSlot = none ∧ (n (some s)).fbc.stateSlot = some s ∧
      ((n none).takeAbort (frame .command [4])).fbc.stateSlot = some { s with fill := 9 } ∧
      ((n (some s)).takeAbort (frame .command [4])).fbc.stateSlot = some s := by decide

/-- Part 1 of an order: its area at 1 and its gauge length at 10 mm, and an area of 0. -/
theorem witness_OrderPartTakenOrRefused :
    let p := [1, 0, 7] ++ u32 1 ++ u32 10000000
    let n := hearing (node .ready) .order p
    n.delivers .order (frame .order p) ∧ n.beforeTest = true ∧
      orderPartOf p = some (.one ⟨1, 10000000⟩) ∧ nat16At p 1 = 7 ∧
      orderPartOf ([1, 0, 7] ++ u32 0 ++ u32 10000000) = none ∧ (node .running).beforeTest = false := by
  unfold Node.delivers; decide

/-- Part 2 and part 3 completing the order, part 1 replaced in a complete one, and a part of another test in ARMED. -/
theorem witness_OrderPartTakenOrRefused_completing :
    let p1 := [1, 0, 7] ++ u32 1 ++ u32 10000000
    let p2 := [2, 0, 7] ++ u32 5000 ++ u32 20000 ++ u32 100000 ++ u32 300000 ++ u32 2000000 ++ u32 100 ++ u32 0
    let p3 := [3, 0, 7] ++ be16 300 ++ u32 100000 ++ u32 0 ++ be16 0 ++ u32 0 ++ u32 65536
    let n (t : TestState) (o : Order) (p : List Byte) : Node :=
      hearing { node t with seq := { op := .active, test := some t, order := some o } } .order p
    let ok (n : Node) (p : List Byte) : Prop := n.delivers .order (frame .order p) ∧ n.active = true ∧
      n.beforeTest = true ∧ n.extLive = true ∧ (orderPartOf p).isSome = true
    let completes (o : Order) (p : List Byte) : Bool := ((orderPartOf p).map fun x => (o.put x).complete) == some true
    (ok (n .ready { order with part2 := none } p2) p2 ∧ completes { order with part2 := none } p2 = true ∧
      ({ order with part2 := none } : Order).complete = false) ∧
      (ok (n .ready { order with part3 := none } p3) p3 ∧ completes { order with part3 := none } p3 = true) ∧
      (ok (n .armed order p1) p1 ∧ completes order p1 = true ∧ order.complete = true) ∧
      ok (n .armed { order with testId := 8 } p2) p2 ∧ ({ order with testId := 8 } : Order).testId ≠ nat16At p2 1 := by
  unfold Node.delivers; decide

/-- The first and the last value of every range of 7.2, and the values just outside it. -/
theorem witness_OrderPartTakenOrRefused_ranges :
    let ok (p : List Byte) : Bool := (orderPartOf p).isSome
    let p1 (area gauge : Nat) : Bool := ok ([1, 0, 7] ++ u32 area ++ u32 gauge)
    let p2 (lo hi eMin eMax offset drop span : Nat) : Bool :=
      ok ([2, 0, 7] ++ u32 lo ++ u32 hi ++ u32 eMin ++ u32 eMax ++ u32 offset ++ u32 drop ++ u32 span)
    let p3 (fraction minimum strain drop c k : Nat) : Bool :=
      ok ([3, 0, 7] ++ be16 fraction ++ u32 minimum ++ u32 strain ++ be16 drop ++ u32 c ++ u32 k)
    (p1 1 10000000 ∧ p1 100000000 1000000000 ∧ ¬p1 0 10000000 ∧ ¬p1 100000001 10000000 ∧ ¬p1 1 9999999 ∧
      ¬p1 1 1000000001) ∧
      (p2 0 1 1 1 100000 1 0 ∧ p2 9999999 10000000 1000000 1000000 10000000 100000 100000000 ∧
        ¬p2 1 1 1 1 100000 1 0 ∧ ¬p2 0 10000001 1 1 100000 1 0 ∧ ¬p2 0 1 0 1 100000 1 0 ∧ ¬p2 0 1 2 1 100000 1 0 ∧
        ¬p2 0 1 1 1000001 100000 1 0 ∧ ¬p2 0 1 1 1 99999 1 0 ∧ ¬p2 0 1 1 1 10000001 1 0 ∧
        ¬p2 0 1 1 1 100000 0 0 ∧ ¬p2 0 1 1 1 100000 100001 0 ∧ ¬p2 0 1 1 1 100000 1 100000001) ∧
      (p3 50 1 0 0 0 4096 ∧ p3 900 30000000 2000000000 999 1000000 65536 ∧ ¬p3 49 1 0 0 0 4096 ∧
        ¬p3 901 1 0 0 0 4096 ∧ ¬p3 50 0 0 0 0 4096 ∧ ¬p3 50 30000001 0 0 0 4096 ∧ ¬p3 50 1 2000000001 0 0 4096 ∧
        ¬p3 50 1 0 1000 0 4096 ∧ ¬p3 50 1 0 0 1000001 4096 ∧ ¬p3 50 1 0 0 0 4095 ∧ ¬p3 50 1 0 0 0 65537) ∧
      ¬ok [4, 0, 7] ∧ ¬ok ([1, 0, 7] ++ u32 1 ++ u32 10000000 ++ [0]) := by decide

/-- A SEGMENT of test 7 for an index, which holds until a break. -/
def segmentBytes (i : Byte) : List Byte :=
  [0, 7, i, 0] ++ i32 0 ++ i32 0 ++ [2, 7] ++ i32 0 ++ [1]

theorem witness_SegmentLoadedOrRefused :
    let n (t : TestState) (st : SegStatus) (p : List Byte) := hearing (inTest t (seg st {})) .segment p
    let ok (n : Node) (p : List Byte) : Prop := n.delivers .segment (frame .segment p)
    ok (n .armed .empty (segmentBytes 31)) (segmentBytes 31) ∧
      (segmentOf (segmentBytes 31)).map (·.1) = some 31 ∧
      (segmentOf (segmentBytes 0)).map (·.1) = some 0 ∧ segmentOf (segmentBytes 32) = none ∧
      (segmentBytes 0).length = 19 ∧ ok (n .running .opened (segmentBytes 0)) (segmentBytes 0) ∧
      (n .running .closed (segmentBytes 1)).starved = true ∧
      ok (n .running .closed (segmentBytes 1)) (segmentBytes 1) ∧
      (segmentOf (segmentBytes 1)).map (·.2.endKind) = some .breakOnly := by
  unfold Node.delivers; decide

/-- A SEGMENT with these fields is in range. -/
def segmentOk (index mode : Byte) (target vel : Int) (w kind : Byte) (value : Int) (flags : Byte) : Bool :=
  (segmentOf ([0, 7, index, mode] ++ i32 target ++ i32 vel ++ [w, kind] ++ i32 value ++ [flags])).isSome

/-- The first and the last index, window, target and entry velocity of 7.3, and the values just outside. -/
theorem witness_SegmentLoadedOrRefused_ranges :
    let index (i flags : Byte) : Bool := segmentOk i 0 0 0 2 7 0 flags
    let window (w : Byte) : Bool := segmentOk 0 0 0 0 w 7 0 2
    let moves (mode : Byte) (target vel : Int) : Bool := segmentOk 0 mode target vel 2 7 0 0
    (index 0 0 ∧ index 30 0 ∧ index 31 1 ∧ ¬index 31 0 ∧ ¬index 32 1) ∧
      (window 2 ∧ window 8 ∧ ¬window 1 ∧ ¬window 9) ∧
      (moves 1 4000000 0 ∧ moves 1 (-4000000) 0 ∧ ¬moves 1 4000001 0 ∧ ¬moves 1 (-4000001) 0 ∧ ¬moves 4 0 0) ∧
      ∀ m ∈ [(2 : Byte), 3], moves m 1 (-4000000) ∧ moves m 2000000000 4000000 ∧ ¬moves m 0 1 ∧
        ¬moves m 2000000001 1 ∧ ¬moves m 1 0 ∧ ¬moves m 1 4000001 ∧ ¬moves m 1 (-4000001) := by decide

/-- The first and the last end value of each end kind of 7.5, and the values just outside. -/
theorem witness_SegmentLoadedOrRefused_ends :
    let ends (kind : Byte) (value : Int) : Bool := segmentOk 0 0 0 0 2 kind value 0
    (∀ k ∈ [(1 : Byte), 3], ends k 2000000000 ∧ ends k (-2000000000) ∧ ¬ends k 2000000001 ∧
        ¬ends k (-2000000001)) ∧
      (ends 2 30000000 ∧ ends 2 (-30000000) ∧ ¬ends 2 30000001 ∧ ¬ends 2 (-30000001)) ∧
      (ends 4 1 ∧ ends 4 86400000 ∧ ¬ends 4 0 ∧ ¬ends 4 86400001) ∧
      (ends 6 1 ∧ ends 6 999 ∧ ¬ends 6 0 ∧ ¬ends 6 1000) ∧ ends 5 0 ∧ ends 7 0 ∧ ¬ends 0 0 ∧ ¬ends 8 0 := by decide

/-- A MARK of test 7 for an index. -/
def markBytes (i : Byte) : List Byte := [i, 0, 7, 0, 0, 3, 232]

theorem witness_MarkClosesOrSkips :
    let n (i : Byte) := hearing (inTest .running (seg .opened {})) .mark (markBytes i)
    let ok (i : Byte) : Prop := (n i).delivers .mark (frame .mark (markBytes i))
    ok 0 ∧ ok 1 ∧ ok 31 ∧ ok 32 ∧ (n 0).testInProgress = true ∧ (markBytes 0).length = 7 ∧
      nat16At (markBytes 0) 1 = (n 0).testId ∧ (n 0).seq.openEntry = some (seg .opened {}) ∧
      (n 0).nextLoaded = none ∧ (∀ i : Fin 32, (n 0).seq.segs[i].fields.last = false) ∧
      natAt (markBytes 32) 0 = 32 := by
  unfold Node.delivers; decide

/-- A MARK for index 2 that finds entry 0 OPEN with LAST and without, or CLOSED; on its way entry 1 with LAST, no LAST,
and entry 3 LOADED after the walk; and a MARK for index 31, after which no entry comes. -/
theorem witness_MarkClosesOrSkips_walk :
    let table (e f : Segment) : Vector Segment 32 :=
      (((Vector.replicate 32 {}).set 0 e).set 1 f).set 3 (seg .loaded {})
    let n (st : SegStatus) (last1 last2 : Bool) (i : Byte) : Node := hearing { node .running with
      seq := { op := .active, test := some .running, order := some order
               segs := table (seg st { last := last1 }) (seg .loaded { last := last2 }) } } .mark (markBytes i)
    let ok (n : Node) (i : Byte) : Prop := n.delivers .mark (frame .mark (markBytes i)) ∧
      n.testInProgress = true ∧ nat16At (markBytes i) 1 = n.testId ∧ n.seq.cursor.val < natAt (markBytes i) 0
    let early (n : Node) (k : Fin 32) : Bool := (List.finRange 32).any fun i =>
      decide (n.seq.cursor < i) && decide (i ≤ k) && n.seq.segs[i].fields.last
    (ok (n .opened true false 2) 2 ∧ (n .opened true false 2).seq.openEntry = some (seg .opened { last := true })) ∧
      (ok (n .opened false true 2) 2 ∧ (n .opened false true 2).seq.segs[(1 : Fin 32)].fields.last = true) ∧
      (ok (n .opened false false 2) 2 ∧ early (n .opened false false 2) 2 = false ∧
        (n .opened false false 2).seq.segs[(3 : Fin 32)].status = .loaded ∧
        (n .opened false false 2).seq.segs[(3 : Fin 32)].fields.endKind ≠ .yieldSeen) ∧
      (ok (n .closed false false 3) 3 ∧ (n .closed false false 3).starved = true ∧
        (n .closed false false 3).seq.segs[(4 : Fin 32)].status ≠ .loaded) ∧
      ok (n .closed false false 31) 31 ∧ early (n .closed false false 31) 31 = false := by
  unfold Node.delivers; decide

/-- R131: level with the OPEN entry, a MARK opens the next LOADED one, whose fields it keeps. -/
theorem witness_MarkClosesOrSkips_level :
    let n : Node := hearing { inTest .running (seg .opened {}) with
      seq := { op := .active, test := some .running, order := some order
               segs := ((Vector.replicate 32 {}).set 0 (seg .opened {})).set 1 (seg .loaded {}) } }
      .mark (markBytes 0)
    n.delivers .mark (frame .mark (markBytes 0)) ∧ n.nextLoaded = some 1 ∧
      n.seq.segs[(1 : Fin 32)].fields.endKind ≠ .yieldSeen ∧
      (hearing (inTest .running (seg .opened { last := true })) .mark (markBytes 0)).seq.openEntry =
        some (seg .opened { last := true }) := by
  unfold Node.delivers; decide

/-- An OPEN entry with every history answering and with none; a travel source with a datum and one without. -/
theorem witness_CloseRecordsTheOutcome :
    let n : Node := { inTest .running (seg .opened {}) with
      lc := { hist := [entry 1 0 40] }, exh := { hist := [⟨entry 1 0 9, 0⟩] }
      tsg := { hist := [entry 1 0 500] }, datums := { own := some 10 }
      pta := { subs := (Vector.replicate 4 {}).set 0 { hist := [entry 1 0 700] } } }
    n.seq.openEntry = some (seg .opened {}) ∧ (inTest .running (seg .closed {})).seq.openEntry = none ∧
      n.travelAt 5 = some 490 ∧
      ({ n with datums := { n.datums with subs := #v[some 0, none, none, none] } } : Node).travelAt 5 = some 595 ∧
      n.subOfUse .partnerTravel = some 0 ∧ n.subOfUse .loadSource = none ∧
      (inTest .running (seg .opened {})).travelAt 5 = none := by decide

/-- Each end kind at its bound and one beside it; LAST, a next LOADED entry, and none. -/
theorem witness_SegmentEndConditionsJudged :
    let n (last : Bool) (k : EndKind) (v : Int) : Node :=
      { inTest .running (seg .opened { endKind := k, endValue := v, last := last }) with
        lc := { fmax := 100000 }, tsg := { hist := [entry 1 0 500] }, datums := { own := some 0 } }
    let two (k : EndKind) : Node := { n false k 5 with
      seq := { (n false k 5).seq with segs := (n false k 5).seq.segs.set 1 (seg .loaded {}) } }
    let held : HistEntry := { entry 1 0 5 with flags := { held := true, fault := true } }
    (∀ k ∈ [EndKind.strainAtLeast, .forceAtLeast, .travelAtLeast], ∀ last ∈ [true, false],
      (n last k 5).seq.test = some .running ∧
        (n last k 5).seq.openEntry = some (seg .opened { endKind := k, endValue := 5, last := last }) ∧
        (n last k 5).nextLoaded = none ∧ (two k).nextLoaded = some 1 ∧ (two k).active = true ∧
        (two k).seq.segs[(1 : Fin 32)].fields.endKind ≠ .yieldSeen) ∧
      (5 : Int) ≤ (entry 1 0 5).value ∧ ¬(5 : Int) ≤ (entry 1 0 4).value ∧ held.flags.held = true ∧
      (n false .forceDrop 700).part3 = some ⟨300, 100000, 0, 0, 0, 65536⟩ ∧
      (n false .forceDrop 700).roles.load = true ∧ (100000 : Int) ≤ (n false .forceDrop 700).lc.fmax ∧
      (30000 : Int) ≤ roundDiv (100000 * (1000 - 700)) 1000 ∧
      ¬(30001 : Int) ≤ roundDiv (100000 * (1000 - 700)) 1000 ∧
      (n false .travelAtLeast 500).travelNow = some 500 ∧
      (node .paused).seq.test ≠ some .running := by decide

/-! ### Witnesses: evaluator -/

/-- A pair of a stress and a strain. -/
def pair (stress strain : Int) : Pair := ⟨0, 0, stress, strain, false, false, false, false⟩

/-- The yield drop met and missed by one; the plateau at its span and beyond it; the fit's window at both ends; 16
pairs and 15, a zero denominator and a modulus in range; the proof search with and without a pair judged. -/
theorem witness_PairFormedUpdatesTheRecord :
    let p : EvalParams := ⟨500000, 5000, 20000, 100000, 300000, 2000000, 100, 500⟩
    let seeking : Evl := { yield := { peak := some (30000, 200) } }
    let plateau : Evl :=
      { yield := { st := .plateau }, record := { values := { uys := some (30000, 200) } } }
    let fit (n : Int) : Fit := { n := n, sE := 16000, sS := 160000, sEE := 116000000, sES := 162000000 }
    let den (n : Int) : Int := n * (fit n).sEE - (fit n).sE * (fit n).sE
    let modulus : Int := roundDiv ((16 * (fit 16).sES - (fit 16).sE * (fit 16).sS) * 10000000) (den 16)
    let search : Evl := { proof := { st := .searching, prev := some (3, 100, 200) }
                          record := { values := { e := some 200000, epsInt := some 0 } } }
    let d (stress strain : Int) : Int := stress - roundDiv (200000 * (strain - 0 - p.offset)) 10000000
    (seeking.yield.st = .seeking ∧ (pair 29900 0).stress ≤ 30000 - p.yieldDrop ∧
      30000 - p.yieldDrop < (pair 29901 0).stress ∧ (30000 : Int) < (pair 30001 0).stress) ∧
      (plateau.record.values.uys = some (30000, 200) ∧ (700 : Int) ≤ 200 + p.transientSpan ∧
        (200 : Int) + p.transientSpan < 701) ∧
      (p.sigmaLo ≤ 5000 ∧ (20000 : Int) ≤ p.sigmaHi ∧ (4999 : Int) < p.sigmaLo ∧ p.sigmaHi < 20001 ∧
        p.sigmaLo ≤ p.sigmaHi) ∧
      ((fit 16).st = .fitOpen ∧ den 16 ≠ 0 ∧ p.eMin ≤ modulus ∧ modulus ≤ p.eMax ∧ (fit 15).n < 16 ∧
        (0 : Int) * 0 - 0 * 0 = 0) ∧
      (search.proof.st = .searching ∧ d 0 2000000 = 0 ∧ 0 < d 1 2000000 ∧
        ({} : Evl).proof.st ≠ .searching) := by decide

/-- A record that takes a sample, at its closing time, after it, and behind the queue's back; a queue of 15 and 16;
each answer of a round; and a report that finds a YIELD-SEEN entry open. -/
theorem witness_PairingAttemptAndYieldSeen :
    let p : EvalParams := ⟨500000, 5000, 20000, 100000, 300000, 2000000, 100, 500⟩
    let l (t : Time) : LoadEntry := ⟨t, 40, {}⟩
    let n (closing : Option Time) (queue : List LoadEntry) (h : List StrainEntry) : Node :=
      { inTest .running (seg .opened { endKind := .yieldSeen }) with
        exh := { hist := h }
        evl := { record := { st := .collecting }, params := some p, queue := queue, closing := closing
                 yield := { peak := some (30000, 200) } } }
    let at_ (n : Node) (t : Time) : Option Answer := (locate n.strainHist t).inside t
    let x (t : Time) (fault : Bool) : StrainEntry := ⟨{ entry 1 t 9 with flags := { fault := fault } }, 0⟩
    let early : Evl := (((n none [] []).evl.markStage (pair 20000 0)).maxStage (pair 20000 0)).yieldStage p
      (pair 20000 0)
    ((n none [] []).collecting = true ∧ later 100 100 = false ∧ later 101 100 = true ∧
      (List.replicate 15 (l 0)).length < 16 ∧ 16 ≤ (List.replicate 16 (l 0)).length ∧
      (node .running).collecting = false) ∧
      (at_ (n none [l 50] []) 50 = none ∧ at_ (n none [l 50] [x 40 false]) 50 = none ∧
        at_ (n none [l 50] [x 50 true]) 50 = some ⟨9, { fault := true }, false⟩ ∧
        at_ (n none [l 50] [x 60 false]) 50 = some ⟨9, {}, true⟩ ∧
        newest? (n none [] []).strainHist = none) ∧
      ((n none [l 50] []).evl.queue ≠ [] ∧ (n none [l 50] []).evl.closing = none ∧
        (n (some 9) [l 50] []).evl.closing ≠ none ∧ (n none [l 50] []).seq.test = some .running) ∧
      (n none [] []).evl.yieldReported = false ∧ early.record.values.uys.isSome = true ∧
      (n none [] []).seq.openEntry = some (seg .opened { endKind := .yieldSeen }) ∧
      (n none [] []).roles.eval = true := by decide

/-- R159, R165, R170: a pair whose own yield report closes the LAST entry passes its fit and break-scan stages, and
the record is FINAL at the end of the attempt. -/
theorem test_last_yield_pair_passes_every_stage :
    let last : SegFields := { endKind := .yieldSeen, last := true }
    let n : Node := { inTest .running (seg .opened last) with
      exh := { hist := [⟨entry 1 0 0, 0⟩, ⟨entry 2 2000 9, 0⟩] }
      evl := { record := { st := .collecting }, params := some ⟨500000, 5000, 20000, 100000, 300000, 2000000, 100, 500⟩
               queue := [⟨2000, 1000000, {}⟩], yield := { peak := some (30000, 200) } } }
    let m := n.pairingAttempt
    n.seq.openEntry = some (seg .opened last) ∧ last.last = true ∧ m.seq.test = some .ended ∧
      m.evl.record.st = .final ∧ m.evl.record.endCause = some .lastSegment ∧ m.evl.fit.n = 1 ∧
      m.evl.scan = [⟨20000, 9, false⟩] ∧ m.evl.queue = [] ∧ m.evl.closing = none := by decide

/-- An ending event that finds the record open, closing, and not COLLECTING, with an empty queue and with an entry; the
drain limit; a fit OPEN with 15 pairs, with 16 and the modulus in and out of range, REJECTED, ACCEPTED; after a BREAK,
equal drops, and no drop. -/
theorem witness_EvaluationEndsAndCompletes :
    let p (eMax : Int) : EvalParams := ⟨500000, 5000, 20000, 100000, eMax, 2000000, 100, 500⟩
    let fit (n : Int) : Fit := { n := n, sE := 16000, sS := 160000, sEE := 116000000, sES := 162000000 }
    let modulus : Int := roundDiv ((16 * 162000000 - 16000 * 160000) * 10000000) (16 * 116000000 - 16000 * 16000)
    let x (stress : Int) : ScanPoint := ⟨stress, stress, false⟩
    let n (closing : Option Time) (queue : List LoadEntry) : Node := { inTest .running (seg .opened {}) with
      evl := { record := { st := .collecting }, params := some (p 300000), closing := closing, queue := queue } }
    let e (eMax : Int) (f : Fit) : Evl := { params := some (p eMax), fit := f }
    let broken : Evl := { e 300000 { st := .accepted } with
      record := { endCause := some .byBreak, values := { e := some 200000, ts := some (9, 9, 9) } }
      scan := [x 5, x 3, x 4, x 2, x 2] }
    ((n none []).collecting = true ∧ (n none [⟨0, 0, {}⟩]).evl.queue ≠ [] ∧ (n (some 0) []).evl.closing ≠ none ∧
      (node .running).collecting = false) ∧
      ((fit 15).n < 16 ∧ 16 ≤ (fit 16).n ∧ 16 * (fit 16).sEE - (fit 16).sE * (fit 16).sE ≠ 0 ∧
        (p modulus).eMin ≤ modulus ∧ modulus ≤ (p modulus).eMax ∧ ¬modulus ≤ (p (modulus - 1)).eMax) ∧
      (broken.fit.st = .accepted ∧ broken.record.values.e = some 200000 ∧
        broken.scan = [] ++ x 5 :: x 3 :: [x 4, x 2, x 2] ∧
        broken.scan = [x 5, x 3] ++ x 4 :: x 2 :: [x 2] ∧
        broken.completed.record.values.fe = some (5 - roundDiv (5 * 10000000) 200000, false) ∧
        ({ broken with scan := [x 3] } : Evl).completed.record.values.fe = none) ∧
      (e 0 { st := .rejected }).fit.st = .rejected ∧ (e 0 { st := .noFit }).fit.st = .noFit := by decide

/-- A FIFO with three entries free and with two; a RESULT pending; a removal owed, with and without room for it. -/
theorem witness_ResultPartsSubmitted :
    let f := broadcastFrame .result [1]
    let b (k : Nat) (old : Option (List TxFrame)) (owed : Bool) : Fbc :=
      { fifo := List.replicate k ⟨f, 0⟩, pendingResult := old, removal := owed }
    (onBus (b 5 none false)).active = true ∧ (b 5 none false).fifo.length ≤ 5 ∧
      5 < (b 6 none false).fifo.length ∧ (b 5 (some [f, f, f]) false).pendingResult ≠ none ∧
      (b 5 (some [f, f, f]) true).fifo.length + [f, f, f].length ≤ 8 ∧
      8 < (b 6 (some [f, f, f]) true).fifo.length + [f, f, f].length ∧ faulty.active = false := by decide

/-! ### Witnesses: health, queries, invariants -/

theorem witness_HealthUpdateAndDegraded :
    State.reset.node.inService = false ∧ (node .ready).inService = true := by decide

/-- A query of a node is delivered so. -/
def asked (n : Node) (a : Arrival) (p : List Byte) : Prop := (hearing n .query p).delivers a (frame .query p)

theorem witness_QueriesAnswered_status :
    (∀ k ∈ ([1, 2, 3, 4] : List Byte),
      asked (node .ready) (.query .status) [1, 0, k] ∧ asked (node .ready) (.query .result) [3, 0, k] ∧
        asked faulty (.query .status) [1, 0, k]) ∧ (node .ready).active = true ∧
      (node .ready).fbc.removal = false ∧ faulty.seq.op = .configFault := by
  unfold asked Node.delivers; decide

/-- The bounds of each argument. -/
theorem witness_QueriesAnswered_arguments :
    (∀ k ∈ ([1, 2] : List Byte), asked (node .ready) (.query .segment) [2, 0, k] ∧
        asked (node .ready) (.query .segment) [2, 31, k] ∧ asked (node .ready) (.query .health) [4, 0, k]) ∧
      ∀ k ∈ ([1, 2, 3, 4, 5] : List Byte),
        asked (node .ready) (.query .peer) [5, 0, k] ∧ asked (node .ready) (.query .peer) [5, 15, k] := by
  unfold asked Node.delivers; decide

theorem witness_QueriesAnswered_refused :
    (asked (node .ready) .queryRefused [1, 0, 5] ∧ asked (node .ready) .queryRefused [2, 32, 1] ∧
      asked (node .ready) .queryRefused [5, 16, 1] ∧ asked (node .ready) .queryRefused [1, 0]) ∧
      asked faulty .queryRefused [1, 0, 5] ∧ asked faulty (.query .health) [4, 0, 1] := by
  unfold asked Node.delivers; decide

/-- A peer present and absent, with a STATE heard and none; a CLOSED entry and one that is not. -/
theorem witness_QueriesAnswered_pages :
    let view : StateView := ⟨2, 7, 0, 0, 0, 0, 0, 0, 0⟩
    let known := told { present := true, view := some view } 1 0
    let out : Outcome := ⟨.condition, 0, 9, 4, none, none, none⟩
    let closed := inTest .running { seg .closed {} with outcome := some out }
    (known.peer 5).present = true ∧ (known.peer 5).view = some view ∧ (known.peer 4).present = false ∧
      closed.seq.segs[(0 : Fin 32)].status = .closed ∧ closed.seq.segs[(0 : Fin 32)].outcome = some out ∧
      closed.seq.segs[(1 : Fin 32)].status ≠ .closed := by decide

theorem witness_QueriesAnswered_channels :
    (node .ready).matchSub 5 (pageChannel 4) = some 0 ∧ (node .ready).matchSub 5 (pageChannel 3) = none := by
  decide

/-- The small node has the invariants, and steps on. -/
theorem witness_EveryStepKeepsTheBounds :
    (node .ready).Bounded ∧ ∃ t, step ⟨node .ready, [.armReading]⟩ = .next t := by
  refine ⟨⟨?_, ?_, ?_, ?_, ⟨by decide, ?_⟩, ?_, ?_⟩, _, rfl⟩
  · unfold Fbc.bounded; decide
  · unfold Lc.bounded; decide
  · unfold Tsg.bounded; decide
  · unfold Exh.bounded; decide
  · unfold Peer.bounded; decide
  · unfold Evl.bounded; decide
  · intro a; cases a <;> exact ⟨by decide, by decide, by decide⟩

theorem witness_EveryStepKeepsTheHaltSafe :
    (node .ready).HaltSafe ∧ ∃ t, step ⟨node .ready, [.armReading]⟩ = .next t := by
  refine ⟨⟨fun h => ?_, fun _ h => ?_, ⟨fun h => ?_, fun h => ?_⟩, fun h => ?_⟩, _, rfl⟩
  · exact absurd h (by decide)
  · exact absurd h (by decide)
  · exact absurd h (by decide)
  · obtain ⟨_, h, _⟩ := h; cases h
  · exact absurd h (by decide)

/-- The cursor's entry OPEN in RUNNING, CLOSED in ENDED, and as before the test where HALTED came from ARMED. -/
theorem witness_EveryStepKeepsTheSegmentTable :
    let n := inTest .running (seg .opened {})
    n.HaltSafe ∧ n.seq.TableKept ∧ (inTest .ended (seg .closed {})).seq.TableKept ∧
      (inTest .halted (seg .loaded {})).seq.TableKept ∧ (node .ready).seq.TableKept ∧
      ∃ t, step ⟨n, [.armReading]⟩ = .next t := by
  refine ⟨⟨fun h => absurd h (by decide), fun _ h => absurd h (by decide),
    ⟨fun h => absurd h (by decide), fun ⟨_, h, _⟩ => by cases h⟩, fun h => absurd h (by decide)⟩,
    ?_, ?_, ?_, ?_, _, rfl⟩
  all_goals
    refine ⟨?_, ?_, ?_, ?_, ?_⟩ <;>
      (try simp only [Segment.fresh, beforeStart, underWay, isOver]) <;> decide

end Sys2Proof.Tests
end

section
/-! PROOFS. The bounds of buffers and counts hold along every step: a command is one operation on the node, and
each of these keeps the bounds by its lemma of Laws/Bounds. -/
namespace Sys2Proof.Proofs
open Sys2Proof Sys2Proof.Machine Sys2Proof.Laws

/-- A delivery row keeps the bounds where the block that takes the frame keeps them. -/
theorem exec_delivery_bounded {i : Instr} {a : Arrival} {take : Node → RxFrame → Node} {n : Node}
    {q : List Instr} (hi : exec i ⟨n, q⟩ = (⟨n, q⟩ : State).ran (n.deliver a take))
    (ht : ∀ m f, m.Bounded → (take m f).Bounded) (hn : n.Bounded) :
    ∃ m, exec i ⟨n, q⟩ = .next ⟨m, q⟩ ∧ m.Bounded :=
  ⟨_, hi, deliver_bounded n a take ht hn⟩

/-- Every command answers a node, with the queue as it stands, and that node is within the bounds. -/
theorem exec_bounded (i : Instr) (n : Node) (q : List Instr) (hn : n.Bounded) :
    ∃ m, exec i ⟨n, q⟩ = .next ⟨m, q⟩ ∧ m.Bounded := by
  cases i with
  | powerOn => exact ⟨_, rfl, startValues_bounded _ _⟩
  | resetAssert => exact ⟨_, rfl, startValues_bounded _ _⟩
  | resetRelease => exact ⟨_, rfl, startValues_bounded _ _⟩
  | imageReadComplete image => exact ⟨_, rfl, imageComplete_bounded n image hn⟩
  | conversionComplete c => exact ⟨_, rfl, conversion_bounded n c hn⟩
  | encoderEvent a b => exact ⟨_, rfl, encoderEvent_bounded n a b hn⟩
  | drivePacerExpiry lo hi => exact ⟨_, rfl, pacerExpiry_bounded n lo hi hn⟩
  | generatorUnderflow => exact ⟨_, rfl, genUnderflow_bounded n hn⟩
  | stepPulseEnd => exact ⟨_, rfl, genPulseEnd_bounded n hn⟩
  | runDownTimerExpiry => exact ⟨_, rfl, runDownTimer_bounded n hn⟩
  | armEvent arm a b => exact ⟨_, rfl, armEvent_bounded n arm a b hn⟩
  | armReading => exact ⟨_, rfl, armReading_bounded n hn⟩
  | armClosedChange x y => exact ⟨_, rfl, armClosedChange_bounded n x y hn⟩
  | releaseTimeoutExpiry => exact ⟨_, rfl, releaseTimer_bounded n hn⟩
  | frameReceived b => exact ⟨_, rfl, receive_bounded n b hn⟩
  | frameReceiveError e => exact ⟨_, rfl, receiveError_bounded n e hn⟩
  | headerFacts => exact ⟨_, rfl, factsArrive_bounded n hn⟩
  | attemptStart => exact ⟨_, rfl, attemptStart_bounded n hn⟩
  | attemptEnd b => exact ⟨_, rfl, attemptEnd_bounded n b hn⟩
  | yieldPendingClear c => exact ⟨_, rfl, windowPasses_bounded n c hn⟩
  | pendingResultEntry => exact ⟨_, rfl, pendingEntry_bounded n hn⟩
  | runStart => exact ⟨_, rfl, runStart_bounded n hn⟩
  | skippingEnd => exact ⟨_, rfl, skippingEnd_bounded n hn⟩
  | reseedTimerExpiry p => exact ⟨_, rfl, reseedTimer_bounded n p hn⟩
  | silenceTimerExpiry p => exact ⟨_, rfl, silenceTimer_bounded n p hn⟩
  | stalenessExpiry s => exact ⟨_, rfl, stalenessTimer_bounded n s hn⟩
  | lockTimerExpiry => exact ⟨_, rfl, lockTimer_bounded n hn⟩
  | stopInputSample b => exact ⟨_, rfl, stopSample_bounded n b hn⟩
  | segmentClockExpiry => exact ⟨_, rfl, segmentClock_bounded n hn⟩
  | drainLimitExpiry => exact ⟨_, rfl, drainTimer_bounded n hn⟩
  | sampleArrival => exact exec_delivery_bounded rfl takeSample_bounded hn
  | presence => exact exec_delivery_bounded rfl takePresence_bounded hn
  | stateNotice => exact exec_delivery_bounded rfl takeState_bounded hn
  | start => exact exec_delivery_bounded rfl takeStart_bounded hn
  | pause => exact exec_delivery_bounded rfl takePause_bounded hn
  | resume => exact exec_delivery_bounded rfl takeResume_bounded hn
  | abort => exact exec_delivery_bounded rfl takeAbort_bounded hn
  | clear => exact exec_delivery_bounded rfl takeClear_bounded hn
  | zero => exact exec_delivery_bounded rfl takeZero_bounded hn
  | balance => exact exec_delivery_bounded rfl takeBalance_bounded hn
  | jog => exact exec_delivery_bounded rfl takeJog_bounded hn
  | stopJog => exact exec_delivery_bounded rfl takeStopJog_bounded hn
  | frameReset => exact exec_delivery_bounded rfl takeFrameReset_bounded hn
  | unknownCommand => exact exec_delivery_bounded rfl takeUnknown_bounded hn
  | order => exact exec_delivery_bounded rfl takeOrder_bounded hn
  | segment => exact exec_delivery_bounded rfl takeSegment_bounded hn
  | queryStatus => exact exec_delivery_bounded rfl takeStatus_bounded hn
  | querySegment => exact exec_delivery_bounded rfl takeSegmentQuery_bounded hn
  | queryResult => exact exec_delivery_bounded rfl takeResultQuery_bounded hn
  | queryHealth => exact exec_delivery_bounded rfl takeHealthQuery_bounded hn
  | queryPeer => exact exec_delivery_bounded rfl takePeerQuery_bounded hn
  | queryRefused => exact exec_delivery_bounded rfl takeRefused_bounded hn
  | silentDiscard => exact exec_delivery_bounded (take := fun n _ => n) rfl (fun _ _ h => h) hn
  | markFrame => exact exec_delivery_bounded rfl takeMark_bounded hn
  | haltFrame => exact exec_delivery_bounded rfl takeHalt_bounded hn
  | breakFrame => exact exec_delivery_bounded rfl takeBreak_bounded hn

/-- A step on an empty queue keeps the bounds: an oscillator count, or nothing while RESET is held. -/
theorem tick_bounded (s : State) (hs : s.node.Bounded) : s.tick.node.Bounded := by
  unfold State.tick
  split
  · exact hs
  · exact oscillate_bounded s.node hs

/-- Settles O57: a step is a tick or the front command, and both keep the bounds. -/
theorem everyStepKeepsTheBounds : Obligations.EveryStepKeepsTheBounds := by
  rintro ⟨n, _ | ⟨i, rest⟩⟩ t hs ht
  · obtain rfl : State.tick ⟨n, []⟩ = t := by simpa [step] using ht
    exact tick_bounded _ hs
  · obtain ⟨m, hm, hb⟩ := exec_bounded i n rest hs
    obtain rfl : (⟨m, rest⟩ : State) = t := by simpa [step, hm] using ht
    exact hb

end Sys2Proof.Proofs
end

section
/-! PROOFS. One conversion of the load channel: the accepted code, autorange, the end of a zero, and the step of a
balance, each said once; then the conversions away from a publish point. -/
namespace Sys2Proof.Proofs
open Sys2Proof Sys2Proof.Machine Sys2Proof.Laws

/-! ### The command -/

/-- A conversion of a live load channel with a code in range is taken, and its code stands at the bridge. -/
theorem exec_conversionComplete {n m : Node} (q : List Instr) {c : Int} (live : n.lcLive = true)
    (lo : -8388607 ≤ c) (hi : c ≤ 8388607) (h : (n.setPins { n.pins with bridge := c }).convert c = m) :
    exec (.conversionComplete c) ⟨n, q⟩ = .next ⟨m, q⟩ := by
  have hw : within fullScale c = true := by simp [within, fullScale, lo, hi]
  simp [exec, execConversionComplete, ran_eq, Node.conversion, live, hw, h]

theorem inService_of_lcLive {n : Node} (h : n.lcLive = true) : n.inService = true := by
  simp only [Node.lcLive, Bool.and_eq_true] at h
  exact h.1

/-! ### The accepted code (R2, R11) -/

theorem multiplier_eq_pow (r : Fin 4) : multiplier r = 4 ^ r.val := by
  revert r; decide

/-- The load channel after a code has joined the accumulator and the codes of a zero in flight. -/
def joined (l : Lc) (c : Int) (now : Time) : Lc :=
  { l with
    zero := l.zero.map fun z => ⟨z.count + 1, z.sum + c * 4 ^ l.range.val⟩
    acc :=
      { sum := l.acc.sum + (c * 4 ^ l.range.val - l.tare), count := l.acc.count + 1, newest := now
        fullScale := l.acc.fullScale || (l.range == 3 && (c == 8388607 || c == -8388607)) } }

theorem accumulate_collect (l : Lc) (c : Int) (now : Time) :
    (l.accumulate c now).collect c = joined l c now := by
  simp [Lc.accumulate, Lc.collect, Lc.pretare, multiplier_eq_pow, joined, fullScale]

/-! ### Autorange (R7, R9) -/

/-- The code lies above 90 % of raw full scale, and there is a range up. -/
def stepsUp (l : Lc) (c : Int) : Prop := 7549746 < c.natAbs ∧ l.range.val < 3

/-- The code counts downward: before a test, under 15 % of raw full scale, and there is a range down. -/
def countsDown (l : Lc) (before : Bool) (c : Int) : Prop :=
  before = true ∧ l.range.val ≠ 0 ∧ c.natAbs < 1258291

theorem rangeUp_eq_some {r s : Fin 4} (h : r.val = s.val + 1) : rangeUp s = some r := by
  revert r s; decide

theorem rangeUp_eq_none {s : Fin 4} (h : ¬s.val < 3) : rangeUp s = none := by
  revert s; decide

theorem rangeDown_eq_some {r s : Fin 4} (h : r.val + 1 = s.val) : rangeDown s = some r := by
  revert r s; decide

theorem autorange_of_up {l : Lc} {c : Int} (before : Bool) {r : Fin 4} (up : stepsUp l c)
    (hr : r.val = l.range.val + 1) : l.autorange c before = l.changeRange r := by
  have hc : upThreshold < (c.natAbs : Int) := Int.ofNat_lt.mpr up.1
  simp only [Lc.autorange, decide_eq_true hc, rangeUp_eq_some hr]

theorem autorange_of_not_up {l : Lc} {c : Int} (before : Bool) (up : ¬stepsUp l c) :
    l.autorange c before = l.stepDown (l.countDown c before) := by
  by_cases hr : l.range.val < 3
  · have hc : ¬upThreshold < (c.natAbs : Int) :=
      fun h => up ⟨Int.ofNat_lt.mp h, hr⟩
    simp only [Lc.autorange, decide_eq_false hc]
  · simp [Lc.autorange, rangeUp_eq_none hr]

theorem countDown_of_low {l : Lc} {c : Int} {before : Bool} (low : countsDown l before c) :
    l.countDown c before = l.down + 1 := by
  obtain ⟨hb, hr, hc⟩ := low
  have hr' : l.range ≠ 0 := fun h => hr (by simp [h])
  have hc' : (c.natAbs : Int) < downThreshold := Int.ofNat_lt.mpr hc
  simp only [Lc.countDown, hb, bne_iff_ne.mpr hr', decide_eq_true hc', Bool.and_self, if_true]

theorem countDown_of_not_low {l : Lc} {c : Int} {before : Bool} (low : ¬countsDown l before c) :
    l.countDown c before = 0 := by
  simp only [Lc.countDown]
  rw [if_neg]
  intro h
  obtain ⟨h, hc⟩ := Bool.and_eq_true_iff.mp h
  obtain ⟨hb, hr⟩ := Bool.and_eq_true_iff.mp h
  exact low ⟨hb, fun h => bne_iff_ne.mp hr (Fin.ext h), Int.ofNat_lt.mp (of_decide_eq_true hc)⟩

theorem autorange_of_down {l : Lc} {c : Int} {before : Bool} {r : Fin 4} (up : ¬stepsUp l c)
    (low : countsDown l before c) (full : l.down + 1 = 64) (hr : r.val + 1 = l.range.val) :
    l.autorange c before = l.changeRange r := by
  rw [autorange_of_not_up before up, countDown_of_low low, full]
  simp [Lc.stepDown, downSteps, rangeDown_eq_some hr]

theorem stepDown_of_ne {l : Lc} {k : Nat} (h : k ≠ 64) : l.stepDown k = { l with down := k } := by
  simp [Lc.stepDown, downSteps, h]

theorem autorange_of_count {l : Lc} {c : Int} {before : Bool} (up : ¬stepsUp l c)
    (low : countsDown l before c) (short : l.down + 1 ≠ 64) :
    l.autorange c before = { l with down := l.down + 1 } := by
  rw [autorange_of_not_up before up, countDown_of_low low, stepDown_of_ne short]

theorem autorange_of_rest {l : Lc} {c : Int} {before : Bool} (up : ¬stepsUp l c)
    (low : ¬countsDown l before c) : l.autorange c before = { l with down := 0 } := by
  rw [autorange_of_not_up before up, countDown_of_not_low low, stepDown_of_ne (by decide)]

/-! ### The zero, and the accepted conversion (R7, R9, R12) -/

/-- The load channel after autorange, which acts where the image fixes no range. -/
def ranged (n : Node) (c : Int) (l : Lc) : Lc :=
  if n.img.load.fixedRange = none then l.autorange c n.beforeTest else l

theorem ranged_fixed {n : Node} {c : Int} {l : Lc} (h : n.img.load.fixedRange ≠ none) :
    ranged n c l = l := if_neg h

theorem ranged_auto {n : Node} {c : Int} {l : Lc} (h : n.img.load.fixedRange = none) :
    ranged n c l = l.autorange c n.beforeTest := if_pos h

theorem autorange_decim (l : Lc) (c : Int) (before : Bool) : (l.autorange c before).decim = l.decim := by
  have step (k : Nat) : (l.stepDown k).decim = l.decim := by
    unfold Lc.stepDown; split <;> rfl
  unfold Lc.autorange
  split
  · rfl
  · exact step _

theorem ranged_decim (n : Node) (c : Int) (l : Lc) : (ranged n c l).decim = l.decim := by
  unfold ranged
  split
  · exact autorange_decim l c _
  · rfl

/-- An accepted conversion is the zero's stage on the joined code, and then autorange. -/
theorem acceptConversion_of_zeroStage {n : Node} {c : Int} {l : Lc} {x : Seq} {h : Hlm}
    (hz : (n.setLc (joined n.lc c n.now)).zeroStage = { n with lc := l, seq := x, hlm := h })
    (hx : x.test = n.seq.test) :
    n.acceptConversion c = { n with lc := ranged n c l, seq := x, hlm := h } := by
  simp only [Node.acceptConversion, accumulate_collect, hz]
  cases hf : n.img.load.fixedRange with
  | some r => rw [ranged_fixed (by simp [hf])]
  | none =>
    rw [ranged_auto hf]
    simp [Node.setLc, Node.beforeTest, hx]

theorem acceptConversion_of_collecting {n : Node} {c : Int} (hk : codesOf n.lc.zero + 1 ≠ 16) :
    n.acceptConversion c = { n with lc := ranged n c (joined n.lc c n.now) } := by
  have hnew : (joined n.lc c n.now).newTare = none := by
    cases hz : n.lc.zero with
    | none => simp [Lc.newTare, joined, hz]
    | some z => simpa [Lc.newTare, joined, hz, zeroCodes, codesOf] using hk
  exact acceptConversion_of_zeroStage (x := n.seq) (h := n.hlm)
    (by simp [Node.zeroStage, hnew, Node.setLc]) rfl

/-- The tare that the sixteenth code of a zero gives. -/
def meanOfZero (n : Node) (c s : Int) : Int := roundDiv (s + c * 4 ^ n.lc.range.val) 16

theorem newTare_of_sixteenth {n : Node} {c s : Int} {k : Nat} (hz : n.lc.zero = some ⟨k, s⟩)
    (hk : k + 1 = 16) : (joined n.lc c n.now).newTare = some (meanOfZero n c s) := by
  simp [Lc.newTare, joined, hz, hk, zeroCodes, meanOfZero]

/-- The joined load channel with its tare set: the zero is over and the accumulator rebased (R12). -/
def tared (n : Node) (c z : Int) : Lc :=
  let l := joined n.lc c n.now
  { l with tare := z, zero := none, acc := { l.acc with sum := l.acc.sum - l.acc.count * (z - n.lc.tare) } }

theorem acceptConversion_of_tare {n : Node} {c s : Int} {k : Nat} (live : n.inService = true)
    (hz : n.lc.zero = some ⟨k, s⟩) (hk : k + 1 = 16)
    (limit : ((meanOfZero n c s).natAbs : Int) ≤ n.img.load.zeroLimit) :
    n.acceptConversion c = { n with
      lc := ranged n c (tared n c (meanOfZero n c s))
      hlm := { n.hlm with zeroDrift :=
        n.hlm.zeroDrift.updated .zeroDrift n.img (meanOfZero n c s - n.lc.tare).natAbs } } := by
  refine acceptConversion_of_zeroStage (x := n.seq) ?_ rfl
  simp only [Node.zeroStage, setLc_fields, newTare_of_sixteenth hz hk]
  exact (if_neg (Int.not_lt.mpr limit)).trans (if_pos live)

theorem acceptConversion_of_zeroLimit {n : Node} {c s : Int} {k : Nat}
    (hz : n.lc.zero = some ⟨k, s⟩) (hk : k + 1 = 16)
    (limit : n.img.load.zeroLimit < ((meanOfZero n c s).natAbs : Int)) :
    n.acceptConversion c = { n with
      lc := ranged n c { joined n.lc c n.now with zero := none }
      seq := { n.seq with refusal := some .zeroLimit } } := by
  refine acceptConversion_of_zeroStage (h := n.hlm) ?_ rfl
  simp only [Node.zeroStage, setLc_fields, newTare_of_sixteenth hz hk]
  exact if_pos limit

/-! ### A conversion away from a publish point -/

/-- Away from a publish point the decimation count goes on. -/
theorem publishStage_of_away {m : Node} (away : m.lc.decim + 1 ≠ m.loadEvery) :
    m.publishStage = { m with lc := { m.lc with decim := m.lc.decim + 1 } } := if_neg away

theorem convert_of_measure {n m : Node} {c : Int} (hm : n.measure c = (m, none)) :
    n.convert c = m.publishStage := by
  simp only [Node.convert, hm]

theorem convert_of_residue {n m : Node} {c residue : Int} (hm : n.measure c = (m, some residue)) :
    n.convert c = m.publishStage.endBalance residue := by
  simp only [Node.convert, hm]

theorem convert_of_away {n m : Node} {c : Int} (hm : n.measure c = (m, none))
    (away : m.lc.decim + 1 ≠ m.loadEvery) :
    n.convert c = { m with lc := { m.lc with decim := m.lc.decim + 1 } } :=
  (convert_of_measure hm).trans (publishStage_of_away away)

theorem measure_of_settling {n : Node} (c : Int) (hb : n.lc.balance = none) (hs : n.lc.settle ≠ 0) :
    n.measure c = ({ n with lc := { n.lc with settle := n.lc.settle - 1 } }, none) := by
  simp [Node.measure, hb, hs, Node.setLc, Lc.settleOne]

theorem measure_of_settled {n : Node} (c : Int) (hb : n.lc.balance = none) (hs : n.lc.settle = 0) :
    n.measure c = (n.acceptConversion c, none) := by
  simp [Node.measure, hb, hs]

/-- An accepted conversion away from a publish point, by what the acceptance makes of the node. -/
theorem convert_of_accepted {n : Node} {c : Int} {l : Lc} {x : Seq} {h : Hlm} (hb : n.lc.balance = none)
    (hs : n.lc.settle = 0) (away : n.lc.decim + 1 ≠ n.loadEvery) (hd : l.decim = n.lc.decim)
    (ha : n.acceptConversion c = { n with lc := l, seq := x, hlm := h }) :
    n.convert c = { n with lc := { l with decim := n.lc.decim + 1 }, seq := x, hlm := h } := by
  rw [convert_of_away ((measure_of_settled c hb hs).trans (by rw [ha])) (hd ▸ away)]
  simp only [hd]

/-- The command's answer for such a conversion. -/
theorem exec_conversion_accepted {n : Node} (q : List Instr) {c : Int} {l : Lc} {x : Seq} {h : Hlm}
    (live : n.lcLive = true) (lo : -8388607 ≤ c) (hi : c ≤ 8388607) (hb : n.lc.balance = none)
    (hs : n.lc.settle = 0) (away : n.lc.decim + 1 ≠ n.loadEvery) (hd : l.decim = n.lc.decim)
    (ha : (n.setPins { n.pins with bridge := c }).acceptConversion c =
      { n with pins := { n.pins with bridge := c }, lc := l, seq := x, hlm := h }) :
    exec (.conversionComplete c) ⟨n, q⟩ =
      .next ⟨{ n with pins := { n.pins with bridge := c }, lc := { l with decim := n.lc.decim + 1 }
                      seq := x, hlm := h }, q⟩ :=
  exec_conversionComplete q live lo hi
    (convert_of_accepted (n := n.setPins { n.pins with bridge := c }) hb hs away hd ha)

/-- Settles O6: a settling conversion only lowers the settle count; an accepted one joins its code, and then the
image's fixed range keeps the channel or autorange judges it by one of its four cases. -/
theorem conversionAcceptedRangedOrSettling : Obligations.ConversionAcceptedRangedOrSettling := by
  intro n q c live lo hi hb away
  refine ⟨fun hs => ?_, fun hs hk => ?_⟩
  · exact exec_conversionComplete q live lo hi
      (convert_of_away (measure_of_settling (n := n.setPins { n.pins with bridge := c }) c hb hs) away)
  -- the answer, by what autorange makes of the joined code
  have answer (l : Lc) (hl : ranged n c (joined n.lc c n.now) = l) (hd : l.decim = n.lc.decim) :
      exec (.conversionComplete c) ⟨n, q⟩ = .next ⟨{ n with
        pins := { n.pins with bridge := c }, lc := { l with decim := n.lc.decim + 1 } }, q⟩ := by
    refine exec_conversion_accepted q live lo hi hb hs away hd ?_
    rw [acceptConversion_of_collecting (n := n.setPins { n.pins with bridge := c }) hk, ← hl]
    rfl
  refine ⟨fun fixed => ?_, fun auto => ⟨fun r up hr => ?_, fun r up low full hr => ?_,
    fun up low short => ?_, fun up low => ?_⟩⟩
  · exact answer _ (ranged_fixed fixed) rfl
  · refine (answer _ ((ranged_auto auto).trans (autorange_of_up _ up hr)) rfl).trans ?_
    simp [joined, Lc.changeRange, emptyAcc, settleConversions, ZeroOp.restart, Function.comp_def]
  · refine (answer _ ((ranged_auto auto).trans (autorange_of_down up low full hr)) rfl).trans ?_
    simp [joined, Lc.changeRange, emptyAcc, settleConversions, ZeroOp.restart, Function.comp_def]
  · exact answer _ ((ranged_auto auto).trans (autorange_of_count up low short)) rfl
  · exact answer _ ((ranged_auto auto).trans (autorange_of_rest up low)) rfl

/-- Settles O10: the three ends of the zero's stage, each followed by autorange. -/
theorem sixteenthCodeEndsTheZero : Obligations.SixteenthCodeEndsTheZero := by
  intro n q c s k live lo hi hb hz hs away
  have inService := inService_of_lcLive live
  refine ⟨fun hk => ?_, fun hk limit => ?_, fun hk limit => ?_⟩
  · refine exec_conversion_accepted q live lo hi hb hs away (ranged_decim n c _) ?_
    rw [acceptConversion_of_collecting (n := n.setPins { n.pins with bridge := c })
      (by simpa [hz, codesOf] using hk)]
    simp [joined, hz, ranged, Node.setPins, Node.beforeTest]
  · refine exec_conversion_accepted q live lo hi hb hs away (ranged_decim n c _) ?_
    rw [acceptConversion_of_tare (n := n.setPins { n.pins with bridge := c }) inService hz hk limit]
    rfl
  · refine exec_conversion_accepted q live lo hi hb hs away (ranged_decim n c _) ?_
    rw [acceptConversion_of_zeroLimit (n := n.setPins { n.pins with bridge := c }) hz hk limit]
    rfl

end Sys2Proof.Proofs
end

section
/-! PROOFS. The conversions of a balance away from a publish point, the commands that begin a zero or a balance, and
the values after reset. -/
namespace Sys2Proof.Proofs
open Sys2Proof Sys2Proof.Machine Sys2Proof.Laws

/-! ### The step of a balance (R14, R15) -/

theorem measure_of_balance {n : Node} {c : Int} {bal : Balance} {l : Lc} {r : Option Int} (p : Pins)
    (hb : n.lc.balance = some bal) (hl : n.lc.balanceStep bal c = (l, r)) :
    (n.setPins p).measure c = ({ n with pins := p, lc := l }, r) := by
  simp [Node.measure, hb, hl, Node.setLc, Node.setPins]

theorem balanceStep_trial {l : Lc} {bal : Balance} {b done : Nat} {sum : Int} (c : Int)
    (hp : bal.phase = .trial b done sum) (h : done + 1 ≠ 12) : l.balanceStep bal c = ({ l with
      settle := l.settle - 1
      balance := some { bal with phase := .trial b (done + 1) (if done < 4 then sum else sum + c) } },
      none) := by
  have more : done + 1 ≠ trialConversions := h
  simp only [Lc.balanceStep, hp, Lc.trialStep, if_neg more]
  rfl

theorem balanceStep_nextBit {l : Lc} {bal : Balance} {b : Nat} {sum : Int} (c : Int)
    (hp : bal.phase = .trial (b + 1) 11 sum) : l.balanceStep bal c = ({ l with
      settle := l.settle - 1
      trim := (if 0 < sum + c then l.trim else l.trim &&& ~~~(BitVec.ofNat 9 (2 ^ (b + 1)))) |||
        BitVec.ofNat 9 (2 ^ b)
      balance := some { bal with phase := .trial b 0 0 } }, none) := by
  simp [Lc.balanceStep, hp, Lc.trialStep, trialConversions, Lc.settleOne, trialSettle, Lc.endTrial,
    judgedTrim, bitMask]

theorem balanceStep_lastBit {l : Lc} {bal : Balance} {sum : Int} (c : Int)
    (hp : bal.phase = .trial 0 11 sum) : l.balanceStep bal c = ({ l with
      settle := 4, range := bal.heldRange
      trim := if 0 < sum + c then l.trim else l.trim &&& ~~~(1 : BitVec 9)
      balance := some { bal with phase := .restore (roundDiv (sum + c) 8) } }, none) := by
  simp [Lc.balanceStep, hp, Lc.trialStep, trialConversions, Lc.settleOne, trialSettle, Lc.endTrial,
    judgedTrim, bitMask, settleConversions]

theorem balanceStep_restore {l : Lc} {bal : Balance} {residue : Int} (c : Int)
    (hp : bal.phase = .restore residue) : l.balanceStep bal c =
      ({ l with settle := l.settle - 1 }, if l.settle ≤ 1 then some residue else none) := by
  simp [Lc.balanceStep, hp, Lc.settleOne]

/-- How a balance with this residue ends (R15). -/
def balanceRecord (n : Node) (residue : Int) : BalanceRecord :=
  ⟨if n.img.load.balanceLimit < (residue.natAbs : Int) then .failed else .done, some residue⟩

/-- The end of a balance: the record, and the residue's magnitude handed to the health monitor. -/
theorem endBalance_eq {n : Node} (residue : Int) (live : n.inService = true) :
    n.endBalance residue = { n with
      lc := { n.lc with balance := none, lastBalance := some (balanceRecord n residue) }
      hlm := { n.hlm with balanceResidue :=
        n.hlm.balanceResidue.updated .balanceResidue n.img residue.natAbs } } :=
  if_pos live

/-! ### Away from a publish point -/

theorem exec_conversion_balance_away {n : Node} (q : List Instr) {c : Int} {l : Lc} {bal : Balance}
    (live : n.lcLive = true) (lo : -8388607 ≤ c) (hi : c ≤ 8388607) (hb : n.lc.balance = some bal)
    (away : n.lc.decim + 1 ≠ n.loadEvery) (hl : n.lc.balanceStep bal c = (l, none))
    (hd : l.decim = n.lc.decim) : exec (.conversionComplete c) ⟨n, q⟩ =
      .next ⟨{ n with pins := { n.pins with bridge := c }, lc := { l with decim := n.lc.decim + 1 } }, q⟩ := by
  refine exec_conversionComplete q live lo hi ?_
  rw [convert_of_away (measure_of_balance _ hb hl) (hd ▸ away)]
  simp only [hd]

/-- Settles O11: each case is one equation of the balance's step, and the last hands the residue on. -/
theorem balanceConversions : Obligations.BalanceConversions := by
  intro n q c bal live lo hi hb away
  have answer (l : Lc) := exec_conversion_balance_away (l := l) q live lo hi hb away
  refine ⟨fun b done sum hp h => ?_, fun b sum hp => ?_, fun sum hp => ?_, fun residue hp h => ?_,
    fun residue hp h => ?_⟩
  · exact answer _ (balanceStep_trial c hp h) rfl
  · exact answer _ (balanceStep_nextBit c hp) rfl
  · exact answer _ (balanceStep_lastBit c hp) rfl
  · refine answer { n.lc with settle := n.lc.settle - 1 } ?_ rfl
    rw [balanceStep_restore c hp, if_neg (by omega)]
  · have hl : n.lc.balanceStep bal c = ({ n.lc with settle := 0 }, some residue) := by
      rw [balanceStep_restore c hp, if_pos h, Nat.sub_eq_zero_of_le h]
    refine exec_conversionComplete q live lo hi ((convert_of_residue (measure_of_balance _ hb hl)).trans ?_)
    rw [publishStage_of_away (by exact away), endBalance_eq residue (by exact inService_of_lcLive live)]
    rfl

/-! ### Deliveries -/

/-- A delivery row answers what the block makes of the frame that is next, taken from its queue. -/
theorem exec_of_delivers {i : Instr} {a : Arrival} {take : Node → RxFrame → Node} {n : Node} {f : RxFrame}
    (q : List Instr) (hi : exec i ⟨n, q⟩ = (⟨n, q⟩ : State).ran (n.deliver a take)) (h : n.delivers a f) :
    exec i ⟨n, q⟩ = .next ⟨take n.popped f, q⟩ := by
  rw [hi, deliver_of_delivers n a f take h, ran_eq]

/-- What a node reads of its blocks beside the receive queues stands when a frame is taken. -/
@[simp] theorem popped_reads (n : Node) : n.popped.active = n.active ∧ n.popped.roles = n.roles ∧
    n.popped.inService = n.inService ∧ n.popped.beforeTest = n.beforeTest ∧ n.popped.lcBusy = n.lcBusy ∧
    n.popped.driveLive = n.driveLive ∧ n.popped.extLive = n.extLive := by
  refine ⟨?_, ?_, ?_, ?_, ?_, ?_, ?_⟩ <;> rfl

/-! ### ZERO and BALANCE (R11, R14, R47) -/

theorem lcBusy_eq_false_iff (n : Node) : n.lcBusy = false ↔
    (n.roles.load = true → n.lc.balance = none ∧ n.lc.zero = none) := by
  simp [Node.lcBusy]

theorem inService_of_beforeTest {n : Node} (h : n.beforeTest = true) : n.inService = true := by
  cases ht : n.seq.test with
  | none => simp [Node.beforeTest, ht] at h
  | some t => simp [Node.inService, ht]

/-- An accepted ZERO, as one record. -/
theorem startZero_eq {n : Node} (live : n.inService = true) : n.startZero = { n with
    lc := if n.roles.load then { n.lc with zero := some ⟨0, 0⟩ } else n.lc
    exh := if n.roles.ext then { n.exh with
        arm1 := ⟨n.exh.arm1.count, n.exh.arm1.count, false⟩
        arm2 := ⟨n.exh.arm2.count, n.exh.arm2.count, false⟩ }
      else n.exh } := by
  have zero (m : Node) (hm : m.inService = true) : m.zeroArms = { m with
      exh := if m.roles.ext then { m.exh with
          arm1 := ⟨m.exh.arm1.count, m.exh.arm1.count, false⟩
          arm2 := ⟨m.exh.arm2.count, m.exh.arm2.count, false⟩ }
        else m.exh } := by
    cases hx : m.roles.ext <;> simp [Node.zeroArms, Node.extLive, hm, hx, Node.setExh, ArmState.zeroed]
  cases hl : n.roles.load with
  | true =>
    simp only [Node.startZero, hl, if_true]
    exact zero (n.setLc { n.lc with zero := some ⟨0, 0⟩ }) live
  | false =>
    simp only [Node.startZero, hl]
    exact zero n live

theorem takeZero_of_accepted {n : Node} (f : RxFrame) (ha : n.active = true)
    (role : n.roles.load = true ∨ n.roles.ext = true) (hb : n.beforeTest = true)
    (free : n.lcBusy = false) : n.takeZero f = n.startZero := by
  rcases role with h | h <;> simp [Node.takeZero, ha, hb, free, h]

theorem takeBalance_of_accepted {n : Node} (f : RxFrame) (ha : n.active = true)
    (role : n.roles.load = true) (hb : n.beforeTest = true) (free : n.lcBusy = false) :
    n.takeBalance f = n.setLc n.lc.startBalance := by
  simp [Node.takeBalance, ha, role, hb, free]

/-- Settles O9: both commands pass their checks, and each accepted one is one record update. -/
theorem zeroAndBalanceAccepted : Obligations.ZeroAndBalanceAccepted := by
  intro n q f active before free
  have idle := (lcBusy_eq_false_iff n).mpr free
  refine ⟨fun hd role => ?_, fun hd role => ?_⟩
  · rw [exec_of_delivers q rfl hd, takeZero_of_accepted f (by simpa) (by simpa) (by simpa) (by simpa),
      startZero_eq (by simpa using inService_of_beforeTest before)]
    rfl
  · rw [exec_of_delivers q rfl hd, takeBalance_of_accepted f (by simpa) (by simpa) (by simpa) (by simpa)]
    rfl

/-! ### Reset and the starts (R186) -/

theorem powerOn_of_released {n : Node} (h : n.pins.resetPin = false) :
    n.powerOn = { State.reset.node with pins := n.pins } := by
  simp [Node.powerOn, startValues, h, State.reset]

theorem powerOn_of_asserted {n : Node} (h : n.pins.resetPin = true) : n.powerOn = { pins := n.pins } := by
  simp [Node.powerOn, startValues, h]

/-- Settles O3: the reset values are those of the blocks' records, and each start is `startValues`. -/
theorem resetAndStartValues : Obligations.ResetAndStartValues := by
  refine ⟨?_, fun n q => ⟨fun h => ?_, fun h => ?_, rfl, rfl⟩⟩
  · refine ⟨rfl, rfl, rfl, ?_, ?_, ?_, ?_, ⟨?_, ?_⟩, ?_, ⟨rfl, rfl, rfl, ?_, rfl, rfl, rfl, rfl, rfl, rfl⟩, ?_, ?_, ?_⟩
    · decide
    · decide
    · decide
    · decide
    · decide
    · decide
    · decide
    · decide
    · decide
    · decide
    · intro a; cases a <;> decide
  · show (⟨n, q⟩ : State).ran n.powerOn = _
    rw [powerOn_of_released h, ran_eq]
  · show (⟨n, q⟩ : State).ran n.powerOn = _
    rw [powerOn_of_asserted h, ran_eq]

end Sys2Proof.Proofs
end

section
/-! PROOFS. Publish points of the load channel: the force of a code, the sample a publish point forms, and what a
sample with HELD leaves alone. -/
namespace Sys2Proof.Proofs
open Sys2Proof Sys2Proof.Machine Sys2Proof.Laws

/-! ### A sample with HELD has no taker (R5) -/

/-- The newest entry of a history with HELD gives no rate estimate. -/
theorem estimate_of_held {n : Node} {m : Mode} {e : HistEntry} (he : newest? (n.controlHist m) = some e)
    (held : e.flags.held = true) : n.estimate m = none := by
  unfold Node.estimate windowEnds
  rw [he]
  split
  · rename_i o e' hw
    split at hw
    · cases hw
    · split at hw
      · rename_i hn
        obtain ⟨rfl, rfl⟩ : _ = o ∧ _ = e' := by simpa using hw
        simp [Option.some.inj hn ▸ held]
      · cases hw
  · rfl

theorem newest?_pushHist (h : List HistEntry) (e : HistEntry) : newest? (pushHist h e) = some e := by
  have kept : ¬(h ++ [e]).length ≤ h.length + 1 - 8 := by
    rw [List.length_append, List.length_singleton]
    omega
  rw [newest?, pushHist, pushBounded, List.getLast?_drop, if_neg kept, List.getLast?_concat]

/-- A held LOAD sample that is the newest of the load source does not move the control mode unit. -/
theorem cmuArrival_of_held {n : Node} {e : HistEntry} (hn : newest? n.loadHist = some e)
    (held : e.flags.held = true) : n.cmuArrival .loadRate e = n := by
  have none_ : n.estimate .loadRate = none := estimate_of_held hn held
  simp [Node.cmuArrival, none_]

theorem judgeEnd_of_not_met {n : Node} {met : SegFields → Bool} (h : ∀ f, met f = false) :
    n.judgeEnd met = n := by
  have hm : n.meets met = false := by
    unfold Node.meets
    split <;> simp [h]
  simp [Node.judgeEnd, hm]

/-- The newest own sample with HELD reaches no block. -/
theorem consumeLoad_of_held {n : Node} {e : HistEntry} (hl : n.roles.load = true)
    (hn : newest? n.lc.hist = some e) (held : e.flags.held = true) : n.consumeLoad e = n := by
  have force : n.exhForce e = n := by simp [Node.exhForce, held]
  have fmax : n.updateFmax e = n := by simp [Node.updateFmax, held]
  have rate : n.cmuArrival .loadRate e = n :=
    cmuArrival_of_held (by simpa [Node.loadHist, hl] using hn) held
  have pairing : n.evalLoad e = n := by simp [Node.evalLoad, Node.takesLoad, held]
  have break_ : n.detectBreak e = n := by
    unfold Node.detectBreak
    split <;> simp [held]
  have overload : n.checkOverload e = n := by simp [Node.checkOverload, held]
  have watch : n.watchForce e = n := judgeEnd_of_not_met fun f => by simp [held]
  simp only [Node.consumeLoad, force, fmax, rate, pairing, break_, overload, watch]

/-! ### The sample's three ways (R4 to R6) -/

/-- The sample at its slot and in the history, before any block takes it. -/
theorem sent_and_entered (n : Node) (e : HistEntry) (p : List Byte) :
    (n.sendSample .load p).setLc (n.lc.published e) = { n with
      lc := n.lc.published e
      fbc := if n.active then { n.fbc with
          loadSlot := refill n.fbc.loadSlot (broadcastFrame .sample p) n.now }
        else n.fbc } := by
  cases ha : n.active <;> simp [Node.sendSample, ha, Node.setLc, Node.setFbc, Fbc.submitSample]

theorem publishStage_of_point {n : Node} (point : n.lc.decim + 1 = n.loadEvery) :
    n.publishStage = n.publishLoad := if_pos point

/-- The sample of a publish point with nothing to report. -/
def heldSample (n : Node) (balancing : Bool) : HistEntry :=
  ⟨n.lc.prod, n.now, n.lc.lastGood,
    { held := true, balancing := balancing, degraded := n.hlm.degraded .load }⟩

theorem loadSample_of_held {n : Node} {balancing : Bool} (hb : n.lc.balance.isSome = balancing)
    (h : n.lc.acc.count = 0 ∨ balancing = true) : n.loadSample = heldSample n balancing := by
  subst hb
  simp only [Node.loadSample, if_pos h, heldSample]

/-- A publish point with a HELD sample: the sample is sent and entered, and nothing else moves. -/
theorem publishLoad_of_held {n : Node} {balancing : Bool} (live : n.lcLive = true)
    (hb : n.lc.balance.isSome = balancing) (h : n.lc.acc.count = 0 ∨ balancing = true) :
    n.publishLoad = { n with
      lc := { n.lc with
        decim := 0, prod := n.lc.prod + 1, hist := pushHist n.lc.hist (heldSample n balancing)
        acc := { n.lc.acc with sum := 0, count := 0, fullScale := false } }
      fbc := if n.active then { n.fbc with
          loadSlot := refill n.fbc.loadSlot (broadcastFrame .sample (samplePayload .load
            (heldSample n balancing).flags (byteOf n.lc.range.val) n.now n.lc.lastGood)) n.now }
        else n.fbc } := by
  have role : n.roles.load = true := by
    simp only [Node.lcLive, Bool.and_eq_true] at live
    exact live.2
  simp only [Node.publishLoad, loadSample_of_held hb h, sent_and_entered]
  rw [consumeLoad_of_held (by exact role) (by exact newest?_pushHist _ _) rfl]
  rfl

/-- Settles O7: the measuring path of each case, then the held publish point, then the end of the balance. -/
theorem publishPointWithoutCodesHolds : Obligations.PublishPointWithoutCodesHolds := by
  intro n q c live lo hi point
  -- the answer, by what the measuring path makes of the load channel
  have publish (l : Lc) (balancing : Bool) (hd : l.decim = n.lc.decim)
      (hb : l.balance.isSome = balancing) (h : l.acc.count = 0 ∨ balancing = true) :=
    (publishStage_of_point (n := { n with pins := { n.pins with bridge := c }, lc := l })
      (by exact hd ▸ point)).trans (publishLoad_of_held live hb h)
  refine ⟨fun hb hs hz => ?_, fun bal hb => ⟨fun b done sum hp h => ?_, fun b sum hp => ?_,
    fun sum hp => ?_, fun residue hp h => ?_, fun residue hp h => ?_⟩⟩
  · exact exec_conversionComplete q live lo hi ((convert_of_measure
      (measure_of_settling (n := n.setPins { n.pins with bridge := c }) c hb hs)).trans
      (publish { n.lc with settle := n.lc.settle - 1 } false rfl (by simp [hb]) (.inl hz)))
  · exact exec_conversionComplete q live lo hi ((convert_of_measure
      (measure_of_balance _ hb (balanceStep_trial c hp h))).trans (publish _ true rfl rfl (.inr rfl)))
  · exact exec_conversionComplete q live lo hi ((convert_of_measure
      (measure_of_balance _ hb (balanceStep_nextBit c hp))).trans (publish _ true rfl rfl (.inr rfl)))
  · exact exec_conversionComplete q live lo hi ((convert_of_measure
      (measure_of_balance _ hb (balanceStep_lastBit c hp))).trans (publish _ true rfl rfl (.inr rfl)))
  · have hl : n.lc.balanceStep bal c = ({ n.lc with settle := n.lc.settle - 1 }, none) := by
      rw [balanceStep_restore c hp, if_neg (by omega)]
    exact exec_conversionComplete q live lo hi ((convert_of_measure (measure_of_balance _ hb hl)).trans
      (publish _ true rfl (by simp [hb]) (.inr rfl)))
  · have hl : n.lc.balanceStep bal c = ({ n.lc with settle := n.lc.settle - 1 }, some residue) := by
      rw [balanceStep_restore c hp, if_pos h]
    refine exec_conversionComplete q live lo hi ((convert_of_residue (measure_of_balance _ hb hl)).trans ?_)
    rw [publish { n.lc with settle := n.lc.settle - 1 } true rfl (by simp [hb]) (.inr rfl),
      endBalance_eq residue (by exact inService_of_lcLive live)]
    rfl

end Sys2Proof.Proofs
end

section
/-! PROOFS. What the control mode unit, the extensometer handler, the sequencer and the evaluator submit to the bus
while no halt comes: STATE notices, MARKs and RESULTs. The other slots stand, and the STATE slot stands or is refilled
by a notice. -/
namespace Sys2Proof.Proofs
open Sys2Proof Sys2Proof.Machine Sys2Proof.Laws

/-! ### The STATE slot (R75, R78) -/

/-- The STATE slot that a notice of `n` leaves. -/
def noticeSlot (n : Node) : Option Slot :=
  some ⟨broadcastFrame .state [], (n.fbc.stateSlot.map (·.fill)).getD n.now⟩

theorem refill_eq (s : Option Slot) (f : TxFrame) (now : Time) :
    refill s f now = some ⟨f, (s.map (·.fill)).getD now⟩ := by
  cases s <;> rfl

/-- A notice of an ACTIVE node refills the STATE slot; of another it does nothing. -/
theorem notice_eq (n : Node) : n.notice =
    if n.active then n.setFbc { n.fbc with stateSlot := noticeSlot n } else n := by
  simp only [Node.notice, Fbc.submitState, refill_eq]
  rfl

theorem notice_notified (n : Node) : n.notified n.notice := by
  intro ha
  simp only [notice_eq, ha, if_true]
  rfl

/-! ### The relation -/

/-- From `n` to `m` the slots of HALT, BREAK and the LOAD sample stand, the STATE slot stands or is refilled, and a
node that is not halted still is not. -/
structure Notices (n m : Node) : Prop where
  clk : m.clk = n.clk
  op : m.seq.op = n.seq.op
  live : Live n → Live m
  haltSlot : m.fbc.haltSlot = n.fbc.haltSlot
  breakSlot : m.fbc.breakSlot = n.fbc.breakSlot
  loadSlot : m.fbc.loadSlot = n.fbc.loadSlot
  state : m.fbc.stateSlot = n.fbc.stateSlot ∨ m.fbc.stateSlot = noticeSlot n

@[simp] theorem Notices.refl (n : Node) : Notices n n := ⟨rfl, rfl, id, rfl, rfl, rfl, .inl rfl⟩

/-- The STATE slot after a further notice keeps its fill time. -/
theorem noticeSlot_congr {n m : Node} (hc : m.clk = n.clk)
    (hs : m.fbc.stateSlot = n.fbc.stateSlot ∨ m.fbc.stateSlot = noticeSlot n) :
    noticeSlot m = noticeSlot n := by
  rcases hs with h | h <;> simp [noticeSlot, h, hc]

theorem Notices.noticeSlot {n m : Node} (h : Notices n m) : noticeSlot m = noticeSlot n :=
  noticeSlot_congr h.clk h.state

theorem Notices.active {n m : Node} (h : Notices n m) : m.active = n.active := by
  simp [Node.active, h.op]

theorem Notices.trans {n m k : Node} (h : Notices n m) (g : Notices m k) : Notices n k where
  clk := g.clk.trans h.clk
  op := g.op.trans h.op
  live := g.live ∘ h.live
  haltSlot := g.haltSlot.trans h.haltSlot
  breakSlot := g.breakSlot.trans h.breakSlot
  loadSlot := g.loadSlot.trans h.loadSlot
  state := by
    rcases g.state with e | e
    · rw [e]; exact h.state
    · rw [e, h.noticeSlot]; exact .inr rfl

/-- A notice that stands in the slot still does after such operations. -/
theorem Notices.keeps_notified {n m k : Node} (g : Notices m k) (hc : m.clk = n.clk)
    (h : n.notified m) : n.notified k := by
  intro ha
  have hm : m.fbc.stateSlot = Proofs.noticeSlot n := h ha
  rcases g.state with e | e
  · rw [e]; exact h ha
  · rw [e]; exact noticeSlot_congr hc (.inr hm)

/-- A notice after such operations is one of the node they began with. -/
theorem Notices.notified_before {n m k : Node} (g : Notices n m) (h : m.notified k) : n.notified k := by
  intro ha
  exact (h (g.active.trans ha)).trans g.noticeSlot

/-! ### Replacing one block -/

theorem notices_of_same {k n m : Node} (h : Notices k n) (hc : m.clk = n.clk) (ho : m.seq.op = n.seq.op)
    (ht : m.seq.test = n.seq.test) (hf : m.fbc = n.fbc) : Notices k m :=
  h.trans ⟨hc, ho, by unfold Live; rw [ht]; exact id, by rw [hf], by rw [hf], by rw [hf], .inl (by rw [hf])⟩

@[simp] theorem setLc_notices (k n : Node) (x : Lc) (h : Notices k n) : Notices k (n.setLc x) :=
  notices_of_same h rfl rfl rfl rfl
@[simp] theorem setTsg_notices (k n : Node) (x : Tsg) (h : Notices k n) : Notices k (n.setTsg x) :=
  notices_of_same h rfl rfl rfl rfl
@[simp] theorem setExh_notices (k n : Node) (x : Exh) (h : Notices k n) : Notices k (n.setExh x) :=
  notices_of_same h rfl rfl rfl rfl
@[simp] theorem setCmu_notices (k n : Node) (x : Cmu) (h : Notices k n) : Notices k (n.setCmu x) :=
  notices_of_same h rfl rfl rfl rfl
@[simp] theorem setHlt_notices (k n : Node) (x : Hlt) (h : Notices k n) : Notices k (n.setHlt x) :=
  notices_of_same h rfl rfl rfl rfl
@[simp] theorem setEvl_notices (k n : Node) (x : Evl) (h : Notices k n) : Notices k (n.setEvl x) :=
  notices_of_same h rfl rfl rfl rfl
@[simp] theorem setSeq_notices (k n : Node) (x : Seq) (h : Notices k n) (ho : x.op = n.seq.op)
    (ht : x.test = n.seq.test) : Notices k (n.setSeq x) := notices_of_same h rfl ho ht rfl

/-- A submission that leaves the four slots. -/
theorem setFbc_notices (k n : Node) (b : Fbc) (h : Notices k n) (h1 : b.haltSlot = n.fbc.haltSlot)
    (h2 : b.breakSlot = n.fbc.breakSlot) (h3 : b.loadSlot = n.fbc.loadSlot)
    (h4 : b.stateSlot = n.fbc.stateSlot ∨ b.stateSlot = noticeSlot n) : Notices k (n.setFbc b) :=
  h.trans ⟨rfl, rfl, id, h1, h2, h3, h4⟩

/-! ### Submissions (R74 to R78) -/

@[simp] theorem notice_notices (k n : Node) (h : Notices k n) : Notices k n.notice := by
  rw [notice_eq]
  split
  · exact setFbc_notices _ _ _ h rfl rfl rfl (.inr rfl)
  · exact h

@[simp] theorem submitMark_slots (b : Fbc) (f : TxFrame) : (b.submitMark f).haltSlot = b.haltSlot ∧
    (b.submitMark f).breakSlot = b.breakSlot ∧ (b.submitMark f).loadSlot = b.loadSlot ∧
    (b.submitMark f).stateSlot = b.stateSlot := by
  unfold Fbc.submitMark
  repeat' split
  all_goals simp

@[simp] theorem settlePending_slots (b : Fbc) (t : Time) : (b.settlePending t).haltSlot = b.haltSlot ∧
    (b.settlePending t).breakSlot = b.breakSlot ∧ (b.settlePending t).loadSlot = b.loadSlot ∧
    (b.settlePending t).stateSlot = b.stateSlot := by
  unfold Fbc.settlePending
  repeat' split
  all_goals simp

@[simp] theorem submitResult_slots (b : Fbc) (p : List TxFrame) (t : Time) :
    (b.submitResult p t).haltSlot = b.haltSlot ∧ (b.submitResult p t).breakSlot = b.breakSlot ∧
    (b.submitResult p t).loadSlot = b.loadSlot ∧ (b.submitResult p t).stateSlot = b.stateSlot := by
  simp only [Fbc.submitResult]
  repeat' split
  all_goals simp

@[simp] theorem sendMark_notices (k n : Node) (i : Fin 32) (id : Nat) (t : Time) (h : Notices k n) :
    Notices k (n.sendMark i id t) := by
  unfold Node.sendMark
  split
  · exact setFbc_notices _ _ _ h (by simp) (by simp) (by simp) (by simp)
  · exact h
@[simp] theorem sendResult_notices (k n : Node) (p : List (List Byte)) (h : Notices k n) :
    Notices k (n.sendResult p) := by
  unfold Node.sendResult
  split
  · exact setFbc_notices _ _ _ h (by simp) (by simp) (by simp) (by simp)
  · exact h

/-! ### Drive and control mode unit -/

@[simp] theorem setWanted_notices (k n : Node) (v : Int) (h : Notices k n) : Notices k (n.setWanted v) :=
  notices_of_same h (by simp) (by simp) (by simp) (by simp)
@[simp] theorem directStop_notices (k n : Node) (h : Notices k n) : Notices k n.directStop :=
  notices_of_same h (by simp) (by simp) (by simp) (by simp)
@[simp] theorem reportSeg_notices (k n : Node) (f : Segment → Segment) (h : Notices k n) :
    Notices k (n.reportSeg f) := by
  unfold Node.reportSeg
  split
  · exact setSeq_notices _ _ _ h rfl rfl
  · exact h
@[simp] theorem reportFlag_notices (k n : Node) (f : Summary → Summary) (h : Notices k n) :
    Notices k (n.reportFlag f) := reportSeg_notices _ _ _ h
@[simp] theorem reportLock_notices (k n : Node) (t : Time) (h : Notices k n) :
    Notices k (n.reportLock t) := reportSeg_notices _ _ _ h

@[simp] theorem putCmu_notices (k n : Node) (c : Cmu) (h : Notices k n) : Notices k (n.putCmu c) := by
  simp only [Node.putCmu]
  split <;> simp [h]
@[simp] theorem requestHold_notices (k n : Node) (h : Notices k n) : Notices k n.requestHold := by
  simp [Node.requestHold, h]
@[simp] theorem requestCrosshead_notices (k n : Node) (v : Int) (h : Notices k n) :
    Notices k (n.requestCrosshead v) := by
  simp [Node.requestCrosshead, h]
@[simp] theorem fallBack_notices (k n : Node) (v : Int) (h : Notices k n) : Notices k (n.fallBack v) := by
  unfold Node.fallBack
  exact reportFlag_notices _ _ _ (setCmu_notices _ _ _ (requestCrosshead_notices _ _ _ h))
@[simp] theorem enterClosed_notices (k n : Node) (m : Mode) (h : Notices k n) :
    Notices k (n.enterClosed m) := by
  simp [Node.enterClosed, h]
@[simp] theorem entryStepTo_notices (k n : Node) (m : Mode) (h : Notices k n) :
    Notices k (n.entryStepTo m) := by
  simp [Node.entryStepTo, h]
@[simp] theorem requestClosed_notices (k n : Node) (f : SegFields) (a : Bool) (h : Notices k n) :
    Notices k (n.requestClosed f a) := by
  have c := setCmu_notices _ _ (n.cmu.withClosed f) h
  simp only [Node.requestClosed]
  repeat' split
  · exact fallBack_notices _ _ _ c
  · exact fallBack_notices _ _ _ c
  · exact enterClosed_notices _ _ _ (putCmu_notices _ _ _ c)
  · exact entryStepTo_notices _ _ _ c
@[simp] theorem requestSegment_notices (k n : Node) (f : SegFields) (a : Bool) (h : Notices k n) :
    Notices k (n.requestSegment f a) := by
  unfold Node.requestSegment
  split <;> simp [h]
@[simp] theorem cmuOpen_notices (k n : Node) (f : SegFields) (a p : Bool) (h : Notices k n) :
    Notices k (n.cmuOpen f a p) := by
  unfold Node.cmuOpen
  repeat' split
  all_goals simp [h]
@[simp] theorem cmuHold_notices (k n : Node) (h : Notices k n) : Notices k n.cmuHold := by
  unfold Node.cmuHold
  split <;> simp [h]
@[simp] theorem handLock_notices (k n : Node) (b : Option LockState) (h : Notices k n) :
    Notices k (n.handLock b) := by
  unfold Node.handLock
  split <;> simp [h]
@[simp] theorem applyEstimate_notices (k n : Node) (m : Mode) (rm : Int) (h : Notices k n) :
    Notices k (n.applyEstimate m rm) :=
  setWanted_notices _ _ _ (handLock_notices _ _ _ (putCmu_notices _ _ _ h))
@[simp] theorem cmuArrival_notices (k n : Node) (m : Mode) (e : HistEntry) (h : Notices k n) :
    Notices k (n.cmuArrival m e) := by
  unfold Node.cmuArrival
  repeat' split
  all_goals simp [h]

/-! ### Evaluator and extensometer handler -/

@[simp] theorem completeRecord_notices (k n : Node) (h : Notices k n) : Notices k n.completeRecord := by
  simp [Node.completeRecord, h]
@[simp] theorem endDrain_notices (k n : Node) (h : Notices k n) : Notices k n.endDrain := by
  unfold Node.endDrain
  split <;> simp [h]
@[simp] theorem evalEnding_notices (k n : Node) (c : EndCause) (h : Notices k n) :
    Notices k (n.evalEnding c) := by
  unfold Node.evalEnding
  split <;> simp [h]

@[simp] theorem putExh_notices (k n : Node) (x : Exh) (h : Notices k n) : Notices k (n.putExh x) := by
  simp only [Node.putExh]
  split <;> simp [h]
@[simp] theorem exhBreak_notices (k n : Node) (h : Notices k n) : Notices k n.exhBreak := by
  unfold Node.exhBreak Node.release
  split <;> simp [h]
@[simp] theorem exhRejudge_notices (k n : Node) (h : Notices k n) : Notices k n.exhRejudge := by
  unfold Node.exhRejudge
  split <;> simp [h]
@[simp] theorem exhStartFails_notices (k n : Node) (h : Notices k n) : Notices k n.exhStartFails := by
  unfold Node.exhStartFails
  split <;> simp [h]

/-! ### Changes of the test state (R116, R136 to R138) -/

/-- What follows the notice of a change of the test state. -/
theorem setTest_after (n : Node) (t : TestState) :
    Notices (n.setSeq { n.seq with test := some t }).notice (n.setTest t) := by
  simp only [Node.setTest]
  split <;> simp

/-- Every change of the test state brings its notice. -/
theorem setTest_notified (n : Node) (t : TestState) : n.notified (n.setTest t) := by
  refine (setTest_after n t).keeps_notified (by simp) ?_
  intro ha
  exact notice_notified (n.setSeq { n.seq with test := some t }) ha

/-- The slots of HALT, BREAK and the LOAD sample stand at every change of the test state. -/
@[simp] theorem setTest_slots (n : Node) (t : TestState) :
    (n.setTest t).fbc.haltSlot = n.fbc.haltSlot ∧ (n.setTest t).fbc.breakSlot = n.fbc.breakSlot ∧
    (n.setTest t).fbc.loadSlot = n.fbc.loadSlot := by
  have first := notice_notices _ _ (Notices.refl (n.setSeq { n.seq with test := some t }))
  have g := setTest_after n t
  exact ⟨g.haltSlot.trans first.haltSlot, g.breakSlot.trans first.breakSlot,
    g.loadSlot.trans first.loadSlot⟩

theorem setTest_notices (k n : Node) (t : TestState) (h : Notices k n) (ht : t ≠ .halted) :
    Notices k (n.setTest t) := by
  refine h.trans ⟨by simp, by simp, fun _ => ?_, by simp, by simp, by simp, ?_⟩
  · simp [Live, ht]
  · have first := notice_notices _ _ (Notices.refl (n.setSeq { n.seq with test := some t }))
    exact (first.trans (setTest_after n t)).state

@[simp] theorem closeOpen_notices (k n : Node) (c : CloseCause) (t : Time) (h : Notices k n) :
    Notices k (n.closeOpen c t) := notices_of_same h (by simp) (by simp) (by simp) (by simp)

@[simp] theorem enterEnded_notices (k n : Node) (c : EndCause) (d : CloseCause) (h : Notices k n) :
    Notices k (n.enterEnded c d) := by
  refine evalEnding_notices _ _ _ (directStop_notices _ _ (setTest_notices _ _ _ ?_ (by decide)))
  exact setSeq_notices _ _ _ (closeOpen_notices _ _ _ _ h) rfl rfl

theorem enterEnded_notified (n : Node) (c : EndCause) (d : CloseCause) :
    n.notified (n.enterEnded c d) := by
  let m := (n.closeOpen d n.now).setSeq { (n.closeOpen d n.now).seq with endCause := some c }
  have before : Notices n m := setSeq_notices _ _ _ (closeOpen_notices _ _ _ _ (.refl n)) rfl rfl
  have after_ : Notices (m.setTest .ended) (n.enterEnded c d) :=
    evalEnding_notices _ _ _ (directStop_notices _ _ (.refl _))
  exact after_.keeps_notified (by simp [m]) (before.notified_before (setTest_notified m .ended))

/-! ### Opening, closing and going on (R127 to R131) -/

@[simp] theorem openAt_notices (k n : Node) (i : Fin 32) (s a : Bool) (h : Notices k n) :
    Notices k (n.openAt i s a) := by
  refine notice_notices _ _ (cmuOpen_notices _ _ _ _ _ ?_)
  exact setSeq_notices _ _ _ h rfl rfl
@[simp] theorem closeByCondition_notices (k n : Node) (h : Notices k n) :
    Notices k n.closeByCondition := by
  simp [Node.closeByCondition, h]
@[simp] theorem goOn_notices (j : Nat) (b : Bool) (k n : Node) (h : Notices k n) :
    Notices k (Node.goOn j b n) := by
  induction j generalizing b n with
  | zero => exact h
  | succ j ih =>
    simp only [Node.goOn]
    repeat' split
    · exact enterEnded_notices _ _ _ _ h
    · exact ih _ _ (closeByCondition_notices _ _ (openAt_notices _ _ _ _ _ h))
    · exact openAt_notices _ _ _ _ _ h
    · exact cmuHold_notices _ _ h
@[simp] theorem closeAndGoOn_notices (k n : Node) (h : Notices k n) : Notices k n.closeAndGoOn := by
  simp [Node.closeAndGoOn, h]
@[simp] theorem judgeEnd_notices (k n : Node) (met : SegFields → Bool) (h : Notices k n) :
    Notices k (n.judgeEnd met) := by
  unfold Node.judgeEnd
  split <;> simp [h]
@[simp] theorem watchForce_notices (k n : Node) (e : HistEntry) (h : Notices k n) :
    Notices k (n.watchForce e) := judgeEnd_notices _ _ _ h
@[simp] theorem seqBreak_notices (k n : Node) (h : Notices k n) : Notices k n.seqBreak := by
  unfold Node.seqBreak
  split <;> simp [h]
@[simp] theorem deliverBreak_notices (k n : Node) (h : Notices k n) : Notices k n.deliverBreak :=
  evalEnding_notices _ _ _ (seqBreak_notices _ _ (exhBreak_notices _ _ h))

/-! ### Pairing (R155 to R165) -/

@[simp] theorem reportYield_notices (k n : Node) (h : Notices k n) : Notices k n.reportYield := by
  have y := setSeq_notices k (n.setEvl { n.evl with yieldReported := true })
    { n.seq with yieldSeen := true } (setEvl_notices _ _ _ h) rfl rfl
  simp only [Node.reportYield, Node.yieldReport]
  repeat' split
  · exact closeAndGoOn_notices _ _ y
  · exact y
  · exact h
@[simp] theorem reportHeld_notices (k n : Node) (b : Bool) (h : Notices k n) :
    Notices k (n.reportHeld b) := by
  unfold Node.reportHeld
  split <;> simp [h]
@[simp] theorem passPair_notices (k n : Node) (p : EvalParams) (x : Pair) (h : Notices k n) :
    Notices k (n.passPair p x) := by
  have early := reportYield_notices _ _ (reportHeld_notices _ _ x.held
    (setEvl_notices _ _ (n.evl.earlyStages p x) h))
  exact setEvl_notices _ _ _ (reportYield_notices _ _ (setEvl_notices _ _ _ early))
@[simp] theorem pairWith_notices (k n : Node) (l : LoadEntry) (a : Answer) (h : Notices k n) :
    Notices k (n.pairWith l a) := by
  unfold Node.pairWith Node.formPair
  repeat' split
  all_goals simp [h]
@[simp] theorem popLoad_notices (k n : Node) (h : Notices k n) : Notices k n.popLoad :=
  setEvl_notices _ _ _ h
theorem pairFront_notices (k n m : Node) (l : LoadEntry) (e : n.pairFront l = some m)
    (h : Notices k n) : Notices k m := by
  obtain ⟨a, -, rfl⟩ := Option.map_eq_some_iff.mp e
  simp [h]
@[simp] theorem pairRounds_notices (j : Nat) (k n : Node) (h : Notices k n) :
    Notices k (Node.pairRounds j n) := by
  induction j generalizing n with
  | zero => exact h
  | succ j ih =>
    unfold Node.pairRounds
    repeat' split
    · exact h
    · rename_i m e
      exact ih _ (pairFront_notices _ _ _ _ e h)
    · exact h
    · exact h
@[simp] theorem pairingAttempt_notices (k n : Node) (h : Notices k n) : Notices k n.pairingAttempt := by
  simp only [Node.pairingAttempt]
  split <;> simp [h]
@[simp] theorem overflow_notices (k n : Node) (h : Notices k n) : Notices k n.overflow := by
  unfold Node.overflow
  repeat' split
  all_goals simp [h]
@[simp] theorem evalLoad_notices (k n : Node) (e : HistEntry) (h : Notices k n) :
    Notices k (n.evalLoad e) := by
  simp only [Node.evalLoad]
  repeat' split
  · exact pairingAttempt_notices _ _ (setEvl_notices _ _ _ h)
  · exact pairingAttempt_notices _ _ (setEvl_notices _ _ _ (overflow_notices _ _ h))
  · exact h

end Sys2Proof.Proofs
end

section
/-! PROOFS. What an entry to HALTED and to ENDED leaves: the halt record, the outputs, the drive, the closed entry and
the STATE notice; and the BREAK that ends a test. -/
namespace Sys2Proof.Proofs
open Sys2Proof Sys2Proof.Machine Sys2Proof.Laws

/-! ### The drive after a direct stop (R27, R36) -/

/-- The block a direct stop leaves in a live drive. -/
def stopped (t : Tsg) : Tsg :=
  { t with wanted := 0, commanded := 0, issued := 0, jog := .idle, gen := t.gen.requestStop }

theorem stopped_directly (t : Tsg) : (stopped t).directlyStopped :=
  ⟨rfl, rfl, rfl, rfl, requestStop_st t.gen⟩

theorem enterEnded_stops {n : Node} (c : EndCause) (d : CloseCause) (hd : n.roles.drive = true) :
    (n.enterEnded c d).tsg.directlyStopped := by
  rw [(enterEnded_effect n c d).2, if_pos hd]
  exact stopped_directly n.tsg

theorem enterHalted_stops {n : Node} (hd : n.roles.drive = true) :
    n.enterHalted.tsg.directlyStopped := by
  rw [(enterHalted_effect n).2, if_pos hd]
  exact stopped_directly n.tsg

/-! ### The extensometer handler at a change of the test state (R48) -/

@[simp] theorem putExh_exh (n : Node) (x : Exh) : (n.putExh x).exh = x := by
  simp only [Node.putExh]
  split <;> simp

/-- A change of the test state may set the extensometer state, and leaves the rest of the handler. -/
theorem setTest_exh (n : Node) (t : TestState) :
    ∃ s, (n.setTest t).exh = { n.exh with st := s } := by
  have rejudge (m : Node) : ∃ s, m.exhRejudge.exh = { m.exh with st := s } := by
    unfold Node.exhRejudge
    split
    · exact ⟨_, putExh_exh _ _⟩
    · exact ⟨m.exh.st, rfl⟩
  simp only [Node.setTest]
  split
  · obtain ⟨s, hs⟩ := rejudge (n.setSeq { n.seq with test := some t }).notice.cmuHold
    exact ⟨s, by simpa using hs⟩
  · obtain ⟨s, hs⟩ := rejudge (n.setSeq { n.seq with test := some t }).notice
    exact ⟨s, by simpa using hs⟩

theorem localCause_arms (n : Node) (c : HaltCause) :
    (n.localCause c).exh.arm1 = n.exh.arm1 ∧ (n.localCause c).exh.arm2 = n.exh.arm2 := by
  have halted (m : Node) : m.enterHalted.exh.arm1 = m.exh.arm1 ∧ m.enterHalted.exh.arm2 = m.exh.arm2 := by
    obtain ⟨s, hs⟩ := setTest_exh
      ((m.closeOpen .byHalt m.now).setSeq { (m.closeOpen .byHalt m.now).seq with
        endCause := m.haltEndCause }) .halted
    have he : m.enterHalted.exh = { m.exh with st := s } := by
      simp only [Node.enterHalted, evalEnding_frame, directStop_frame, hs]
      simp
    simp [he]
  unfold Node.localCause
  repeat' split
  all_goals simp [halted]

/-! ### Entry to HALTED (R137, R141, R152) -/

/-- What follows the change of the test state at an entry to HALTED. -/
theorem enterHalted_submits (n : Node) : n.notified n.enterHalted ∧
    n.enterHalted.fbc.loadSlot = n.fbc.loadSlot := by
  let m := (n.closeOpen .byHalt n.now).setSeq { (n.closeOpen .byHalt n.now).seq with
    endCause := n.haltEndCause }
  have before : Notices n m := setSeq_notices _ _ _ (closeOpen_notices _ _ _ _ (.refl n)) rfl rfl
  have after_ : Notices (m.setTest .halted) n.enterHalted :=
    evalEnding_notices _ _ _ (directStop_notices _ _ (.refl _))
  refine ⟨after_.keeps_notified (by simp [m]) (before.notified_before (setTest_notified m .halted)), ?_⟩
  rw [after_.loadSlot, (setTest_slots m .halted).2.2, before.loadSlot]

theorem sendHalt_slots (n : Node) (c : HaltCause) :
    (n.sendHalt c).fbc.loadSlot = n.fbc.loadSlot ∧ (n.sendHalt c).fbc.stateSlot = n.fbc.stateSlot := by
  unfold Node.sendHalt Fbc.submitHalt
  repeat' split
  all_goals simp

/-- A local cause that is not a duplicate identity, in a node that is not halted. -/
theorem localCause_of_live {n : Node} {c : HaltCause} (h : Live n) (hc : c ≠ .duplicateId) :
    n.localCause c = ((n.setRecord c n.nodeId true).enterHalted).sendHalt c := by
  obtain ⟨h1, h2⟩ := h
  unfold Node.localCause
  split
  · rename_i e; exact absurd e h1
  · rename_i e; exact absurd e h2
  · simp [hc]

theorem localCause_loadSlot (n : Node) (c : HaltCause) :
    (n.localCause c).fbc.loadSlot = n.fbc.loadSlot := by
  unfold Node.localCause
  repeat' split
  all_goals simp [sendHalt_slots, enterHalted_submits]

/-- A local cause halts a node that is not halted, with itself as originator (R142). -/
theorem localCause_haltedBy {n : Node} {c : HaltCause} (h : Live n) (hc : c ≠ .duplicateId) :
    n.haltedBy (n.localCause c) c n.nodeId := by
  rw [localCause_of_live h hc]
  have test : (((n.setRecord c n.nodeId true).enterHalted).sendHalt c).seq.test = some .halted := by simp
  refine ⟨test, by simp [Node.setRecord], by simp [Node.faultOut], by simp [Node.drvEn], fun hd => ?_,
    fun _ ha => ?_⟩
  · rw [(sendHalt_frame _ c).2.2.2.2.2.1]
    exact enterHalted_stops (n := n.setRecord c n.nodeId true) hd
  · rw [(sendHalt_slots _ c).2]
    exact (enterHalted_submits (n.setRecord c n.nodeId true)).1 ha

/-- A halt reads of the node before it the clock, the identity, the roles and the STATE slot. -/
theorem haltedBy_congr {n k m : Node} {c : HaltCause} {o : Fin 16} (hc : k.clk = n.clk)
    (ho : k.seq.op = n.seq.op) (hs : k.sul = n.sul) (slot : noticeSlot k = noticeSlot n)
    (hm : k.haltedBy m c o) : n.haltedBy m c o := by
  obtain ⟨test, record, fault, drv, stop, state⟩ := hm
  have roles : k.roles = n.roles := by simp [Node.roles, hs]
  have act : k.active = n.active := by simp [Node.active, ho]
  exact ⟨test, by simpa [hc] using record, fault, drv, fun hd => stop (roles ▸ hd),
    fun ha hn => (state ha (act.trans hn)).trans slot⟩

/-- Submissions that come before a halt leave it the halt of the node they began with. -/
theorem haltedBy_before {n k m : Node} {c : HaltCause} {o : Fin 16} (h : Notices n k) (hs : k.sul = n.sul)
    (hm : k.haltedBy m c o) : n.haltedBy m c o :=
  haltedBy_congr h.clk h.op hs h.noticeSlot hm

/-! ### Closing the OPEN entry (R130) -/

theorem closeOpen_closedBy (n : Node) (c : CloseCause) (t : Time) : n.closedBy (n.closeOpen c t) c t := by
  intro e he
  simp only [Node.closeOpen, he, setSeq_fields, setEntry_segs, if_true]
  rfl

theorem enterEnded_closedBy (n : Node) (c : EndCause) (d : CloseCause) :
    n.closedBy (n.enterEnded c d) d n.now := by
  intro e he
  simpa using closeOpen_closedBy n d n.now e he

/-- A close reads the sequencer and the sources' histories. -/
theorem closedBy_congr {n k m : Node} {c : CloseCause} {t : Time} (hseq : k.seq = n.seq)
    (hsul : k.sul = n.sul) (hlc : k.lc.hist = n.lc.hist) (hexh : k.exh.hist = n.exh.hist)
    (hpta : k.pta = n.pta) (htsg : k.tsg = n.tsg) (hdat : k.datums = n.datums) (h : k.closedBy m c t) :
    n.closedBy m c t := by
  have roles : k.roles = n.roles := by simp [Node.roles, hsul]
  have sub (i : Fin 4) : k.sub i = n.sub i := by simp [Node.sub, hpta]
  have cfg (i : Fin 4) : k.subCfg i = n.subCfg i := by simp [Node.subCfg, hsul]
  have ofUse (u : SubUse) : k.histOfUse u = n.histOfUse u := by
    simp [Node.histOfUse, Node.subOfUse, sub, cfg]
  have strain : k.strainHist = n.strainHist := by
    simp [Node.strainHist, Exh.entries, roles, hexh, ofUse]
  have load : k.loadHist = n.loadHist := by simp [Node.loadHist, roles, hlc, ofUse]
  have travel : k.travelAt t = n.travelAt t := by
    simp [Node.travelAt, Node.travelSources, hdat, htsg, sub]
  intro e he
  have := h e (hseq ▸ he)
  simpa only [strain, load, travel, hseq] using this

/-! ### The BREAK that ends a test (R138, R149, R150) -/

theorem notified_congr {n k m : Node} (hs : k.fbc.stateSlot = n.fbc.stateSlot) (hc : k.clk = n.clk)
    (ho : k.seq.op = n.seq.op) (h : k.notified m) : n.notified m := by
  intro ha
  have ha' : k.active = true := by simpa [Node.active, ho] using ha
  simpa [hs, hc] using h ha'

@[simp] theorem exhBreak_hist (n : Node) : n.exhBreak.exh.hist = n.exh.hist := by
  unfold Node.exhBreak Node.release
  split <;> simp

/-- What a BREAK delivered in a test in progress leaves. -/
theorem deliverBreak_ends {n : Node} (h : n.testInProgress = true) :
    n.deliverBreak.seq.test = some .ended ∧ n.deliverBreak.seq.endCause = some .byBreak ∧
      n.closedBy n.deliverBreak .byBreak n.now ∧ n.notified n.deliverBreak ∧
      (n.roles.drive = true → n.deliverBreak.tsg.directlyStopped) := by
  have going : n.exhBreak.testInProgress = true := by simpa [Node.testInProgress] using h
  have ends : n.deliverBreak = (n.exhBreak.enterEnded .byBreak .byBreak).evalEnding .byBreak := by
    simp [Node.deliverBreak, Node.seqBreak, going]
  have before : Notices n n.exhBreak := by simp
  rw [ends]
  refine ⟨by simp, by simp, fun e he => ?_, ?_, fun hd => ?_⟩
  · have closed : n.closedBy (n.exhBreak.enterEnded .byBreak .byBreak) .byBreak n.now := by
      have closed := enterEnded_closedBy n.exhBreak .byBreak .byBreak
      rw [show n.exhBreak.now = n.now by simp] at closed
      refine closedBy_congr ?_ ?_ ?_ ?_ ?_ ?_ ?_ closed <;> simp
    simpa using closed e he
  · refine (evalEnding_notices _ _ _ (.refl _)).keeps_notified (by simp) ?_
    exact before.notified_before (enterEnded_notified n.exhBreak .byBreak .byBreak)
  · rw [(evalEnding_frame _ _).2.2.2.2.2.1]
    exact enterEnded_stops _ _ (by simpa [Node.roles] using hd)

/-- What a BREAK delivered outside a test in progress leaves. -/
theorem deliverBreak_idle {n : Node} (h : n.testInProgress = false) :
    n.deliverBreak.seq = n.seq ∧ n.deliverBreak.tsg = n.tsg ∧ n.deliverBreak.cmu = n.cmu ∧
      (n.deliverBreak.exh.st ≠ n.exh.st → n.notified n.deliverBreak) := by
  have idle : n.exhBreak.testInProgress = false := by simpa [Node.testInProgress] using h
  have calls : n.deliverBreak = n.exhBreak.evalEnding .byBreak := by
    simp [Node.deliverBreak, Node.seqBreak, idle]
  rw [calls]
  refine ⟨by simp, by simp, by simp, fun hne => ?_⟩
  refine (evalEnding_notices _ _ _ (.refl _)).keeps_notified (by simp) ?_
  -- the extensometer state has changed, so its notice was sent
  have changed : n.exhBreak.exh.st ≠ n.exh.st := by simpa using hne
  unfold Node.exhBreak at changed ⊢
  split
  · rename_i hx
    obtain ⟨_, attached⟩ := Bool.and_eq_true_iff.mp hx
    simp only [Node.release, Node.putExh, eq_of_beq attached]
    rw [if_neg (by simp)]
    exact fun ha => notice_notified (n.setExh _) ha
  · rename_i hx
    simp [hx] at changed

/-- Taking a frame from its queue submits nothing. -/
@[simp] theorem popped_notices (n : Node) : Notices n n.popped :=
  ⟨rfl, rfl, id, by simp, by simp, by simp, by simp⟩

/-- A LOAD sample that meets the conditions of a break disarms the detector and raises BREAK. -/
theorem detectBreak_of_met {n : Node} {e : HistEntry} {p : OrderPart3} (hp : n.part3 = some p)
    (going : n.testInProgress = true) (held : e.flags.held = false) (armed : n.lc.breakArmed = true)
    (least : p.breakMinimum ≤ n.lc.fmax)
    (below : e.value ≤ roundDiv (n.lc.fmax * p.breakFraction) 1000) (first : n.hlt.breakRecord = none) :
    n.detectBreak e = (((n.setLc { n.lc with breakArmed := false }).setBreak n.nodeId).sendBreak
      n.testId).deliverBreak := by
  have met : breakMet p n.lc.fmax e.value = true := by simp [breakMet, least, below]
  have going' : (n.setLc { n.lc with breakArmed := false }).testInProgress = true := going
  simp only [Node.detectBreak, hp, going, held, armed, met, Bool.not_false, Bool.and_self, if_true,
    Node.raiseBreak, going', setLc_fields, first, Option.isNone_none]
  rfl

theorem sendBreak_stateSlot (n : Node) (id : Nat) :
    (n.sendBreak id).fbc.stateSlot = n.fbc.stateSlot := by
  unfold Node.sendBreak
  split <;> rfl

theorem takeBreak_of_taken {n : Node} {f : RxFrame} {t : TestState} (ht : n.seq.test = some t)
    (hx : t.takesBreak = true) (taken : f.payload.length = 2 ∧ n.seq.order ≠ none ∧
      nat16At f.payload 0 = n.testId ∧ n.hlt.breakRecord = none) :
    n.takeBreak f = (n.setBreak f.header.sender).deliverBreak := by
  obtain ⟨len, order, id, first⟩ := taken
  simp [Node.takeBreak, ht, hx, len, Option.isSome_iff_ne_none, order, id, first]

theorem takeBreak_of_not_taken {n : Node} {f : RxFrame} {t : TestState} (ht : n.seq.test = some t)
    (h : ¬(f.payload.length = 2 ∧ n.seq.order ≠ none ∧ nat16At f.payload 0 = n.testId ∧
      n.hlt.breakRecord = none) ∨ t.takesBreak = false) : n.takeBreak f = n := by
  simp only [Node.takeBreak, ht]
  rw [if_neg]
  rintro ⟨len, hx, order, id, first⟩
  rcases h with h | h
  · exact h ⟨len, Option.isSome_iff_ne_none.mp order, id, by simpa using first⟩
  · simp [h] at hx

/-- Settles O12: a break detected and a BREAK frame taken both come down to the delivery of the BREAK. -/
theorem breakEndsTheTest : Obligations.BreakEndsTheTest := by
  refine ⟨fun n e p hp going held armed least below first => ?_, fun n q f t hd ht => ?_⟩
  · intro m
    let k := ((n.setLc { n.lc with breakArmed := false }).setBreak n.nodeId).sendBreak n.testId
    have hm : m = k.deliverBreak := detectBreak_of_met hp going held armed least below first
    obtain ⟨test, cause, closed, state, stop⟩ := deliverBreak_ends (n := k)
      (by simpa [k, Node.testInProgress] using going)
    have kept : Notices k k.deliverBreak := by simp
    rw [hm]
    refine ⟨by simp [k], by simp [k, Node.setBreak], test, cause, ?_, ?_, fun ha => ?_, fun hd => ?_,
      by simp [k], by simp [k], by simp [k], by simp [k], by simp [k], by simp [k]⟩
    · have now : k.now = n.now := by simp [k]
      rw [now] at closed
      refine closedBy_congr ?_ ?_ ?_ ?_ ?_ ?_ ?_ closed <;> simp [k]
    · exact notified_congr (by simp [k, sendBreak_stateSlot]) (by simp [k]) (by simp [k]) state
    · have ha' : ((n.setLc { n.lc with breakArmed := false }).setBreak n.nodeId).active = true := ha
      rw [kept.breakSlot]
      simp [k, Node.sendBreak, ha', Fbc.submitBreak, breakPayload]
    · exact stop (by simpa [k, Node.roles] using hd)
  · intro taken
    have takes : n.popped.seq.test = some t := ht
    refine ⟨fun h => ?_, fun ht' hs => ?_, fun ht' hs => ?_⟩
    · rw [exec_of_delivers q rfl hd, takeBreak_of_not_taken takes (h.imp id ?_)]
      rintro (rfl | rfl) <;> rfl
    · have going : (n.popped.setBreak f.header.sender).testInProgress = true := by
        rcases hs with rfl | rfl <;> simp [Node.testInProgress, ht]
      have before : Notices n (n.popped.setBreak f.header.sender) :=
        setHlt_notices _ _ _ (popped_notices n)
      obtain ⟨test, cause, closed, state, stop⟩ := deliverBreak_ends going
      refine ⟨_, exec_of_delivers q rfl hd, ?_⟩
      rw [takeBreak_of_taken takes (by rcases hs with rfl | rfl <;> rfl) ht']
      refine ⟨by simp [Node.setBreak], test, cause, ?_, before.notified_before state, fun hd => stop hd,
        by simp, by simp, by simp⟩
      have now : (n.popped.setBreak f.header.sender).now = n.now := rfl
      rw [now] at closed
      refine closedBy_congr ?_ ?_ ?_ ?_ ?_ ?_ ?_ closed <;> simp
    · have idle : (n.popped.setBreak f.header.sender).testInProgress = false := by
        rcases hs with rfl | rfl <;> simp [Node.testInProgress, ht]
      have before : Notices n (n.popped.setBreak f.header.sender) :=
        setHlt_notices _ _ _ (popped_notices n)
      obtain ⟨seq, tsg, cmu, state⟩ := deliverBreak_idle idle
      refine ⟨_, exec_of_delivers q rfl hd, ?_⟩
      rw [takeBreak_of_taken takes (by rcases hs with rfl | rfl <;> rfl) ht']
      exact ⟨by simp [Node.setBreak], by simpa using seq, fun h => before.notified_before (state (by simpa using h)),
        by simpa using tsg, by simpa using cmu, by simp, by simp, by simp⟩

end Sys2Proof.Proofs
end

section
/-! PROOFS. The commands of the test in each test state: ABORT and CLEAR taken (R125), and the commands that halt, are
refused or are ignored (R121). -/
namespace Sys2Proof.Proofs
open Sys2Proof Sys2Proof.Machine Sys2Proof.Laws

/-! ### READY with nothing held (R125) -/

/-- The change to READY that drops the order and the segments. -/
def dropped (n : Node) : Node := (n.setSeq n.seq.dropOrder).setTest .ready

theorem dropped_seq (n : Node) : (dropped n).seq =
    { n.seq with test := some .ready, order := none, segs := Vector.replicate 32 {}, cursor := 0 } := by
  simp [dropped, Seq.dropOrder]

theorem dropped_tsg (n : Node) : (dropped n).tsg = n.tsg := by simp [dropped]

theorem dropped_notified (n : Node) : n.notified (dropped n) := by
  have before : Notices n (n.setSeq n.seq.dropOrder) := setSeq_notices _ _ _ (.refl n) rfl rfl
  exact before.notified_before (setTest_notified _ .ready)

/-- What a change to READY that drops the order leaves unchanged. -/
theorem dropped_frame (n : Node) : (dropped n).sul = n.sul ∧ (dropped n).lc = n.lc ∧
    (dropped n).pta = n.pta ∧ (dropped n).hlt = n.hlt ∧ (dropped n).evl = n.evl ∧
    (dropped n).hlm = n.hlm := by
  simp [dropped]

/-! ### Drive enable and the resynchronisation (R40, R152) -/

theorem faultOut_eq_false {n : Node} (ha : n.active = true) (ht : n.seq.test ≠ some .halted) :
    n.faultOut = false := by
  have op : n.seq.op = .active := by simpa [Node.active] using ha
  simpa [Node.faultOut, op] using ht

theorem drvEn_eq_true {n : Node} (ha : n.active = true) (ht : n.seq.test ≠ some .halted) :
    n.drvEn = true := by
  have op : n.seq.op = .active := by simpa [Node.active] using ha
  simpa [Node.drvEn, op] using ht

theorem resync_tsg {n : Node} (hd : n.driveLive = true) :
    n.resync.tsg = { n.tsg with pulses := roundDiv n.absolutePos n.img.drive.step } := by
  simp [Node.resync, hd]

/-- The resynchronisation touches no more than the pulse count. -/
theorem resync_keeps (n : Node) : n.resync.tsg.gen = n.tsg.gen ∧ n.resync.tsg.encFault = n.tsg.encFault ∧
    n.resync.tsg.count = n.tsg.count := by
  unfold Node.resync
  split <;> simp

/-- A direct stop stands through the resynchronisation. -/
theorem resync_stops {n : Node} (h : n.tsg.directlyStopped) : n.resync.tsg.directlyStopped := by
  unfold Node.resync
  split
  · exact h
  · exact h

/-! ### ABORT (R125) -/

theorem abortArmed_drops (n : Node) :
    n.abortArmed.seq = (dropped n).seq ∧ n.notified n.abortArmed ∧
      (n.roles.drive = true → n.abortArmed.tsg.directlyStopped) := by
  have he : n.abortArmed = (dropped n).directStop := rfl
  have live (hd : n.roles.drive = true) : (dropped n).driveLive = true := by
    have drive : (dropped n).roles.drive = true := by simpa [Node.roles, dropped_frame n] using hd
    simp [Node.driveLive, Node.inService, dropped_seq, drive]
  rw [he]
  refine ⟨by simp, ?_, fun hd => ?_⟩
  · exact (directStop_notices _ _ (.refl _)).keeps_notified (by simp [dropped]) (dropped_notified n)
  · rw [directStop_tsg, if_pos (live hd)]
    exact stopped_directly (dropped n).tsg

/-- What an ABORT leaves of a test in HALTED. -/
theorem abortHalted_ends {n : Node} (ha : n.active = true) :
    n.abortHalted.seq.test = some .ended ∧ n.abortHalted.seq.endCause = some .byAbort ∧
      n.notified n.abortHalted ∧ n.abortHalted.hlt = n.hlt.noted ∧ n.abortHalted.faultOut = false ∧
      n.abortHalted.drvEn = true ∧ (n.roles.drive = true → n.abortHalted.tsg.directlyStopped) ∧
      (n.roles.drive = true → n.abortHalted.tsg.pulses = roundDiv n.absolutePos n.img.drive.step) := by
  let k := n.setHlt n.hlt.noted
  let e := k.enterEnded .byAbort .byAbort
  have he : n.abortHalted = e.resync := rfl
  have test : e.resync.seq.test = some .ended := by simp [e]
  have act : e.resync.active = true := by simpa [e, k, Node.active] using ha
  have stop (hd : n.roles.drive = true) : e.tsg.directlyStopped := enterEnded_stops (n := k) _ _ hd
  rw [he]
  refine ⟨test, by simp [e], ?_, by simp [e, k], faultOut_eq_false act (by simp [e]),
    drvEn_eq_true act (by simp [e]), fun hd => resync_stops (stop hd), fun hd => ?_⟩
  · have before : Notices n k := setHlt_notices _ _ _ (.refl n)
    have ended := before.notified_before (enterEnded_notified k .byAbort .byAbort)
    exact fun h => by simpa [e] using ended h
  · have drive : e.roles.drive = true := by simpa [e, k, Node.roles] using hd
    have live : e.driveLive = true := by simp [Node.driveLive, Node.inService, drive, e]
    have count : e.tsg.count = n.tsg.count := by
      rw [(enterEnded_effect k .byAbort .byAbort).2]
      split <;> simp [k]
    have img : e.img = n.img := by simp [Node.img, e, k]
    rw [resync_tsg live]
    simp only [Node.absolutePos, count, img]

/-! ### CLEAR (R19, R22, R125, R147) -/

/-- The node whose order CLEAR drops: no halt record, the break detector disarmed. -/
def clearedRecord (n : Node) : Node :=
  (n.setHlt { n.hlt with record := none, stopPrev := false }).setLc { n.lc with breakArmed := false }

theorem cleared_eq (n : Node) : n.cleared = (dropped (clearedRecord n)).clearEncFault := rfl

theorem clearEncFault_tsg (n : Node) : n.clearEncFault.tsg.count = n.tsg.count ∧
    (n.driveLive = true → n.clearEncFault.tsg.encFault = false) := by
  unfold Node.clearEncFault
  split
  · exact ⟨rfl, fun _ => rfl⟩
  · rename_i h
    exact ⟨rfl, fun hd => absurd hd h⟩

/-- What CLEAR leaves, before the resynchronisation. -/
theorem cleared_drops {n : Node} (ha : n.active = true) :
    n.cleared.seq = (dropped n).seq ∧ n.notified n.cleared ∧
      n.cleared.hlt = { n.hlt with record := none, stopPrev := false } ∧ n.cleared.active = true ∧
      n.cleared.lc = { n.lc with breakArmed := false } ∧ n.cleared.tsg.count = n.tsg.count ∧
      (n.roles.drive = true → n.cleared.tsg.encFault = false) := by
  let k := dropped (clearedRecord n)
  have seq : k.seq = (dropped n).seq := by
    simp only [k, dropped_seq]
    rfl
  have before : Notices n (clearedRecord n) :=
    setLc_notices _ _ _ (setHlt_notices _ _ _ (.refl n))
  obtain ⟨count, fault⟩ := clearEncFault_tsg k
  rw [cleared_eq]
  refine ⟨by simpa using seq, ?_, ?_, ?_, ?_, ?_, fun hd => fault ?_⟩
  · have taken := before.notified_before (dropped_notified (clearedRecord n))
    exact fun h => by simpa using taken h
  · simp [dropped, clearedRecord]
  · simpa [dropped, clearedRecord, Seq.dropOrder, Node.active] using ha
  · simp [dropped, clearedRecord]
  · simpa [k, dropped_tsg, clearedRecord] using count
  · have drive : k.roles.drive = true := by simpa [k, dropped, clearedRecord, Node.roles] using hd
    simp [Node.driveLive, Node.inService, seq, dropped_seq, drive]

/-- Settles O44: each command, in each test state, by what it leaves of the node without its frame. -/
theorem abortAndClearTaken : Obligations.AbortAndClearTaken := by
  intro n q f t ha ht empty synced
  have before := popped_notices n
  have act : n.popped.active = true := ha
  have test : n.popped.seq.test = some t := ht
  refine ⟨fun hd => ⟨?_, ?_, ?_⟩, fun hd hs => ?_⟩
  · rintro rfl
    refine ⟨_, exec_of_delivers q rfl hd, ?_⟩
    rw [show n.popped.takeAbort f = n.popped.abortArmed by simp [Node.takeAbort, ha, ht]]
    obtain ⟨seq, state, stop⟩ := abortArmed_drops n.popped
    refine ⟨?_, before.notified_before state, stop, by simp, by simp, by simp, by simp, by simp⟩
    rw [seq, dropped_seq]
    rfl
  · intro hs
    refine ⟨_, exec_of_delivers q rfl hd, ?_⟩
    have takes : n.popped.takeAbort f = n.popped.enterEnded .byAbort .byAbort := by
      rcases hs with rfl | rfl <;> simp [Node.takeAbort, ha, ht]
    rw [takes]
    refine ⟨by simp, by simp, ?_, before.notified_before (enterEnded_notified _ _ _),
      fun hd => enterEnded_stops (n := n.popped) _ _ hd, by simp, by simp, by simp, by simp, by simp⟩
    refine closedBy_congr ?_ ?_ ?_ ?_ ?_ ?_ ?_ (enterEnded_closedBy n.popped .byAbort .byAbort) <;> simp
  · rintro rfl
    refine ⟨_, exec_of_delivers q rfl hd, ?_⟩
    rw [show n.popped.takeAbort f = n.popped.abortHalted by simp [Node.takeAbort, ha, ht]]
    obtain ⟨ended, cause, state, hlt, fault, drv, stop, pulses⟩ := abortHalted_ends act
    exact ⟨ended, cause, before.notified_before state, hlt, fault, drv, stop, pulses,
      by simp [Node.abortHalted], by simp, by simp, by simp⟩
  · obtain ⟨seq, state, hlt, act', lc, count, fault⟩ := cleared_drops act
    refine ⟨_, exec_of_delivers q rfl hd, ?_⟩
    rcases hs with rfl | rfl
    · have stands : n.popped.cleared.resync.seq = n.popped.cleared.seq := by simp
      have fresh : n.popped.cleared.resync.seq.test ≠ some .halted := by simp [seq, dropped_seq]
      have act'' : n.popped.cleared.resync.active = true := by simpa [Node.active] using act'
      obtain ⟨_, fault', count'⟩ := resync_keeps n.popped.cleared
      rw [show n.popped.takeClear f = n.popped.cleared.resync by simp [Node.takeClear, ha, ht]]
      refine ⟨?_, ?_, by simpa using hlt, faultOut_eq_false act'' fresh, drvEn_eq_true act'' fresh,
        by simpa using lc, fun hd => ?_, fun _ hd => ?_, ?_, by simp, by simp, by simp⟩
      · rw [stands, seq, dropped_seq]
        rfl
      · have taken := before.notified_before state
        exact fun h => by simpa using taken h
      · rw [fault']
        exact fault hd
      · have drive : n.popped.cleared.roles.drive = true := by simpa [Node.roles] using hd
        have live : n.popped.cleared.driveLive = true := by
          simp [Node.driveLive, Node.inService, seq, dropped_seq, drive]
        have img : n.popped.cleared.img = n.img := by simp [Node.img]
        rw [resync_tsg live]
        simp only [Node.absolutePos, count, img, popped_frame]
      · rw [count', count]
        rfl
    · have fresh : n.popped.cleared.seq.test ≠ some .halted := by simp [seq, dropped_seq]
      rw [show n.popped.takeClear f = n.popped.cleared by simp [Node.takeClear, ha, ht]]
      refine ⟨?_, before.notified_before state, hlt, faultOut_eq_false act' fresh, drvEn_eq_true act' fresh,
        lc, fault, by simp, count, by simp, by simp, by simp⟩
      rw [seq, dropped_seq]
      rfl

end Sys2Proof.Proofs
end

section
/-! PROOFS. The commands that halt, are refused or are ignored (R11, R13, R35, R36, R50, R121, R122, R124, R125). -/
namespace Sys2Proof.Proofs
open Sys2Proof Sys2Proof.Machine Sys2Proof.Laws

/-! ### The checks of START (R122) -/

theorem orderMatches_iff (n : Node) (id : Nat) : n.orderMatches id = true ↔
    ∃ o, n.seq.order = some o ∧ o.testId = id ∧ o.part1 ≠ none ∧ o.part2 ≠ none ∧ o.part3 ≠ none := by
  unfold Node.orderMatches
  split
  · rename_i o ho
    simp [ho, Order.complete, Option.isSome_iff_ne_none, and_assoc]
  · rename_i ho
    simp [ho]

theorem lcBusy_iff (n : Node) : n.lcBusy = true ↔
    n.roles.load = true ∧ (n.lc.balance ≠ none ∨ n.lc.zero ≠ none) := by
  simp [Node.lcBusy, Option.isSome_iff_ne_none]

theorem startChecks_iff (n : Node) (id : Nat) : n.startChecks id = true ↔ n.mayStart id := by
  have motion : (n.roles.drive && n.tsg.towardViolated n.seq.segs[0].fields.motion) = false ↔
      (n.roles.drive = true → n.tsg.towardViolated n.seq.segs[0].fields.motion = false) := by
    cases n.roles.drive <;> simp
  simp only [Node.startChecks, Node.mayStart, Bool.and_eq_true, orderMatches_iff, motion, beq_iff_eq,
    Bool.not_eq_true', lcBusy_eq_false_iff, Seq.entry0, and_assoc]

theorem exhReady_eq_false {n : Node} (h : n.pairClosed = false ∨ n.exh.releaseOut = true) :
    n.exhReady = false := by
  rcases h with h | h <;> simp [Node.exhReady, h]

theorem exhStartFails_arm1 (n : Node) : n.exhStartFails.exh.arm1 = n.exh.arm1 := by
  unfold Node.exhStartFails
  split <;> simp

/-! ### A START that halts (R50, R122) -/

theorem exec_start_notReady {n : Node} {f : RxFrame} (q : List Instr) (hd : n.delivers (.command .start) f)
    (ha : n.active = true) (h : n.seq.test = some .ready ∨
      n.seq.test = some .armed ∧ ¬n.mayStart (nat16At f.payload 1)) :
    exec .start ⟨n, q⟩ = .next ⟨n.popped.localCause .notReady, q⟩ := by
  rw [exec_of_delivers q rfl hd]
  rcases h with ht | ⟨ht, hm⟩
  · simp [Node.takeStart, ha, ht]
  · have fails : ¬n.popped.startChecks (nat16At f.payload 1) = true :=
      fun hc => hm ((startChecks_iff n.popped _).mp hc)
    simp [Node.takeStart, Node.judgeStart, ha, ht, fails]

theorem exec_start_extNotClosed {n : Node} {f : RxFrame} (q : List Instr)
    (hd : n.delivers (.command .start) f) (ha : n.active = true) (ht : n.seq.test = some .armed)
    (hm : n.mayStart (nat16At f.payload 1)) (he : n.roles.ext = true)
    (hr : n.pairClosed = false ∨ n.exh.releaseOut = true) :
    exec .start ⟨n, q⟩ = .next ⟨n.popped.exhStartFails.localCause .extNotClosed, q⟩ := by
  have checks : n.popped.startChecks (nat16At f.payload 1) = true :=
    (startChecks_iff n.popped _).mpr hm
  have ready : n.popped.exhReady = false := exhReady_eq_false (n := n.popped) hr
  rw [exec_of_delivers q rfl hd]
  simp [Node.takeStart, Node.judgeStart, ha, ht, he, checks, ready]

/-! ### Commands that are ignored or refused (R121) -/

/-- A refusal of a command that was delivered. -/
theorem popped_refuse (n : Node) (c : RefusalCode) :
    n.popped.refuse c = { n.popped with seq := { n.seq with refusal := some c } } := rfl

theorem judgeJog_refuses (n : Node) (v : Int) (t : TestState) (ht : n.seq.test = some t) :
    let jogs : Prop := t = .ready ∨ t = .armed ∨ t = .ended
    let inRange : Prop := v ≠ 0 ∧ (v.natAbs : Int) ≤ n.img.drive.vMax
    (n.roles.drive = false → n.judgeJog v = n.refuse .noRole) ∧
      (n.roles.drive = true → ¬jogs → n.judgeJog v = n.refuse .notAllowed) ∧
      (n.roles.drive = true → jogs → ¬inRange → n.judgeJog v = n.refuse .badField) ∧
      (n.roles.drive = true → jogs → inRange → n.tsg.towardViolated v = true →
        n.judgeJog v = n.refuse .limit) := by
  intro jogs inRange
  have takes : t.takesJog = true ↔ jogs := by cases t <;> simp [TestState.takesJog, jogs]
  have out : (v = 0 ∨ n.img.drive.vMax < (v.natAbs : Int)) ↔ ¬inRange := by
    simp only [inRange]
    omega
  simp only [Node.judgeJog, ht, Option.map_some, Option.getD_some, out]
  refine ⟨fun hr => by simp [hr], fun hr hj => ?_, fun hr hj hi => ?_, fun hr hj hi hv => ?_⟩
  · simp [hr, Bool.not_eq_true _ ▸ mt takes.mp hj]
  · simp [hr, takes.mpr hj, hi]
  · simp [hr, takes.mpr hj, hi, hv]

/-- The commands of the test, in the test states that do not take them (R121, R124, R125). -/
theorem test_commands_refuse {n : Node} {t : TestState} (f : RxFrame) (ha : n.active = true)
    (ht : n.seq.test = some t) :
    (t = .halted ∨ t = .ended → n.takeStart f = n.refuse .notAllowed) ∧
      (t ≠ .running → t ≠ .paused → n.takePause f = n.refuse .notAllowed ∧
        n.takeResume f = n.refuse .notAllowed) ∧
      (t = .ready → n.takeAbort f = n.refuse .notAllowed) ∧
      (t = .running ∨ t = .paused → n.takeClear f = n.refuse .notAllowed) := by
  refine ⟨?_, fun running paused => ⟨?_, ?_⟩, ?_, ?_⟩
  · rintro (rfl | rfl) <;> simp [Node.takeStart, ha, ht]
  · cases t <;> simp_all [Node.takePause]
  · cases t <;> simp_all [Node.takeResume]
  · rintro rfl
    simp [Node.takeAbort, ha, ht]
  · rintro (rfl | rfl) <;> simp [Node.takeClear, ha, ht]

/-- The commands of the test, in the test states that ignore them (R121, R124, R125). -/
theorem test_commands_ignore {n : Node} {t : TestState} (f : RxFrame) (ha : n.active = true)
    (ht : n.seq.test = some t) :
    (t = .running ∨ t = .paused → n.takeStart f = n) ∧ (t = .paused → n.takePause f = n) ∧
      (t = .running → n.takeResume f = n) ∧ (t = .ended → n.takeAbort f = n) ∧
      (t = .ready ∨ t = .armed → n.takeClear f = n) := by
  refine ⟨?_, ?_, ?_, ?_, ?_⟩
  · rintro (rfl | rfl) <;> simp [Node.takeStart, ha, ht]
  · rintro rfl
    simp [Node.takePause, ha, ht]
  · rintro rfl
    simp [Node.takeResume, ha, ht]
  · rintro rfl
    simp [Node.takeAbort, ha, ht]
  · rintro (rfl | rfl) <;> simp [Node.takeClear, ha, ht]

/-- The refusals of ZERO, in the order of its checks (R11). -/
theorem takeZero_refuses {n : Node} (f : RxFrame) (ha : n.active = true) :
    (n.roles.load = false → n.roles.ext = false → n.takeZero f = n.refuse .noRole) ∧
      (n.roles.load = true ∨ n.roles.ext = true →
        (n.beforeTest = false → n.takeZero f = n.refuse .notAllowed) ∧
        (n.beforeTest = true → n.lcBusy = true → n.takeZero f = n.refuse .busy)) := by
  refine ⟨fun hl he => by simp [Node.takeZero, ha, hl, he], fun hr => ⟨fun hb => ?_, fun hb hy => ?_⟩⟩
  · rcases hr with hr | hr <;> simp [Node.takeZero, ha, hr, hb]
  · rcases hr with hr | hr <;> simp [Node.takeZero, ha, hr, hb, hy]

/-- The refusals of BALANCE, in the order of its checks (R13). -/
theorem takeBalance_refuses {n : Node} (f : RxFrame) (ha : n.active = true) :
    (n.roles.load = false → n.takeBalance f = n.refuse .noRole) ∧
      (n.roles.load = true →
        (n.beforeTest = false → n.takeBalance f = n.refuse .notAllowed) ∧
        (n.beforeTest = true → n.lcBusy = true → n.takeBalance f = n.refuse .busy)) :=
  ⟨fun hl => by simp [Node.takeBalance, ha, hl],
    fun hl => ⟨fun hb => by simp [Node.takeBalance, ha, hl, hb],
      fun hb hy => by simp [Node.takeBalance, ha, hl, hb, hy]⟩⟩

/-- The node after a local cause that follows changes of the extensometer handler alone: what a START that
halts leaves. -/
theorem halts_unstarted {n k : Node} {c : HaltCause} (h : Notices n k) (live : Live k)
    (hc : c ≠ .duplicateId) (hs : k.sul = n.sul) (hl : k.lc = n.lc) (hx : k.exh.arm1 = n.exh.arm1)
    (hm : k.hlm = n.hlm) (hp : k.datums = n.datums) :
    n.haltedBy (k.localCause c) c n.nodeId ∧ (k.localCause c).lc = n.lc ∧
      (k.localCause c).exh.arm1 = n.exh.arm1 ∧ (k.localCause c).hlm = n.hlm ∧
      (k.localCause c).datums = n.datums := by
  have id : k.nodeId = n.nodeId := by simp [Node.nodeId, hs]
  refine ⟨haltedBy_before h hs (id ▸ localCause_haltedBy live hc), ?_, ?_, ?_, ?_⟩
  · simpa using hl
  · rw [(localCause_arms k c).1, hx]
  · simpa using hm
  · simpa using hp

/-- Settles O42, command by command: what each does with the node without its frame. -/
theorem commandsHaltedRefusedOrIgnored : Obligations.CommandsHaltedRefusedOrIgnored := by
  intro n q f t ha ht ignored refused busy
  have act : n.popped.active = true := ha
  have test : n.popped.seq.test = some t := ht
  have isBusy (h : busy) : n.popped.lcBusy = true := (lcBusy_iff n).mpr h
  obtain ⟨start, pauseResume, abort, clear⟩ := test_commands_refuse f act test
  obtain ⟨start', pause', resume', abort', clear'⟩ := test_commands_ignore f act test
  have ignores {i : Instr} {a : Arrival} {take : Node → RxFrame → Node} (hd : n.delivers a f)
      (hi : exec i ⟨n, q⟩ = (⟨n, q⟩ : State).ran (n.deliver a take)) (h : take n.popped f = n.popped) :
      exec i ⟨n, q⟩ = ignored := by
    rw [exec_of_delivers q hi hd, h]
  have refuses {i : Instr} {a : Arrival} {take : Node → RxFrame → Node} {c : RefusalCode}
      (hd : n.delivers a f) (hi : exec i ⟨n, q⟩ = (⟨n, q⟩ : State).ran (n.deliver a take))
      (h : take n.popped f = n.popped.refuse c) : exec i ⟨n, q⟩ = refused c := by
    rw [exec_of_delivers q hi hd, h, popped_refuse]
  refine ⟨fun hd => ⟨fun h => ?_, fun armed hm he hr => ?_, fun h => ?_, fun h => ?_⟩,
    fun hd => ⟨fun h => ?_, fun h1 h2 => ?_⟩, fun hd => ⟨fun h => ?_, fun h1 h2 => ?_⟩,
    fun hd => ⟨fun h => ?_, fun h => ?_⟩, fun hd => ⟨fun h => ?_, fun h => ?_⟩, fun hd => ?_,
    fun hd => ⟨fun h1 h2 => ?_, fun h => ⟨fun hb => ?_, fun hb hy => ?_⟩⟩,
    fun hd => ⟨fun h => ?_, fun h => ⟨fun hb => ?_, fun hb hy => ?_⟩⟩, fun hd => ?_, fun hd h => ?_⟩
  -- START
  · have live : Live n.popped := by
      rcases h with rfl | ⟨rfl, _⟩ <;> simp [Live, ht]
    refine ⟨_, exec_start_notReady q hd ha ?_, ?_⟩
    · rcases h with rfl | ⟨rfl, hm⟩
      · exact .inl ht
      · exact .inr ⟨ht, hm⟩
    · exact halts_unstarted (popped_notices n) live (by decide) rfl rfl rfl rfl rfl
  · subst armed
    have live : Live n.popped.exhStartFails := by simp [Live, ht]
    refine ⟨_, exec_start_extNotClosed q hd ha ht hm he hr, ?_⟩
    exact halts_unstarted (exhStartFails_notices _ _ (popped_notices n)) live (by decide) (by simp)
      (by simp) (exhStartFails_arm1 n.popped) (by simp) (by simp)
  · exact ignores hd rfl (start' h)
  · exact refuses hd rfl (start h)
  -- PAUSE, RESUME, ABORT, CLEAR and an unknown command
  · exact ignores hd rfl (pause' h)
  · exact refuses hd rfl (pauseResume h1 h2).1
  · exact ignores hd rfl (resume' h)
  · exact refuses hd rfl (pauseResume h1 h2).2
  · exact ignores hd rfl (abort' h)
  · exact refuses hd rfl (abort h)
  · exact ignores hd rfl (clear' h)
  · exact refuses hd rfl (clear h)
  · exact refuses (take := Node.takeUnknown) hd rfl (by simp [Node.takeUnknown, ha])
  -- ZERO and BALANCE
  · exact refuses hd rfl ((takeZero_refuses f act).1 h1 h2)
  · exact refuses hd rfl (((takeZero_refuses f act).2 h).1 hb)
  · exact refuses hd rfl (((takeZero_refuses f act).2 h).2 hb (isBusy hy))
  · exact refuses hd rfl ((takeBalance_refuses f act).1 h)
  · exact refuses hd rfl (((takeBalance_refuses f act).2 h).1 hb)
  · exact refuses hd rfl (((takeBalance_refuses f act).2 h).2 hb (isBusy hy))
  -- JOG and STOP-JOG
  · have jog : n.popped.takeJog f = n.popped.judgeJog (int32At f.payload 1) := by simp [Node.takeJog, ha]
    obtain ⟨noRole, notAllowed, badField, limit⟩ :=
      judgeJog_refuses n.popped (int32At f.payload 1) t test
    exact ⟨fun h => refuses hd rfl (jog.trans (noRole h)),
      fun h hj => refuses hd rfl (jog.trans (notAllowed h hj)),
      fun h hj hi => refuses hd rfl (jog.trans (badField h hj hi)),
      fun h hj hi hv => refuses hd rfl (jog.trans (limit h hj hi hv))⟩
  · exact refuses (take := Node.takeStopJog) hd rfl (by simp [Node.takeStopJog, ha, h])

end Sys2Proof.Proofs
end

section
/-! PROOFS. The force of a code by a table of rising codes (R3). -/
namespace Sys2Proof.Proofs
open Sys2Proof Sys2Proof.Machine Sys2Proof.Laws

/-! ### The clamp -/

theorem publishedForce_eq (t : List CalPoint) (x : Int) : publishedForce t x =
    (if tableForce t x < -30000000 then -30000000
      else if 30000000 < tableForce t x then 30000000 else tableForce t x,
      decide (tableForce t x < -30000000 ∨ 30000000 < tableForce t x)) := by
  generalize hf : tableForce t x = f
  simp only [publishedForce, clamp, forceLimit, hf]
  by_cases below : f < -30000000
  · simp [below, Int.ne_of_gt below]
  · by_cases above : 30000000 < f
    · simp [below, above, Int.ne_of_lt above]
    · simp [below, above]

/-! ### Rounding at a point -/

theorem half_beyond {d : Int} (hd : 0 < d) (f : Int) : (2 * (d * f) + d) / (2 * d) = f := by
  have split_ : 2 * (d * f) + d = d + 2 * d * f := by rw [Int.mul_assoc, Int.add_comm]
  rw [split_, Int.add_mul_ediv_left _ _ (by omega), Int.ediv_eq_zero_of_lt (by omega) (by omega),
    Int.zero_add]

theorem roundDiv_mul_self {d : Int} (hd : 0 < d) (f : Int) : roundDiv (d * f) d = f := by
  have abs : (d.natAbs : Int) = d := Int.natAbs_of_nonneg (Int.le_of_lt hd)
  have minus : -(d * f) = d * -f := (Int.mul_neg d f).symm
  have nonzero : d ≠ 0 := Int.ne_of_gt hd
  have positive : ¬d < 0 := Int.not_lt.mpr (Int.le_of_lt hd)
  simp only [roundDiv, nonzero, positive, if_false, abs, minus, half_beyond hd, Int.neg_neg, ite_self]

/-! ### The segment of a code -/

/-- A table of rising codes. -/
abbrev Rising (t : List CalPoint) : Prop := (t.map (·.code)).Pairwise (· < ·)

theorem tableForce_first {a b : CalPoint} {post : List CalPoint} {x : Int} (h : x < b.code) :
    tableForce (a :: b :: post) x = segmentForce a b x := by
  cases post with
  | nil => rfl
  | cons c rest => exact if_pos h

/-- A code from the second point on is judged by the rest of the table, where that is a segment or more. -/
theorem tableForce_skip {a b : CalPoint} {rest : List CalPoint} {x : Int} (hr : rest ≠ [])
    (h : b.code ≤ x) : tableForce (a :: b :: rest) x = tableForce (b :: rest) x := by
  cases rest with
  | nil => exact absurd rfl hr
  | cons c rest => exact if_neg (Int.not_lt.mpr h)

/-- A code from a point on is judged by the table from that point on. -/
theorem tableForce_append {a b : CalPoint} {post : List CalPoint} {x : Int} (pre : List CalPoint)
    (rise : Rising (pre ++ a :: b :: post)) (h : a.code ≤ x) :
    tableForce (pre ++ a :: b :: post) x = tableForce (a :: b :: post) x := by
  induction pre with
  | nil => rfl
  | cons p pre ih =>
    have rest : Rising (pre ++ a :: b :: post) := (List.pairwise_cons.mp rise).2
    rw [← ih rest]
    cases pre with
    | nil => exact tableForce_skip (by simp) h
    | cons p' pre =>
      have before : p'.code < a.code := (List.pairwise_cons.mp rest).1 _ (by simp)
      exact tableForce_skip (by simp) (by omega)

theorem tableForce_between {a b : CalPoint} {post : List CalPoint} {x : Int} (pre : List CalPoint)
    (rise : Rising (pre ++ a :: b :: post)) (lo : a.code ≤ x) (hi : x < b.code) :
    tableForce (pre ++ a :: b :: post) x = segmentForce a b x := by
  rw [tableForce_append pre rise lo, tableForce_first hi]

theorem tableForce_last {a b : CalPoint} {x : Int} (pre : List CalPoint) (rise : Rising (pre ++ [a, b]))
    (h : a.code ≤ x) : tableForce (pre ++ [a, b]) x = segmentForce a b x :=
  tableForce_append pre rise h

theorem segmentForce_left {a b : CalPoint} (h : a.code < b.code) : segmentForce a b a.code = a.force := by
  have none_ : (a.code - a.code) * (b.force - a.force) = (b.code - a.code) * 0 := by
    rw [Int.sub_self, Int.zero_mul, Int.mul_zero]
  rw [segmentForce, none_, roundDiv_mul_self (by omega), Int.add_zero]

theorem segmentForce_right {a b : CalPoint} (h : a.code < b.code) : segmentForce a b b.code = b.force := by
  rw [segmentForce, roundDiv_mul_self (by omega)]
  omega

/-- At a point of the table the force is the point's. -/
theorem tableForce_point {t : List CalPoint} {p : CalPoint} (rise : Rising t) (hp : p ∈ t) :
    tableForce t p.code = p.force := by
  obtain ⟨pre, post, rfl⟩ := List.append_of_mem hp
  cases post with
  | cons b post =>
    have next : p.code < b.code := by
      have from_p : Rising (p :: b :: post) := by
        rw [Rising, List.map_append] at rise
        exact (List.pairwise_append.mp rise).2.1
      exact (List.pairwise_cons.mp from_p).1 _ (by simp)
    rw [tableForce_between pre rise (Int.le_refl _) next, segmentForce_left next]
  | nil =>
    rcases List.eq_nil_or_concat pre with rfl | ⟨pre, a, rfl⟩
    · rfl
    · have whole : pre.concat a ++ [p] = pre ++ [a, p] := by simp
      rw [whole] at rise ⊢
      have next : a.code < p.code := by
        rw [Rising, List.map_append] at rise
        exact (List.pairwise_cons.mp (List.pairwise_append.mp rise).2.1).1 _ (by simp)
      rw [tableForce_last pre rise (Int.le_of_lt next), segmentForce_right next]

end Sys2Proof.Proofs
end

section
/-! PROOFS. The sample a publish point forms: what it raises, what its consumers leave of the load channel, and the
overload that halts (R4 to R6, R17, R18, R52). -/
namespace Sys2Proof.Proofs
open Sys2Proof Sys2Proof.Machine Sys2Proof.Laws

/-! ### The force maxima (R18, R52) -/

/-- A node whose force maxima have taken a sample. -/
def raisedBy (n : Node) (e : HistEntry) : Node :=
  if n.testInProgress then { n with
    lc := { n.lc with fmax := max n.lc.fmax e.value }
    exh := { n.exh with forceMax :=
      if n.roles.ext then max n.exh.forceMax e.value else n.exh.forceMax } }
  else n

theorem exhForce_updateFmax {n : Node} {e : HistEntry} (live : n.inService = true)
    (held : e.flags.held = false) : (n.exhForce e).updateFmax e = raisedBy n e := by
  by_cases going : n.testInProgress = true
  · have still (x : Exh) : { n with exh := x }.testInProgress = true := going
    cases ext : n.roles.ext <;>
      simp [raisedBy, Node.exhForce, Node.updateFmax, Node.extLive, live, held, going, still, ext,
        Node.setLc, Node.setExh]
  · simp [raisedBy, Node.exhForce, Node.updateFmax, going]

/-- What the force maxima leave of a node. -/
theorem raisedBy_frame (n : Node) (e : HistEntry) : (raisedBy n e).sul = n.sul ∧
    (raisedBy n e).clk = n.clk ∧ (raisedBy n e).seq = n.seq ∧ (raisedBy n e).fbc = n.fbc ∧
    (raisedBy n e).pta = n.pta ∧ (raisedBy n e).hlm = n.hlm ∧ (raisedBy n e).lc = { n.lc with
      fmax := if n.testInProgress then max n.lc.fmax e.value else n.lc.fmax } := by
  unfold raisedBy
  split <;> simp_all

/-! ### Break detection (R19) -/

/-- Break detection submits STATE notices and a BREAK, and of the load channel it disarms at most the detector. -/
theorem detectBreak_leaves (n : Node) (e : HistEntry) :
    (n.detectBreak e).seq.op = n.seq.op ∧ (Live n → Live (n.detectBreak e)) ∧
      (n.detectBreak e).fbc.loadSlot = n.fbc.loadSlot ∧
      noticeSlot (n.detectBreak e) = noticeSlot n ∧
      ∃ b, (n.detectBreak e).lc = { n.lc with breakArmed := b } := by
  have raise (k : Node) : k.raiseBreak.seq.op = k.seq.op ∧ (Live k → Live k.raiseBreak) ∧
      k.raiseBreak.fbc.loadSlot = k.fbc.loadSlot ∧ noticeSlot k.raiseBreak = noticeSlot k := by
    unfold Node.raiseBreak
    split
    · let s := (k.setBreak k.nodeId).sendBreak k.testId
      have sent : s.fbc.stateSlot = k.fbc.stateSlot := sendBreak_stateSlot _ _
      have slot : s.fbc.loadSlot = k.fbc.loadSlot := by
        simp only [s, Node.sendBreak]
        split <;> rfl
      have kept : Notices s s.deliverBreak := by simp
      refine ⟨kept.op.trans (by simp [s]), fun h => kept.live ?_, kept.loadSlot.trans slot, ?_⟩
      · simpa [Live, s] using h
      · rw [kept.noticeSlot]
        simp [noticeSlot, sent, s]
    · exact ⟨rfl, id, rfl, rfl⟩
  unfold Node.detectBreak
  split
  · split
    · obtain ⟨op, live, slot, notice⟩ := raise (n.setLc { n.lc with breakArmed := false })
      exact ⟨op, live, slot, notice, false, by simp⟩
    · exact ⟨rfl, id, rfl, rfl, n.lc.breakArmed, rfl⟩
  · exact ⟨rfl, id, rfl, rfl, n.lc.breakArmed, rfl⟩

/-! ### The consumers of a sample (log 6) -/

/-- A sample offered to its consumers, once the force maxima have taken it. -/
def offered (n : Node) (e : HistEntry) : Node :=
  ((((n.cmuArrival .loadRate e).evalLoad e).detectBreak e).checkOverload e).watchForce e

theorem checkOverload_loadSlot (n : Node) (e : HistEntry) :
    (n.checkOverload e).fbc.loadSlot = n.fbc.loadSlot := by
  unfold Node.checkOverload
  split
  · exact localCause_loadSlot n .overload
  · rfl

theorem watchForce_of_halted {n : Node} (e : HistEntry) (h : n.seq.test = some .halted) :
    n.watchForce e = n := by
  simp [Node.watchForce, Node.judgeEnd, Node.meets, h]

/-- The consumers leave the LOAD sample in its slot, and the load channel but for the break detector. -/
theorem offered_leaves (n : Node) (e : HistEntry) :
    (offered n e).fbc.loadSlot = n.fbc.loadSlot ∧ (offered n e).hlm = n.hlm ∧ (offered n e).pta = n.pta ∧
      (offered n e).sul = n.sul ∧ (offered n e).clk = n.clk ∧
      ∃ b, (offered n e).lc = { n.lc with breakArmed := b } := by
  let k := (n.cmuArrival .loadRate e).evalLoad e
  have before : Notices n k := by simp [k]
  obtain ⟨_, _, slot, _, b, lc⟩ := detectBreak_leaves k e
  have after_ : Notices ((k.detectBreak e).checkOverload e) (offered n e) := by simp [offered, k]
  refine ⟨?_, by simp [offered], by simp [offered], by simp [offered], by simp [offered], b, ?_⟩
  · rw [after_.loadSlot, checkOverload_loadSlot, slot, before.loadSlot]
  · have kept : (offered n e).lc = (k.detectBreak e).lc := by simp [offered, k]
    rw [kept, lc]
    simp [k]

/-- An overload halts a node that is not halted (R17). -/
theorem offered_overload {n : Node} {e : HistEntry} (live : Live n) (held : e.flags.held = false)
    (high : n.img.load.overloadLimit < (e.value.natAbs : Int) ∨ e.flags.overrange = true) :
    n.haltedBy (offered n e) .overload n.nodeId := by
  let k := (n.cmuArrival .loadRate e).evalLoad e
  let d := k.detectBreak e
  have before : Notices n k := by simp [k]
  obtain ⟨op, stays, _, notice, _⟩ := detectBreak_leaves k e
  have sul : d.sul = n.sul := by simp [d, k]
  have clk : d.clk = n.clk := by simp [d, k]
  have id : d.nodeId = n.nodeId := by simp [Node.nodeId, sul]
  have halted : d.haltedBy (d.localCause .overload) .overload d.nodeId :=
    localCause_haltedBy (stays (before.live live)) (by decide)
  have check : d.checkOverload e = d.localCause .overload := by
    have limit : d.img = n.img := by simp [Node.img, sul]
    unfold Node.checkOverload
    rw [if_pos]
    simpa [held, limit] using high
  have last : offered n e = d.localCause .overload := by
    have test : (d.checkOverload e).seq.test = some .halted := check ▸ halted.1
    exact (watchForce_of_halted e test).trans check
  rw [last, ← id]
  exact haltedBy_congr clk (op.trans before.op) sul (notice.trans before.noticeSlot) halted

/-! ### The sample of a publish point (R4 to R6) -/

/-- A load channel that the conversion of `n` has measured, and of which nothing is published yet. -/
structure Measured (n : Node) (l : Lc) : Prop where
  balance : l.balance = none
  decim : l.decim = n.lc.decim
  prod : l.prod = n.lc.prod
  hist : l.hist = n.lc.hist
  lastGood : l.lastGood = n.lc.lastGood
  fmax : l.fmax = n.lc.fmax
  newest : l.acc.newest = n.now

/-- The node after a conversion with code `c` that has measured `l`. -/
def measured (n : Node) (c : Int) (l : Lc) (x : Seq) (h : Hlm) : Node :=
  { n with pins := { n.pins with bridge := c }, lc := l, seq := x, hlm := h }

/-- The same node, when the sample has gone to its slot and to the history. -/
def sampled (n : Node) (c : Int) (l : Lc) (x : Seq) (h : Hlm) (e : HistEntry) : Node := { n with
  pins := { n.pins with bridge := c }
  lc := { l with
    decim := 0, prod := n.lc.prod + 1, hist := pushHist n.lc.hist e
    lastGood := if e.flags.held then n.lc.lastGood else e.value
    acc := { sum := 0, count := 0, newest := n.now, fullScale := false } }
  fbc := if n.active then { n.fbc with loadSlot := refill n.fbc.loadSlot (broadcastFrame .sample
      (samplePayload .load e.flags (byteOf l.range.val) n.now e.value)) n.now }
    else n.fbc
  seq := x, hlm := h }

/-- The sample of the mean code. -/
def meanSample (n : Node) (l : Lc) (h : Hlm) : HistEntry :=
  let f := publishedForce n.img.load.tables[l.range] (roundDiv l.acc.sum l.acc.count)
  ⟨n.lc.prod, n.now, f.1, { overrange := f.2 || l.acc.fullScale, degraded := h.degraded .load }⟩

theorem loadSample_of_codes {n : Node} {c : Int} {l : Lc} (x : Seq) (h : Hlm) (u : Measured n l)
    (hc : l.acc.count ≠ 0) : (measured n c l x h).loadSample = meanSample n l h := by
  have codes : ¬(l.acc.count = 0 ∨ l.balance.isSome = true) := by simp [hc, u.balance]
  unfold Node.loadSample
  rw [if_neg (by exact codes)]
  simp only [measured, u.prod, u.newest]
  rfl

/-- The sample goes to its slot and to the history, and then to the consumers. -/
theorem publishLoad_eq {n : Node} {c : Int} {l : Lc} {x : Seq} {h : Hlm} {e : HistEntry}
    (u : Measured n l) (ho : x.op = n.seq.op) (he : (measured n c l x h).loadSample = e)
    (time : e.time = n.now) :
    (measured n c l x h).publishLoad = (sampled n c l x h e).consumeLoad e := by
  have act : (measured n c l x h).active = n.active := by simp [Node.active, measured, ho]
  have lc : l.published e = (sampled n c l x h e).lc := by
    simp only [Lc.published, emptyAcc, sampled, u.prod, u.hist, u.lastGood, u.newest]
  simp only [Node.publishLoad, he, sent_and_entered, act, time]
  simp only [measured, lc]
  rfl

/-- The sample that reports the last good force. -/
def lastSample (n : Node) (h : Hlm) : HistEntry :=
  ⟨n.lc.prod, n.now, n.lc.lastGood, { held := true, degraded := h.degraded .load }⟩

theorem loadSample_of_emptied {n : Node} {c : Int} {l : Lc} (x : Seq) (h : Hlm) (u : Measured n l)
    (hc : l.acc.count = 0) : (measured n c l x h).loadSample = lastSample n h := by
  rw [loadSample_of_held (balancing := false) (by simp [measured, u.balance]) (.inl (by exact hc))]
  simp only [heldSample, measured, u.prod, u.lastGood]
  rfl

/-- The answer of an accepted conversion at a publish point. -/
theorem exec_conversion_published {n : Node} (q : List Instr) {c : Int} {l : Lc} {x : Seq} {h : Hlm}
    {e : HistEntry} (live : n.lcLive = true) (lo : -8388607 ≤ c) (hi : c ≤ 8388607)
    (hb : n.lc.balance = none) (hs : n.lc.settle = 0) (point : n.lc.decim + 1 = n.loadEvery)
    (u : Measured n l) (ho : x.op = n.seq.op)
    (ha : (n.setPins { n.pins with bridge := c }).acceptConversion c = measured n c l x h)
    (he : (measured n c l x h).loadSample = e) (time : e.time = n.now) :
    exec (.conversionComplete c) ⟨n, q⟩ = .next ⟨(sampled n c l x h e).consumeLoad e, q⟩ := by
  refine exec_conversionComplete q live lo hi ?_
  have settled := (measure_of_settled (n := n.setPins { n.pins with bridge := c }) c hb hs).trans
    (congrArg (·, none) ha)
  have here : (measured n c l x h).lc.decim + 1 = (measured n c l x h).loadEvery :=
    (congrArg (· + 1) u.decim).trans point
  exact (convert_of_measure settled).trans ((publishStage_of_point here).trans (publishLoad_eq u ho he time))

/-- Where the range stays, the mean code's sample is offered to the consumers. -/
theorem exec_conversion_formed {n : Node} (q : List Instr) {c : Int} {l : Lc} {x : Seq} {h : Hlm}
    (live : n.lcLive = true) (lo : -8388607 ≤ c) (hi : c ≤ 8388607)
    (hb : n.lc.balance = none) (hs : n.lc.settle = 0) (point : n.lc.decim + 1 = n.loadEvery)
    (u : Measured n l) (hc : l.acc.count ≠ 0) (ho : x.op = n.seq.op) (ht : x.test = n.seq.test)
    (ha : (n.setPins { n.pins with bridge := c }).acceptConversion c = measured n c l x h) :
    exec (.conversionComplete c) ⟨n, q⟩ = .next ⟨offered
      (raisedBy (sampled n c l x h (meanSample n l h)) (meanSample n l h)) (meanSample n l h), q⟩ := by
  have serv : (sampled n c l x h (meanSample n l h)).inService = true := by
    have := inService_of_lcLive live
    simpa [Node.inService, sampled, ht] using this
  rw [exec_conversion_published q live lo hi hb hs point u ho ha (loadSample_of_codes x h u hc) rfl]
  rw [← exhForce_updateFmax serv rfl]
  rfl

/-- Where the range changes, the sample carries the last good force and no block takes it. -/
theorem exec_conversion_emptied {n : Node} (q : List Instr) {c : Int} {l : Lc} {x : Seq} {h : Hlm}
    (live : n.lcLive = true) (lo : -8388607 ≤ c) (hi : c ≤ 8388607)
    (hb : n.lc.balance = none) (hs : n.lc.settle = 0) (point : n.lc.decim + 1 = n.loadEvery)
    (u : Measured n l) (hc : l.acc.count = 0) (ho : x.op = n.seq.op)
    (ha : (n.setPins { n.pins with bridge := c }).acceptConversion c = measured n c l x h) :
    exec (.conversionComplete c) ⟨n, q⟩ = .next ⟨sampled n c l x h (lastSample n h), q⟩ := by
  have role : n.roles.load = true := by
    simp only [Node.lcLive, Bool.and_eq_true] at live
    exact live.2
  rw [exec_conversion_published q live lo hi hb hs point u ho ha (loadSample_of_emptied x h u hc) rfl,
    consumeLoad_of_held (by exact role) (by exact newest?_pushHist _ _) rfl]

/-- What a sample that is not held leaves of the load channel, once every consumer has had it. -/
theorem formed_lc {n : Node} {c : Int} {l : Lc} {x : Seq} {h : Hlm} {e : HistEntry} (u : Measured n l)
    (ht : x.test = n.seq.test) (held : e.flags.held = false) :
    ∃ b, (offered (raisedBy (sampled n c l x h e) e) e).lc = { l with
      decim := 0, prod := n.lc.prod + 1, hist := pushHist n.lc.hist e, lastGood := e.value
      acc := { sum := 0, count := 0, newest := n.now, fullScale := false }
      fmax := if n.testInProgress then max n.lc.fmax e.value else n.lc.fmax, breakArmed := b } := by
  obtain ⟨_, _, _, _, _, _, lc⟩ := raisedBy_frame (sampled n c l x h e) e
  obtain ⟨_, _, _, _, _, b, lc'⟩ := offered_leaves (raisedBy (sampled n c l x h e) e) e
  have going : (sampled n c l x h e).testInProgress = n.testInProgress := by
    simp [Node.testInProgress, sampled, ht]
  refine ⟨b, ?_⟩
  rw [lc', lc, going, ← u.fmax]
  simp only [sampled, held]
  rfl

/-- What such a sample leaves of the other blocks. -/
theorem formed_frame (n : Node) (c : Int) (l : Lc) (x : Seq) (h : Hlm) (e : HistEntry) :
    let m := offered (raisedBy (sampled n c l x h e) e) e
    m.fbc.loadSlot = (sampled n c l x h e).fbc.loadSlot ∧ m.hlm = h ∧ m.pta = n.pta ∧ m.sul = n.sul ∧
      m.clk = n.clk := by
  obtain ⟨sul, clk, _, fbc, pta, hlm, _⟩ := raisedBy_frame (sampled n c l x h e) e
  obtain ⟨slot, hlm', pta', sul', clk', _⟩ := offered_leaves (raisedBy (sampled n c l x h e) e) e
  exact ⟨slot.trans (by rw [fbc]), hlm'.trans hlm, pta'.trans pta, sul'.trans sul, clk'.trans clk⟩

/-- An overload at the publish point halts the node it was found in (R17). -/
theorem formed_overload {n : Node} {c : Int} {l : Lc} {x : Seq} {h : Hlm} {e : HistEntry} (live : Live n)
    (ho : x.op = n.seq.op) (ht : x.test = n.seq.test) (held : e.flags.held = false)
    (high : n.img.load.overloadLimit < (e.value.natAbs : Int) ∨ e.flags.overrange = true) :
    n.haltedBy (offered (raisedBy (sampled n c l x h e) e) e) .overload n.nodeId := by
  let k := sampled n c l x h e
  obtain ⟨sul, clk, seq, fbc, _⟩ := raisedBy_frame k e
  have state : k.fbc.stateSlot = n.fbc.stateSlot := by
    simp only [k, sampled]
    split <;> rfl
  have sul' : (raisedBy k e).sul = n.sul := sul
  have clk' : (raisedBy k e).clk = n.clk := clk
  have id : (raisedBy k e).nodeId = n.nodeId := by simp [Node.nodeId, sul']
  have seq' : (raisedBy k e).seq = x := seq
  have halted : (raisedBy k e).haltedBy (offered (raisedBy k e) e) .overload (raisedBy k e).nodeId := by
    refine offered_overload ?_ held ?_
    · simpa only [Live, seq', ht] using live
    · simpa only [Node.img, sul'] using high
  rw [id] at halted
  refine haltedBy_congr clk' (by rw [seq', ho]) sul' ?_ halted
  simp only [noticeSlot, Node.now, fbc, state, clk']

/-- A change of range empties the accumulator, and leaves what a publish point reads. -/
theorem Measured.changeRange {n : Node} {l : Lc} (u : Measured n l) (r : Fin 4) :
    Measured n (l.changeRange r) := ⟨u.1, u.2, u.3, u.4, u.5, u.6, u.7⟩

theorem Measured.count {n : Node} {l : Lc} (u : Measured n l) (d : Nat) :
    Measured n { l with down := d } := ⟨u.1, u.2, u.3, u.4, u.5, u.6, u.7⟩

/-- Settles O8: the table by its segments; a publish point by what the zero's stage makes of the joined code, then by
autorange's four cases. -/
theorem publishPointFormsTheSample : Obligations.PublishPointFormsTheSample := by
  refine ⟨fun t x rise => ⟨?_, ?_, ?_, ?_⟩, fun n => rfl, ?_⟩
  · rintro a b post rfl hx
    rw [publishedForce_eq, tableForce_first hx]
    rfl
  · rintro pre a b post rfl lo hi
    rw [publishedForce_eq, tableForce_between pre rise lo hi]
    rfl
  · rintro pre a b rfl hx
    rw [publishedForce_eq, tableForce_last pre rise hx]
    rfl
  · rintro p hp rfl
    rw [publishedForce_eq, tableForce_point rise hp]
  intro n q c live lo hi hb hs point code acc sampled formed changed up low ranged_
  -- the range stays: the consumers have the sample of the mean code
  have forms (l : Lc) (x : Seq) (h : Hlm) (u : Measured n l) (hc : l.acc.count ≠ 0)
      (ho : x.op = n.seq.op) (ht : x.test = n.seq.test)
      (ha : (n.setPins { n.pins with bridge := c }).acceptConversion c = measured n c l x h) :
      formed l x h := by
    have serv := inService_of_lcLive live
    let e := meanSample n l h
    let k := Proofs.sampled n c l x h e
    have going : k.testInProgress = n.testInProgress := by simp [Node.testInProgress, k, Proofs.sampled, ht]
    have raised : raisedBy k e = if n.testInProgress then { k with
        lc := { k.lc with fmax := max l.fmax e.value }
        exh := { k.exh with forceMax :=
          if n.roles.ext then max n.exh.forceMax e.value else n.exh.forceMax } } else k := by
      rw [← going]
      rfl
    obtain ⟨b, lc⟩ := formed_lc (c := c) (h := h) (e := e) u ht rfl
    obtain ⟨slot, hlm, pta, sul, clk⟩ := formed_frame n c l x h e
    refine ⟨offered (raisedBy k e) e, exec_conversion_formed q live lo hi hb hs point u hc ho ht ha,
      congrArg (offered · e) raised, ?_⟩
    simp only [k, lc, true_and]
    refine ⟨rfl, rfl, rfl, slot, fun calm high => ?_,
      hlm, pta, sul, clk⟩
    have live_ : Live n := ⟨Option.isSome_iff_ne_none.mp serv, calm⟩
    exact formed_overload live_ ho ht rfl high
  -- the range changes: the sample of the last good force
  have changes (l : Lc) (r : Fin 4) (x : Seq) (h : Hlm) (u : Measured n l)
      (ho : x.op = n.seq.op) (ha : (n.setPins { n.pins with bridge := c }).acceptConversion c =
        measured n c (l.changeRange r) x h) : changed l r x h := by
    exact exec_conversion_emptied (l := l.changeRange r) q live lo hi hb hs point (u.changeRange r) rfl ho ha
  -- autorange decides between the two, from the channel the zero's stage leaves
  have ranges (l : Lc) (x : Seq) (h : Hlm) (u : Measured n l) (hc : l.acc.count ≠ 0)
      (hr : l.range = n.lc.range) (hd : l.down = n.lc.down)
      (ho : x.op = n.seq.op) (ht : x.test = n.seq.test)
      (ha : (n.setPins { n.pins with bridge := c }).acceptConversion c =
        measured n c (ranged n c l) x h) : ranged_ l x h := by
    have isUp (hu : up) : stepsUp l c := ⟨hu.1, hr ▸ hu.2⟩
    have notUp (hu : ¬up) : ¬stepsUp l c := fun k => hu ⟨k.1, hr ▸ k.2⟩
    have isLow (hl : low) : countsDown l n.beforeTest c := ⟨hl.1, hr ▸ hl.2.1, hl.2.2⟩
    have notLow (hl : ¬low) : ¬countsDown l n.beforeTest c := fun k => hl ⟨k.1, hr ▸ k.2.1, k.2.2⟩
    refine ⟨fun fixed => ?_, fun auto => ?_⟩
    · exact forms l x h u hc ho ht (by rw [ha, ranged_fixed fixed])
    rw [ranged_auto auto] at ha
    refine ⟨fun r hu next => ?_, fun r hu hl full next => ?_, fun hu hl short => ?_, fun hu hl => ?_⟩
    · rw [autorange_of_up _ (isUp hu) (hr ▸ next)] at ha
      exact changes l r x h u ho ha
    · rw [autorange_of_down (notUp hu) (isLow hl) (hd ▸ full) (hr ▸ next)] at ha
      exact changes l r x h u ho ha
    · rw [autorange_of_count (notUp hu) (isLow hl) (hd ▸ short), hd] at ha
      exact forms _ x h (u.count _) hc ho ht ha
    · rw [autorange_of_rest (notUp hu) (notLow hl)] at ha
      exact forms _ x h (u.count 0) hc ho ht ha
  have counted : n.lc.acc.count + 1 ≠ 0 := Nat.succ_ne_zero _
  refine ⟨fun hz => ?_, fun k s hz => ⟨fun hk => ?_, fun hk limit => ?_, fun hk limit => ?_⟩⟩
  · refine ranges _ _ _ ⟨hb, rfl, rfl, rfl, rfl, rfl, rfl⟩ counted rfl rfl rfl rfl ?_
    have codes : joined n.lc c n.now = { n.lc with acc := acc } := by simp [joined, hz, acc, code]
    rw [← codes, acceptConversion_of_collecting (n := n.setPins { n.pins with bridge := c })
      (by simp [hz, codesOf])]
    rfl
  · refine ranges _ _ _ ⟨hb, rfl, rfl, rfl, rfl, rfl, rfl⟩ counted rfl rfl rfl rfl ?_
    have codes : joined n.lc c n.now = { n.lc with zero := some ⟨k + 1, s + code⟩, acc := acc } := by
      simp [joined, hz, acc, code]
    rw [← codes, acceptConversion_of_collecting (n := n.setPins { n.pins with bridge := c })
      (by simpa [hz, codesOf] using hk)]
    rfl
  · refine ranges _ _ _ ⟨hb, rfl, rfl, rfl, rfl, rfl, rfl⟩ counted rfl rfl rfl rfl ?_
    rw [acceptConversion_of_tare (n := n.setPins { n.pins with bridge := c }) (inService_of_lcLive live)
      hz hk limit]
    rfl
  · refine ranges _ _ _ ⟨hb, rfl, rfl, rfl, rfl, rfl, rfl⟩ counted rfl rfl rfl rfl ?_
    rw [acceptConversion_of_zeroLimit (n := n.setPins { n.pins with bridge := c }) hz hk limit]
    rfl

end Sys2Proof.Proofs
end

section
/-! PROOFS. What no consumer of a sample touches: what the extensometer handler has measured, and the slots of the
TRAVEL and the STRAIN sample. -/
namespace Sys2Proof.Proofs
open Sys2Proof Sys2Proof.Machine Sys2Proof.Laws

/-! ### What stands -/

/-- The handler without its state, its handover ratio, its snapshot and its release: the rest is what readings write. -/
def measuredPart (x : Exh) : Exh :=
  { x with st := .detached, k := none, snap := {}, releaseOut := false, releaseAt := none }

/-- What a reading has measured, and the slots of the TRAVEL and the STRAIN sample. -/
def sampleKept (n : Node) : Exh × Option Slot × Option Slot :=
  (measuredPart n.exh, n.fbc.travelSlot, n.fbc.strainSlot)

theorem sampleKept_congr {n m : Node} (hx : m.exh = n.exh) (hf : m.fbc = n.fbc) :
    sampleKept m = sampleKept n := by
  simp [sampleKept, hx, hf]

/-- Replacing a block other than the handler and the bus. -/
@[simp] theorem set_sampleKept (n : Node) :
    (∀ x, sampleKept (n.setTsg x) = sampleKept n) ∧ (∀ x, sampleKept (n.setCmu x) = sampleKept n) ∧
    (∀ x, sampleKept (n.setSeq x) = sampleKept n) ∧ (∀ x, sampleKept (n.setEvl x) = sampleKept n) := by
  refine ⟨?_, ?_, ?_, ?_⟩ <;> exact fun _ => rfl

/-! ### Submissions (R74 to R78) -/

@[simp] theorem notice_sampleKept (n : Node) : sampleKept n.notice = sampleKept n := by
  rw [notice_eq]
  split <;> rfl

theorem submitMark_sampleSlots (b : Fbc) (f : TxFrame) :
    (b.submitMark f).travelSlot = b.travelSlot ∧ (b.submitMark f).strainSlot = b.strainSlot := by
  unfold Fbc.submitMark
  repeat' split
  all_goals simp

@[simp] theorem settlePending_sampleSlots (b : Fbc) (t : Time) :
    (b.settlePending t).travelSlot = b.travelSlot ∧ (b.settlePending t).strainSlot = b.strainSlot := by
  unfold Fbc.settlePending
  repeat' split
  all_goals simp

theorem submitResult_sampleSlots (b : Fbc) (p : List TxFrame) (t : Time) :
    (b.submitResult p t).travelSlot = b.travelSlot ∧ (b.submitResult p t).strainSlot = b.strainSlot := by
  simp only [Fbc.submitResult]
  repeat' split
  all_goals simp

@[simp] theorem sendMark_sampleKept (n : Node) (i : Fin 32) (id : Nat) (t : Time) :
    sampleKept (n.sendMark i id t) = sampleKept n := by
  unfold Node.sendMark
  split <;> simp [sampleKept, submitMark_sampleSlots]

@[simp] theorem sendResult_sampleKept (n : Node) (p : List (List Byte)) :
    sampleKept (n.sendResult p) = sampleKept n := by
  unfold Node.sendResult
  split <;> simp [sampleKept, submitResult_sampleSlots]

/-! ### Drive and control mode unit -/

@[simp] theorem setWanted_sampleKept (n : Node) (v : Int) : sampleKept (n.setWanted v) = sampleKept n :=
  sampleKept_congr (by simp) (by simp)
@[simp] theorem directStop_sampleKept (n : Node) : sampleKept n.directStop = sampleKept n :=
  sampleKept_congr (by simp) (by simp)
@[simp] theorem reportFlag_sampleKept (n : Node) (f : Summary → Summary) :
    sampleKept (n.reportFlag f) = sampleKept n := sampleKept_congr (by simp) (by simp)
@[simp] theorem reportLock_sampleKept (n : Node) (t : Time) : sampleKept (n.reportLock t) = sampleKept n :=
  sampleKept_congr (by simp) (by simp)
@[simp] theorem putCmu_sampleKept (n : Node) (c : Cmu) : sampleKept (n.putCmu c) = sampleKept n := by
  simp only [Node.putCmu]
  split <;> simp
@[simp] theorem requestHold_sampleKept (n : Node) : sampleKept n.requestHold = sampleKept n := by
  simp [Node.requestHold]
@[simp] theorem requestCrosshead_sampleKept (n : Node) (v : Int) :
    sampleKept (n.requestCrosshead v) = sampleKept n := by
  simp [Node.requestCrosshead]
@[simp] theorem fallBack_sampleKept (n : Node) (v : Int) : sampleKept (n.fallBack v) = sampleKept n := by
  simp [Node.fallBack]
@[simp] theorem requestClosed_sampleKept (n : Node) (f : SegFields) (a : Bool) :
    sampleKept (n.requestClosed f a) = sampleKept n := by
  simp only [Node.requestClosed]
  repeat' split
  all_goals simp [Node.enterClosed, Node.entryStepTo]
@[simp] theorem requestSegment_sampleKept (n : Node) (f : SegFields) (a : Bool) :
    sampleKept (n.requestSegment f a) = sampleKept n := by
  unfold Node.requestSegment
  split <;> simp
@[simp] theorem cmuOpen_sampleKept (n : Node) (f : SegFields) (a p : Bool) :
    sampleKept (n.cmuOpen f a p) = sampleKept n := by
  unfold Node.cmuOpen
  repeat' split
  all_goals simp
@[simp] theorem cmuHold_sampleKept (n : Node) : sampleKept n.cmuHold = sampleKept n := by
  unfold Node.cmuHold
  split <;> simp
@[simp] theorem applyEstimate_sampleKept (n : Node) (m : Mode) (rm : Int) :
    sampleKept (n.applyEstimate m rm) = sampleKept n := by
  have lock (k : Node) (b : Option LockState) : sampleKept (k.handLock b) = sampleKept k := by
    unfold Node.handLock
    split <;> simp
  simp [Node.applyEstimate, lock]
@[simp] theorem cmuArrival_sampleKept (n : Node) (m : Mode) (e : HistEntry) :
    sampleKept (n.cmuArrival m e) = sampleKept n := by
  unfold Node.cmuArrival
  repeat' split
  all_goals simp

/-! ### Evaluator and extensometer handler -/

@[simp] theorem endDrain_sampleKept (n : Node) : sampleKept n.endDrain = sampleKept n := by
  unfold Node.endDrain
  split <;> simp [Node.completeRecord]
@[simp] theorem evalEnding_sampleKept (n : Node) (c : EndCause) :
    sampleKept (n.evalEnding c) = sampleKept n := by
  unfold Node.evalEnding
  split <;> simp
/-- A change of the handler that leaves what readings have measured. -/
theorem putExh_sampleKept {n : Node} {x : Exh} (h : measuredPart x = measuredPart n.exh) :
    sampleKept (n.putExh x) = sampleKept n := by
  have set : sampleKept (n.setExh x) = sampleKept n := by simp [sampleKept, h]
  simp only [Node.putExh]
  split
  · exact set
  · rw [notice_sampleKept, set]
@[simp] theorem exhRejudge_sampleKept (n : Node) : sampleKept n.exhRejudge = sampleKept n := by
  unfold Node.exhRejudge
  split
  · exact putExh_sampleKept rfl
  · rfl
@[simp] theorem learnStage_sampleKept (n : Node) : sampleKept n.learnStage = sampleKept n := by
  unfold Node.learnStage
  repeat' split
  all_goals rfl
@[simp] theorem releaseStage_sampleKept (n : Node) (e : HistEntry) :
    sampleKept (n.releaseStage e) = sampleKept n := by
  unfold Node.releaseStage
  repeat' split
  · exact putExh_sampleKept rfl
  · rfl
  · rfl

/-! ### Sequencer (R116, R127 to R131, R138) -/

@[simp] theorem setTest_sampleKept (n : Node) (t : TestState) : sampleKept (n.setTest t) = sampleKept n := by
  simp only [Node.setTest]
  split <;> simp
@[simp] theorem closeOpen_sampleKept (n : Node) (c : CloseCause) (t : Time) :
    sampleKept (n.closeOpen c t) = sampleKept n := sampleKept_congr (by simp) (by simp)
@[simp] theorem closeByCondition_sampleKept (n : Node) : sampleKept n.closeByCondition = sampleKept n := by
  simp [Node.closeByCondition]
@[simp] theorem enterEnded_sampleKept (n : Node) (c : EndCause) (d : CloseCause) :
    sampleKept (n.enterEnded c d) = sampleKept n := by
  simp [Node.enterEnded]
@[simp] theorem openAt_sampleKept (n : Node) (i : Fin 32) (s a : Bool) :
    sampleKept (n.openAt i s a) = sampleKept n := by
  simp [Node.openAt]
@[simp] theorem goOn_sampleKept (j : Nat) (b : Bool) (n : Node) :
    sampleKept (Node.goOn j b n) = sampleKept n := by
  induction j generalizing b n with
  | zero => rfl
  | succ j ih =>
    simp only [Node.goOn]
    repeat' split
    all_goals simp [ih]
@[simp] theorem judgeEnd_sampleKept (n : Node) (met : SegFields → Bool) :
    sampleKept (n.judgeEnd met) = sampleKept n := by
  unfold Node.judgeEnd Node.closeAndGoOn
  split <;> simp

/-! ### Pairing (R155 to R165) -/

@[simp] theorem reportYield_sampleKept (n : Node) : sampleKept n.reportYield = sampleKept n := by
  simp only [Node.reportYield, Node.yieldReport, Node.closeAndGoOn]
  repeat' split
  all_goals simp
@[simp] theorem passPair_sampleKept (n : Node) (p : EvalParams) (x : Pair) :
    sampleKept (n.passPair p x) = sampleKept n := by
  have held (k : Node) : sampleKept (k.reportHeld x.held) = sampleKept k := by
    unfold Node.reportHeld
    split <;> simp
  simp [Node.passPair, held]
@[simp] theorem pairWith_sampleKept (n : Node) (l : LoadEntry) (a : Answer) :
    sampleKept (n.pairWith l a) = sampleKept n := by
  unfold Node.pairWith Node.formPair
  repeat' split
  all_goals simp
theorem pairFront_sampleKept {n m : Node} {l : LoadEntry} (e : n.pairFront l = some m) :
    sampleKept m = sampleKept n := by
  obtain ⟨a, -, rfl⟩ := Option.map_eq_some_iff.mp e
  simp [Node.popLoad]
@[simp] theorem pairRounds_sampleKept (j : Nat) (n : Node) :
    sampleKept (Node.pairRounds j n) = sampleKept n := by
  induction j generalizing n with
  | zero => rfl
  | succ j ih =>
    unfold Node.pairRounds
    repeat' split
    · rfl
    · rename_i m e
      exact (ih m).trans (pairFront_sampleKept e)
    · rfl
    · rfl
@[simp] theorem evalStrain_sampleKept (n : Node) (e : HistEntry) :
    sampleKept (n.evalStrain e) = sampleKept n := by
  simp only [Node.evalStrain, Node.pairingAttempt]
  repeat' split
  all_goals simp

/-- The consumers of a STRAIN sample leave what was measured and the sample's slot (log 6). -/
@[simp] theorem consumeStrain_sampleKept (n : Node) (e : HistEntry) :
    sampleKept (n.consumeStrain e) = sampleKept n := by
  simp [Node.consumeStrain, Node.watchStrain]

end Sys2Proof.Proofs
end

section
/-! PROOFS. The extensometer handler's changes of state: a change brings a STATE notice, and a change of the arm-closed
inputs, a release and a release timeout are such changes (R48, R49, R54 to R58, R78). -/
namespace Sys2Proof.Proofs
open Sys2Proof Sys2Proof.Machine Sys2Proof.Laws

/-! ### A change of the handler (R78) -/

theorem putExh_of_same {n : Node} {x : Exh} (h : x.st = n.exh.st) : n.putExh x = n.setExh x :=
  if_pos h.symm

theorem putExh_of_change {n : Node} {x : Exh} (h : x.st ≠ n.exh.st) : n.putExh x = (n.setExh x).notice :=
  if_neg h.symm

/-- A change of the state in its STATE slot. -/
theorem putExh_eq {n : Node} {x : Exh} (h : x.st ≠ n.exh.st) : n.putExh x = { n with
    exh := x
    fbc := if n.active then
        { n.fbc with stateSlot := refill n.fbc.stateSlot (broadcastFrame .state []) n.now }
      else n.fbc } := by
  rw [putExh_of_change h]
  show (if n.active then _ else _) = _
  split <;> rfl

/-- A change of the handler leaves every other block but the STATE slot, which a change of the state refills. -/
theorem putExh_leaves (n : Node) (x : Exh) :
    n.putExh x = { n with exh := x, fbc := { n.fbc with stateSlot := (n.putExh x).fbc.stateSlot } } ∧
      (x.st ≠ n.exh.st → n.notified (n.putExh x)) ∧ (x.st = n.exh.st → (n.putExh x).fbc = n.fbc) := by
  by_cases h : x.st = n.exh.st
  · rw [putExh_of_same h]
    exact ⟨rfl, fun k => absurd h k, fun _ => rfl⟩
  · rw [putExh_of_change h]
    refine ⟨?_, fun _ => notice_notified (n.setExh x), fun k => absurd k h⟩
    rw [notice_eq]
    split <;> rfl

/-- A change within a state that comes before leaves no trace. -/
theorem setExh_putExh {n : Node} {y : Exh} (x : Exh) (h : y.st = n.exh.st) :
    (n.setExh y).putExh x = n.putExh x := by
  simp [Node.putExh, h, Node.setExh]

/-! ### The pair judged (R48, R49, R57, R58) -/

theorem judgeOpen_of_closed {n : Node} (h : n.pairOpen = false) : n.judgeOpen = n := by
  simp [Node.judgeOpen, h]

theorem judgeOpen_of_releasing {n : Node} (h : n.pairOpen = true) (hs : n.exh.st = .releasing) :
    n.judgeOpen = n.putExh { n.exh with st := .released, releaseAt := none, releaseOut := false } := by
  simp [Node.judgeOpen, h, hs]

theorem judgeOpen_of_other {n : Node} (h : n.pairOpen = true) (hs : n.exh.st ≠ .releasing) :
    n.judgeOpen = n.setExh { n.exh with releaseOut := false } := by
  simp [Node.judgeOpen, h, hs]

/-- ARM-RELEASE falls with the open pair; outside RELEASING this is all there is to judge (R58). -/
def releaseJudged (n : Node) : Exh :=
  { n.exh with releaseOut := if n.pairOpen then false else n.exh.releaseOut }

@[simp] theorem releaseJudged_st (n : Node) : (releaseJudged n).st = n.exh.st := rfl

theorem judgeOpen_eq {n : Node} (hs : n.exh.st ≠ .releasing) : n.judgeOpen = n.setExh (releaseJudged n) := by
  cases h : n.pairOpen
  · rw [judgeOpen_of_closed h]
    simp [releaseJudged, h, Node.setExh]
  · rw [judgeOpen_of_other h hs]
    simp [releaseJudged, h]

/-- Nothing is judged of a pair that is not open, or of an open one with ARM-RELEASE low outside RELEASING. -/
theorem judgeOpen_of_nothing {n : Node}
    (h : n.pairOpen = false ∨ n.exh.st ≠ .releasing ∧ n.exh.releaseOut = false) : n.judgeOpen = n := by
  obtain h | ⟨hs, ho⟩ := h
  · exact judgeOpen_of_closed h
  · rw [judgeOpen_eq hs, releaseJudged, ho, ite_self, ← ho]
    rfl

/-- The handler that the arm-closed inputs leave (R48, R49, R57, R58). -/
def inputsJudged (n : Node) : Exh :=
  match n.exh.st with
  | .detached => { releaseJudged n with
      st := if !n.testInProgress && n.pairClosed then .attached else .detached }
  | .attached =>
    if n.testInProgress then
      if n.pairOpen then
        { n.exh with st := .released, snap := n.openingSnapshot, unplanned := true, releaseOut := false }
      else n.exh
    else { releaseJudged n with st := if n.pairClosed then .attached else .detached }
  | .releasing =>
    if n.pairOpen then { n.exh with st := .released, releaseAt := none, releaseOut := false } else n.exh
  | .released => releaseJudged n

theorem followInputs_of_settled {n : Node} (h : n.exh.st ≠ .attached) (hd : n.exh.st ≠ .detached) :
    n.followInputs = n := by
  simp [Node.followInputs, h, hd]

theorem putExh_self (n : Node) : n.putExh n.exh = n := putExh_of_same rfl

/-- What the inputs are judged by does not read the handler. -/
@[simp] theorem setExh_inputs (n : Node) (x : Exh) : (n.setExh x).pairOpen = n.pairOpen ∧
    (n.setExh x).pairClosed = n.pairClosed ∧ (n.setExh x).testInProgress = n.testInProgress :=
  ⟨rfl, rfl, rfl⟩

/-- The inputs change the handler at most once. -/
theorem inputs_eq (n : Node) : n.judgeOpen.followInputs = n.putExh (inputsJudged n) := by
  cases hs : n.exh.st with
  | releasing =>
    cases ho : n.pairOpen
    · rw [judgeOpen_of_closed ho, followInputs_of_settled (by simp [hs]) (by simp [hs])]
      simp [inputsJudged, hs, ho, putExh_self]
    · rw [judgeOpen_of_releasing ho hs, followInputs_of_settled (by simp) (by simp)]
      simp [inputsJudged, hs, ho]
  | released =>
    rw [judgeOpen_eq (by simp [hs]), followInputs_of_settled (by simp [hs]) (by simp [hs])]
    simp only [inputsJudged, hs]
    exact (putExh_of_same (releaseJudged_st n)).symm
  | detached =>
    rw [judgeOpen_eq (by simp [hs])]
    have same (x : Exh) := setExh_putExh (y := releaseJudged n) x (releaseJudged_st n)
    have stays : { releaseJudged n with st := .detached } = releaseJudged n := by simp [releaseJudged, ← hs]
    cases ht : n.testInProgress <;> cases hc : n.pairClosed <;>
      simp [Node.followInputs, inputsJudged, hs, ht, hc, same, stays, putExh_of_same]
  | attached =>
    have other : n.exh.st ≠ .releasing := by simp [hs]
    have same (x : Exh) := setExh_putExh (y := releaseJudged n) x (releaseJudged_st n)
    have stays : { releaseJudged n with st := .attached } = releaseJudged n := by simp [releaseJudged, ← hs]
    cases ht : n.testInProgress
    · rw [judgeOpen_eq other]
      cases hc : n.pairClosed <;>
        simp [Node.followInputs, inputsJudged, hs, ht, hc, same, stays, putExh_of_same]
    · cases ho : n.pairOpen
      · rw [judgeOpen_of_closed ho]
        simp [Node.followInputs, inputsJudged, hs, ht, ho, putExh_self]
      · rw [judgeOpen_eq other]
        simp only [Node.followInputs, inputsJudged, setExh_inputs, setExh_fields, releaseJudged_st, hs, ht, ho]
        refine (same _).trans (congrArg n.putExh ?_)
        simp only [releaseJudged, ho]
        rfl

/-- The newest entry with neither FAULT nor DERIVED, said of the entries that are so. -/
theorem lastMeasured_eq (x : Exh) : x.lastMeasured =
    (x.hist.filter fun e => !e.entry.flags.fault && !e.entry.flags.derived).getLast? := by
  rw [List.getLast?_eq_head?_reverse, ← List.filter_reverse, List.head?_filter]
  rfl

/-- Settles O24: the change of the inputs is one change of the handler, state by state. -/
theorem armClosedInputsJudged : Obligations.ArmClosedInputsJudged := by
  intro n q c1 c2 live measured snapshot closed opened out
  let k := n.setPins { n.pins with arm1Closed := c1, arm2Closed := c2 }
  have run : exec (.armClosedChange c1 c2) ⟨n, q⟩ = .next ⟨k.putExh (inputsJudged k), q⟩ := by
    have live' : k.extLive = true := live
    rw [← inputs_eq]
    simp only [exec, execArmClosedChange, ran_eq, Node.armClosedChange, k] at live' ⊢
    rw [if_pos live']
  have snap : k.openingSnapshot = snapshot := by
    simp only [Node.openingSnapshot, lastMeasured_eq]
    rfl
  obtain ⟨leaves, changed, same⟩ := putExh_leaves k (inputsJudged k)
  refine ⟨_, run, leaves.trans ?_, ?_, ?_, ?_⟩
  · rw [putExh_exh]
    rfl
  · rw [putExh_exh]
    exact changed
  · rw [putExh_exh]
    exact same
  rw [putExh_exh]
  have state : k.exh.st = n.exh.st := rfl
  have going : k.testInProgress = n.testInProgress := rfl
  have fallen : releaseJudged k = { n.exh with releaseOut := out } := rfl
  simp only [inputsJudged, snap, state, going, fallen]
  cases n.exh.st <;> cases n.testInProgress <;> rfl

end Sys2Proof.Proofs
end

section
/-! PROOFS. The two releases and the release timeout (R54 to R57). -/
namespace Sys2Proof.Proofs
open Sys2Proof Sys2Proof.Machine Sys2Proof.Laws

/-! ### A release (R56) -/

/-- The handler that a release command leaves. -/
def commanded (n : Node) : Exh := { n.exh with
  snap := { elong := n.exh.releaseElong, travel := n.travelNow, force := n.latestForce }
  st := .releasing, releaseOut := true
  releaseAt := some (after n.now (n.img.control.releaseTimeoutMs * 1000)) }

theorem release_eq (n : Node) : n.release = n.putExh (commanded n) := rfl

/-! ### The release stage and its criteria (R54) -/

theorem releaseStage_of_part3 {n : Node} {p : OrderPart3} (e : HistEntry) (h : n.part3 = some p) :
    n.releaseStage e = if n.exh.st == .attached && n.testInProgress && n.releaseAllowed &&
        (strainCriterion p e || n.forceCriterion p) then n.release else n := by
  simp only [Node.releaseStage, h]

theorem releaseStage_of_not {n : Node} (e : HistEntry) (h : n.exh.st ≠ .attached ∨
    n.testInProgress = false ∨ n.part3 = none ∨ n.seq.openEntry = none) : n.releaseStage e = n := by
  cases hp : n.part3 with
  | none => simp only [Node.releaseStage, hp]
  | some p =>
    rw [releaseStage_of_part3 e hp, if_neg]
    rcases h with h | h | h | h
    · simp [h]
    · simp [h]
    · simp [hp] at h
    · simp [Node.releaseAllowed, h]

theorem strainCriterion_iff (p : OrderPart3) (e : HistEntry) : strainCriterion p e = true ↔
    p.releaseStrain ≠ 0 ∧ e.flags.fault = false ∧ p.releaseStrain ≤ e.value := by
  simp [strainCriterion, and_assoc]

theorem forceCriterion_iff (n : Node) (p : OrderPart3) : n.forceCriterion p = true ↔
    p.releaseDrop ≠ 0 ∧ p.breakMinimum ≤ n.exh.forceMax ∧ ∃ f, n.latestForce = some f ∧
      f ≤ roundDiv (n.exh.forceMax * (1000 - p.releaseDrop)) 1000 := by
  cases hf : n.latestForce <;> simp [Node.forceCriterion, hf, and_assoc]

theorem releaseStage_of_entry {n : Node} {p : OrderPart3} {g : Segment} (e : HistEntry)
    (hs : n.exh.st = .attached) (ht : n.testInProgress = true) (hp : n.part3 = some p)
    (hg : n.seq.openEntry = some g) : n.releaseStage e =
      if g.fields.releaseAllowed && (strainCriterion p e || n.forceCriterion p) then n.release else n := by
  simp [releaseStage_of_part3 e hp, Node.releaseAllowed, hs, ht, hg]

/-! ### The timeout (R57) -/

theorem exhRejudge_of_other {n : Node} (h : n.exh.st ≠ .attached) : n.exhRejudge = n := by
  simp [Node.exhRejudge, h]

/-- Outside ATTACHED an entry to HALTED leaves the handler. -/
theorem localCause_exh {n : Node} (c : HaltCause) (h : n.exh.st ≠ .attached) :
    (n.localCause c).exh = n.exh := by
  have set (k : Node) (hk : k.exh.st ≠ .attached) : (k.setTest .halted).exh = k.exh := by
    simp only [Node.setTest, TestState.holds, if_true]
    rw [exhRejudge_of_other] <;> simp [hk]
  have halted (k : Node) (hk : k.exh.st ≠ .attached) : k.enterHalted.exh = k.exh := by
    simp only [Node.enterHalted, evalEnding_frame, directStop_frame]
    rw [set] <;> simp [hk]
  have entered := halted (n.setRecord c n.nodeId true) h
  unfold Node.localCause
  repeat' split
  · rfl
  · rfl
  · exact entered
  · simpa using entered

theorem localCause_of_halted {n : Node} (c : HaltCause) (h : n.seq.test = some .halted) :
    n.localCause c = n := by
  simp [Node.localCause, h]

theorem exec_releaseTimeoutExpiry {n : Node} (q : List Instr) (live : n.extLive = true)
    (hs : n.exh.st = .releasing) (hd : due n.now n.exh.releaseAt = true) :
    exec .releaseTimeoutExpiry ⟨n, q⟩ =
      .next ⟨(n.setExh { n.exh with releaseAt := none }).localCause .extReleaseFault, q⟩ := by
  simp only [exec, execReleaseTimeoutExpiry, ran_eq, Node.releaseTimer]
  rw [if_pos]
  simpa [live, hs] using hd

/-- Settles O25: a release is one change of the handler, and the timeout one local cause. -/
theorem releasesAndTheirTimeout : Obligations.ReleasesAndTheirTimeout := by
  refine ⟨fun n => ?_, fun n q live hs hd => ?_⟩
  · intro released
    have releases (hs : n.exh.st = .attached) : released n.release := by
      obtain ⟨leaves, notified, _⟩ := putExh_leaves n (commanded n)
      have exh : n.release.exh = commanded n := by rw [release_eq, putExh_exh]
      refine ⟨?_, notified (by simp [commanded, hs]), exh⟩
      rw [exh]
      exact leaves
    refine ⟨fun live hs => ?_, fun hs => ?_, fun e => ⟨releaseStage_of_not e, ?_⟩⟩
    · have : n.exhBreak = n.release := by simp [Node.exhBreak, live, hs]
      exact this ▸ releases hs
    · simp [Node.exhBreak, hs]
    · intro p g hs ht hp hg strain force
      have stage := releaseStage_of_entry e hs ht hp hg
      have crit : (strainCriterion p e || n.forceCriterion p) = true ↔ strain ∨ force := by
        rw [Bool.or_eq_true, strainCriterion_iff, forceCriterion_iff]
      refine ⟨fun allowed met => ?_, fun not => ?_⟩
      · rw [stage, allowed, crit.mpr met]
        exact releases hs
      · rw [stage, if_neg]
        rw [Bool.and_eq_true, crit]
        rcases not with h | ⟨h, h'⟩
        · simp [h]
        · simp [h, h']
  · let k := n.setExh { n.exh with releaseAt := none }
    have other : k.exh.st ≠ .attached := by simp [k, hs]
    refine ⟨k.localCause .extReleaseFault, exec_releaseTimeoutExpiry q live hs hd, localCause_exh _ other,
      fun calm => ?_, fun halted => ?_, ?_⟩
    · have serv : n.seq.test ≠ none := by
        intro h
        simp [Node.extLive, Node.inService, h] at live
      exact localCause_haltedBy (n := k) ⟨serv, calm⟩ (by decide)
    · rw [localCause_of_halted (n := k) _ halted]
      rfl
    · simp [k]

end Sys2Proof.Proofs
end

section
/-! PROOFS. An arm reading: the slip of two readings, the node that the slip stage leaves, and a reading away from a
publish point (R43, R44, R51). -/
namespace Sys2Proof.Proofs
open Sys2Proof Sys2Proof.Machine Sys2Proof.Laws

/-! ### The slip (R51) -/

/-- The changes of both arms since a reading differ by more than the slip threshold, with both arms good at both. -/
def slipsFrom (n : Node) (p : Reading) : Prop :=
  let r := n.exh.reading n.img.drive.armScale
  p.good1 = true ∧ p.good2 = true ∧ n.exh.arm1.fault = false ∧ n.exh.arm2.fault = false ∧
    n.img.control.slipThreshold < (((r.elA - p.elA) - (r.elB - p.elB)).natAbs : Int)

/-- Arm 1 has moved more than arm 2 since a reading. -/
def movedMore (n : Node) (p : Reading) : Bool :=
  let r := n.exh.reading n.img.drive.armScale
  decide ((r.elB - p.elB).natAbs < (r.elA - p.elA).natAbs)

theorem slipNow_of_prev {n : Node} {p : Reading} (hs : n.exh.st = .attached) (hp : n.exh.prev = some p) :
    n.slipNow = slipOf p (n.exh.reading n.img.drive.armScale) n.img.control.slipThreshold := by
  simp only [Node.slipNow, hs, hp]

theorem slipNow_of_none {n : Node} (h : n.exh.st ≠ .attached ∨ n.exh.prev = none) : n.slipNow = none := by
  unfold Node.slipNow
  split
  · rename_i hs hp
    rcases h with h | h
    · exact absurd hs h
    · rw [hp] at h; cases h
  · rfl

theorem slipNow_of_slips {n : Node} {p : Reading} (hs : n.exh.st = .attached) (hp : n.exh.prev = some p)
    (h : slipsFrom n p) : n.slipNow = some (movedMore n p) := by
  obtain ⟨g1, g2, f1, f2, apart⟩ := h
  rw [slipNow_of_prev hs hp]
  unfold slipOf
  rw [if_pos]
  · rfl
  · simp only [Bool.and_eq_true, decide_eq_true_eq]
    exact ⟨⟨⟨⟨g1, g2⟩, by simp [Exh.reading, f1]⟩, by simp [Exh.reading, f2]⟩, apart⟩

theorem slipNow_of_not {n : Node} {p : Reading} (hs : n.exh.st = .attached) (hp : n.exh.prev = some p)
    (h : ¬slipsFrom n p) : n.slipNow = none := by
  rw [slipNow_of_prev hs hp]
  unfold slipOf
  rw [if_neg]
  intro k
  simp only [Bool.and_eq_true, decide_eq_true_eq] at k
  obtain ⟨⟨⟨⟨g1, g2⟩, f1⟩, f2⟩, apart⟩ := k
  exact h ⟨g1, g2, by simpa [Exh.reading] using f1, by simpa [Exh.reading] using f2, apart⟩

/-- A slip is found in ATTACHED between two such readings, and nowhere else. -/
theorem slipNow_eq_some_iff {n : Node} {arm1 : Bool} : n.slipNow = some arm1 ↔
    n.exh.st = .attached ∧ ∃ p, n.exh.prev = some p ∧ slipsFrom n p ∧ arm1 = movedMore n p := by
  constructor
  · intro h
    by_cases hs : n.exh.st = .attached
    · cases hp : n.exh.prev with
      | none => rw [slipNow_of_none (.inr hp)] at h; cases h
      | some p =>
        by_cases slips : slipsFrom n p
        · rw [slipNow_of_slips hs hp slips] at h
          exact ⟨hs, p, rfl, slips, (Option.some.inj h).symm⟩
        · rw [slipNow_of_not hs hp slips] at h; cases h
    · rw [slipNow_of_none (.inl hs)] at h; cases h
  · rintro ⟨hs, p, hp, slips, rfl⟩
    exact slipNow_of_slips hs hp slips

/-! ### The slip stage (R43, R51) -/

/-- Arm 1 after the slip stage. -/
def slipArm1 (n : Node) : ArmState :=
  if n.slipNow = some true then n.exh.arm1.slippedTo n.exh.arm2 else n.exh.arm1

/-- Arm 2 after the slip stage. -/
def slipArm2 (n : Node) : ArmState :=
  if n.slipNow = some false then n.exh.arm2.slippedTo n.exh.arm1 else n.exh.arm2

/-- The health monitor after the slip stage. -/
def slipHlm (n : Node) : Hlm :=
  if n.slipNow = none then n.hlm else { n.hlm with slip := n.hlm.slip.updated .slip n.img 1 }

/-- The reading that the slip stage keeps. -/
def newReading (n : Node) : Reading :=
  ⟨(slipArm1 n).elongation n.img.drive.armScale, (slipArm2 n).elongation n.img.drive.armScale,
    !(slipArm1 n).fault, !(slipArm2 n).fault⟩

/-- The handler after the slip stage. -/
def slipExh (n : Node) : Exh := { n.exh with
  arm1 := slipArm1 n, arm2 := slipArm2 n, slip := n.exh.slip || n.slipNow.isSome, prev := some (newReading n) }

/-- A slip is found between readings with both arms good. -/
theorem good_of_slip {n : Node} {arm1 : Bool} (h : n.slipNow = some arm1) :
    n.exh.arm1.fault = false ∧ n.exh.arm2.fault = false := by
  obtain ⟨_, _, _, ⟨_, _, f1, f2, _⟩, _⟩ := slipNow_eq_some_iff.mp h
  exact ⟨f1, f2⟩

theorem slipExh_of_none {n : Node} (h : n.slipNow = none) :
    slipExh n = { n.exh with prev := some (n.exh.reading n.img.drive.armScale) } := by
  simp only [slipExh, newReading, slipArm1, slipArm2, h, reduceCtorEq, if_false, Option.isSome_none, Bool.or_false]
  rfl

theorem slipExh_of_arm1 {n : Node} (h : n.slipNow = some true) :
    let a := n.exh.arm1.slippedTo n.exh.arm2
    let scale := n.img.drive.armScale
    slipExh n = { n.exh with
      arm1 := a, slip := true
      prev := some ⟨a.elongation scale, n.exh.arm2.elongation scale, true, true⟩ } := by
  obtain ⟨f1, f2⟩ := good_of_slip h
  simp [slipExh, newReading, slipArm1, slipArm2, h, ArmState.slippedTo, f1, f2]

theorem slipExh_of_arm2 {n : Node} (h : n.slipNow = some false) :
    let b := n.exh.arm2.slippedTo n.exh.arm1
    let scale := n.img.drive.armScale
    slipExh n = { n.exh with
      arm2 := b, slip := true
      prev := some ⟨n.exh.arm1.elongation scale, b.elongation scale, true, true⟩ } := by
  obtain ⟨f1, f2⟩ := good_of_slip h
  simp [slipExh, newReading, slipArm1, slipArm2, h, ArmState.slippedTo, f1, f2]

theorem slipHlm_of_none {n : Node} (h : n.slipNow = none) : slipHlm n = n.hlm := if_pos h

theorem slipHlm_of_slip {n : Node} {arm1 : Bool} (h : n.slipNow = some arm1) :
    slipHlm n = { n.hlm with slip := n.hlm.slip.updated .slip n.img 1 } := by
  simp [slipHlm, h]

theorem inService_of_extLive {n : Node} (h : n.extLive = true) : n.inService = true := by
  simp only [Node.extLive, Bool.and_eq_true] at h
  exact h.1

/-- The slip stage keeps the reading, and corrects and hands a slip first. -/
theorem slipStage_eq {n : Node} (live : n.extLive = true) :
    n.slipStage = { n with exh := slipExh n, hlm := slipHlm n } := by
  cases h : n.slipNow with
  | none =>
    rw [slipExh_of_none h, slipHlm_of_none h]
    simp only [Node.slipStage, h]
    rfl
  | some arm1 =>
    obtain ⟨f1, f2⟩ := good_of_slip h
    have serv : (n.setExh (n.exh.corrected arm1)).inService = true := inService_of_extLive live
    rw [slipHlm_of_slip h]
    simp only [Node.slipStage, h, Node.health, serv, if_true]
    cases arm1
    · rw [slipExh_of_arm2 h]
      simp [Node.keepReading, Exh.reading, Exh.corrected, ArmState.slippedTo, f1, f2]
      rfl
    · rw [slipExh_of_arm1 h]
      simp [Node.keepReading, Exh.reading, Exh.corrected, ArmState.slippedTo, f1, f2]
      rfl

/-! ### The reading -/

theorem exec_armReading {n : Node} (q : List Instr) (live : n.extLive = true) :
    exec .armReading ⟨n, q⟩ = .next ⟨n.reading, q⟩ := by
  simp [exec, execArmReading, ran_eq, Node.armReading, live]

/-- Away from a publish point the reading is counted. -/
theorem exec_armReading_away {n : Node} (q : List Instr) (live : n.extLive = true)
    (nothing : n.pairOpen = false ∨ n.exh.st ≠ .releasing ∧ n.exh.releaseOut = false)
    (away : n.exh.pubCount + 1 ≠ n.strainEvery) : exec .armReading ⟨n, q⟩ = .next
      ⟨{ n with exh := { slipExh n with pubCount := n.exh.pubCount + 1 }, hlm := slipHlm n }, q⟩ := by
  rw [exec_armReading q live]
  simp only [Node.reading, judgeOpen_of_nothing nothing, slipStage_eq live]
  rw [if_neg (by exact away)]
  rfl

/-- Settles O22: the slip stage in its three cases: no slip, and a slip of either arm. -/
theorem armReadingKeptOrCorrected : Obligations.ArmReadingKeptOrCorrected := by
  intro n q live nothing away el left A B
  have run := exec_armReading_away q live nothing away
  have kept (h : n.slipNow = none) : exec .armReading ⟨n, q⟩ =
      left { n.exh with prev := some ⟨el A, el B, !A.fault, !B.fault⟩ } n.hlm := by
    rw [run, slipExh_of_none h, slipHlm_of_none h]
    rfl
  refine ⟨fun h => kept (slipNow_of_none h), fun p hs hp => ?_⟩
  intro dA dB slips
  refine ⟨fun h => kept (slipNow_of_not hs hp h), fun h more => ?_, fun h less => ?_⟩
  · have slip : n.slipNow = some true :=
      (slipNow_of_slips hs hp h).trans (congrArg some (decide_eq_true more))
    rw [run, slipExh_of_arm1 slip, slipHlm_of_slip slip]
    rfl
  · have slip : n.slipNow = some false :=
      (slipNow_of_slips hs hp h).trans (congrArg some (decide_eq_false less))
    rw [run, slipExh_of_arm2 slip, slipHlm_of_slip slip]
    rfl

end Sys2Proof.Proofs
end

section
/-! PROOFS. The sample of a publish point: measured or derived, its way to the history, the slot and the health
monitor, and what its consumers leave of it (R44 to R46, R51, R59). -/
namespace Sys2Proof.Proofs
open Sys2Proof Sys2Proof.Machine Sys2Proof.Laws

/-! ### The open pair (R57, R58) -/

theorem judgeOpen_extLive (n : Node) : n.judgeOpen.extLive = n.extLive := by
  simp [Node.extLive, Node.inService, Node.roles]

/-- What is judged once is judged. -/
theorem judgeOpen_idem (n : Node) : n.judgeOpen.judgeOpen = n.judgeOpen := by
  have same : n.judgeOpen.pairOpen = n.pairOpen := by simp [Node.pairOpen]
  cases ho : n.pairOpen
  · rw [judgeOpen_of_closed ho, judgeOpen_of_closed ho]
  · refine judgeOpen_of_nothing (.inr ?_)
    by_cases hs : n.exh.st = .releasing
    · simp [judgeOpen_of_releasing ho hs]
    · simp [judgeOpen_of_other ho hs, hs]

theorem exec_armReading_judged {n : Node} (q : List Instr) (live : n.extLive = true) :
    exec .armReading ⟨n, q⟩ = exec .armReading ⟨n.judgeOpen, q⟩ := by
  rw [exec_armReading q live, exec_armReading q ((judgeOpen_extLive n).trans live)]
  simp only [Node.reading, judgeOpen_idem]

/-! ### The sample (R44 to R46, R59) -/

theorem strainSample_of_value {n : Node} {r : Reading} {v : Int} (h : n.sampleElong r = some v) :
    n.strainSample r = ⟨⟨n.exh.prod, n.now, strainOf v n.exh.gauge, n.strainFlags r⟩, v⟩ := by
  simp only [Node.strainSample, h]
  rfl

theorem strainSample_of_absent {n : Node} {r : Reading} (h : n.sampleElong r = none) :
    n.strainSample r = ⟨⟨n.exh.prod, n.now, n.exh.lastValue, n.strainFlags r⟩, n.exh.lastElong⟩ := by
  simp only [Node.strainSample, h]
  rfl

theorem sampleElong_of_measured {n : Node} (r : Reading) (h : n.exh.st ≠ .released) :
    n.sampleElong r = r.measured := by
  unfold Node.sampleElong
  split
  · rename_i hs; exact absurd hs h
  · rfl

theorem sampleElong_of_derived {n : Node} (r : Reading) (h : n.exh.st = .released) :
    n.sampleElong r = n.derivedElong := by
  simp only [Node.sampleElong, h]

theorem strainFlags_of_measured {n : Node} (r : Reading) (h : n.exh.st ≠ .released) :
    n.strainFlags r = { detached := n.exh.st == .detached, releasing := n.exh.st == .releasing
                        singleArm := r.singleArm, fault := r.measured.isNone, slip := n.exh.slip
                        degraded := n.hlm.degraded .strain } := by
  simp [Node.strainFlags, sampleElong_of_measured r h, h]

theorem strainFlags_of_derived {n : Node} (r : Reading) (h : n.exh.st = .released) :
    n.strainFlags r = { derived := true, unplanned := n.exh.unplanned, fault := n.derivedElong.isNone
                        slip := n.exh.slip, degraded := n.hlm.degraded .strain } := by
  simp [Node.strainFlags, sampleElong_of_derived r h, h]

theorem compliance_eq (n : Node) : n.compliance = (n.part3.map (·.compliance)).getD 0 := by
  cases h : n.part3 <;> simp [Node.compliance, h]

theorem derivedElong_of_absent {n : Node} (h : n.exh.snap.elong = none ∨ n.exh.snap.travel = none ∨
    n.exh.snap.force = none ∨ n.exh.k = none ∨ n.travelNow = none ∨ n.latestForce = none) :
    n.derivedElong = none := by
  unfold Node.derivedElong
  split
  · simp_all
  · rfl

/-! ### A publish point -/

/-- The node at a publish point, after the slip stage. -/
def atPoint (n : Node) : Node := { n with exh := { slipExh n with pubCount := 0 }, hlm := slipHlm n }

/-- The health monitor, handed the disagreement of good arms in ATTACHED below the bound (R46). -/
def disagreeHlm (n : Node) (value : Int) : Hlm :=
  if n.exh.st = .attached ∧ (slipArm1 n).fault = false ∧ (slipArm2 n).fault = false ∧ value < n.disagreeBound then
    { slipHlm n with
      armDisagree := (slipHlm n).armDisagree.updated .armDisagree n.img
        ((newReading n).elA - (newReading n).elB).natAbs }
  else slipHlm n

/-- The node with the sample in the history, in its slot and with the health monitor. -/
def strainSampled (n : Node) (x : StrainEntry) : Node := { n with
  exh := { slipExh n with
    pubCount := 0, hist := pushBounded 8 n.exh.hist x, prod := n.exh.prod + 1, slip := false
    lastValue := x.entry.value, lastElong := x.elong }
  fbc := if n.active then { n.fbc with strainSlot := refill n.fbc.strainSlot (broadcastFrame .sample
      (samplePayload .strain x.entry.flags n.exh.st.code x.entry.time x.entry.value)) n.now }
    else n.fbc
  hlm := disagreeHlm n x.entry.value }

theorem exec_armReading_point {n : Node} (q : List Instr) (live : n.extLive = true)
    (nothing : n.pairOpen = false ∨ n.exh.st ≠ .releasing ∧ n.exh.releaseOut = false)
    (point : n.exh.pubCount + 1 = n.strainEvery) :
    exec .armReading ⟨n, q⟩ = .next ⟨(atPoint n).strainPoint (newReading n), q⟩ := by
  rw [exec_armReading q live]
  simp only [Node.reading, judgeOpen_of_nothing nothing, slipStage_eq live]
  rw [if_pos (by exact point)]
  rfl

theorem sendSample_strain (n : Node) (p : List Byte) : n.sendSample .strain p = { n with
    fbc := if n.active then { n.fbc with strainSlot := refill n.fbc.strainSlot (broadcastFrame .sample p) n.now }
      else n.fbc } := by
  unfold Node.sendSample
  split <;> rfl

theorem publishStrain_eq {n : Node} (x : StrainEntry) (live : n.extLive = true) :
    (atPoint n).publishStrain (newReading n) x = (strainSampled n x).consumeStrain x.entry := by
  have handed (b : Fbc) : ({ atPoint n with exh := (atPoint n).exh.published x, fbc := b } : Node).handDisagree
      (newReading n) x = { atPoint n with
        exh := (atPoint n).exh.published x, fbc := b, hlm := disagreeHlm n x.entry.value } := by
    let k : Node := { atPoint n with exh := (atPoint n).exh.published x, fbc := b }
    have serv : k.inService = true := inService_of_extLive live
    have judged : (k.exh.st == .attached && (newReading n).good1 && (newReading n).good2 &&
        decide (x.entry.value < k.disagreeBound)) = true ↔ n.exh.st = .attached ∧
          (slipArm1 n).fault = false ∧ (slipArm2 n).fault = false ∧ x.entry.value < n.disagreeBound := by
      simp only [Bool.and_eq_true, beq_iff_eq, decide_eq_true_eq, and_assoc, newReading, Bool.not_eq_true']
      exact Iff.rfl
    show k.handDisagree (newReading n) x = { k with hlm := disagreeHlm n x.entry.value }
    unfold Node.handDisagree disagreeHlm
    simp only [judged, Node.health, serv, if_true]
    split <;> rfl
  simp only [Node.publishStrain, sendSample_strain]
  exact congrArg (·.consumeStrain x.entry) (handed _)

theorem strainPoint_eq {n : Node} {x : StrainEntry} (live : n.extLive = true)
    (hx : (atPoint n).strainSample (newReading n) = x) : (atPoint n).strainPoint (newReading n) =
      (((strainSampled n x).consumeStrain x.entry).learnStage).releaseStage x.entry := by
  simp only [Node.strainPoint, hx, publishStrain_eq x live]

/-- What the consumers, the learning and the release leave of the node with its sample. -/
theorem published_leaves (k : Node) (e : HistEntry) :
    let m := ((k.consumeStrain e).learnStage).releaseStage e
    measuredPart m.exh = measuredPart k.exh ∧ m.fbc.strainSlot = k.fbc.strainSlot ∧ m.hlm = k.hlm ∧
      m.lc = k.lc ∧ m.pta = k.pta ∧ m.datums = k.datums ∧ m.clk = k.clk ∧ m.sul = k.sul := by
  intro m
  have kept : sampleKept m = sampleKept k := by simp [m]
  simp only [sampleKept, Prod.mk.injEq] at kept
  exact ⟨kept.1, kept.2.2, by simp [m]⟩

end Sys2Proof.Proofs
end

section
/-! PROOFS. The bracketed travel, the learning of the handover ratio, and a reading at a publish point (R26, R43 to R46,
R51, R53, R57 to R59). -/
namespace Sys2Proof.Proofs
open Sys2Proof Sys2Proof.Machine Sys2Proof.Laws

/-! ### Travel that brackets a time (R26, R53) -/

/-- A travel source, where it has a datum. -/
def sourceOf (h : List HistEntry) (datum : Option Int) : List (List HistEntry × Int) :=
  (datum.map fun d => (h, d)).toList

theorem filterMap_cons_eq_append {α β : Type} (f : α → Option β) (x : α) (xs : List α) :
    (x :: xs).filterMap f = (f x).toList ++ xs.filterMap f := by
  cases h : f x with
  | none => rw [List.filterMap_cons_none h]; rfl
  | some y => rw [List.filterMap_cons_some h]; rfl

theorem travelSources_eq (n : Node) : n.travelSources = sourceOf n.tsg.hist n.datums.own ++
    sourceOf (n.sub 0).hist n.datums.subs[0] ++ sourceOf (n.sub 1).hist n.datums.subs[1] ++
    sourceOf (n.sub 2).hist n.datums.subs[2] ++ sourceOf (n.sub 3).hist n.datums.subs[3] := by
  have own : (match n.datums.own with
      | some d => [(n.tsg.hist, d)]
      | none => []) = sourceOf n.tsg.hist n.datums.own := by
    cases n.datums.own <;> rfl
  have sub (i : Fin 4) : (match n.datums.subs[i] with
      | some d => some ((n.sub i).hist, d)
      | none => none).toList = sourceOf (n.sub i).hist n.datums.subs[i] := by
    cases n.datums.subs[i] <;> rfl
  have append {xs xs' ys ys' : List (List HistEntry × Int)} (hx : xs = xs') (hy : ys = ys') :
      xs ++ ys = xs' ++ ys' := by rw [hx, hy]
  simp only [Node.travelSources, allSubs, filterMap_cons_eq_append, List.filterMap_nil, List.append_nil,
    List.append_assoc]
  exact append own (append (sub 0) (append (sub 1) (append (sub 2) (sub 3))))

/-- What a source answers for a time, less its datum. -/
def bracketedBy (t : Time) (s : List HistEntry × Int) : Option Int := (answerBracketed s.1 t).map (· - s.2)

theorem mapM_of_absent {α β : Type} {f : α → Option β} {xs : List α} (h : none ∈ xs.map f) :
    xs.mapM f = none := by
  induction xs with
  | nil => cases h
  | cons x xs ih =>
    cases hx : f x with
    | none => simp [List.mapM_cons, hx]
    | some y =>
      have rest : none ∈ xs.map f := by simpa [hx] using h
      simp [List.mapM_cons, hx, ih rest]

theorem mapM_of_present {α : Type} {f : α → Option Int} {xs : List α} (h : none ∉ xs.map f) :
    xs.mapM f = some ((xs.map f).map (·.getD 0)) := by
  induction xs with
  | nil => rfl
  | cons x xs ih =>
    cases hx : f x with
    | none => simp [hx] at h
    | some y =>
      have rest : none ∉ xs.map f := by simpa [hx] using h
      simp [List.mapM_cons, hx, ih rest]

theorem travelBracketed_eq (n : Node) (t : Time) :
    n.travelBracketed t = (n.travelSources.mapM (bracketedBy t)).bind meanTravel := by
  show (match n.travelSources.mapM (bracketedBy t) with
    | some xs => meanTravel xs
    | none => none) = _
  cases n.travelSources.mapM (bracketedBy t) <;> rfl

/-- Travel brackets no time without a source, or where a source does not. -/
theorem travelBracketed_of_absent {n : Node} {t : Time} {answers : List (Option Int)}
    (ha : n.travelSources.map (bracketedBy t) = answers) (h : answers = [] ∨ none ∈ answers) :
    n.travelBracketed t = none := by
  subst ha
  rw [travelBracketed_eq]
  rcases h with h | h
  · rw [List.map_eq_nil_iff.mp h]
    rfl
  · rw [mapM_of_absent h]
    rfl

/-- Where every source brackets the time, travel is the rounded mean of what they answer. -/
theorem travelBracketed_of_present {n : Node} {t : Time} {answers : List (Option Int)}
    (ha : n.travelSources.map (bracketedBy t) = answers) (any : answers ≠ []) (h : none ∉ answers) :
    n.travelBracketed t = some (roundDiv (answers.map (·.getD 0)).sum answers.length) := by
  rw [travelBracketed_eq, mapM_of_present (by rw [ha]; exact h), ha]
  simp [meanTravel, any]

/-! ### The learning (R53) -/

theorem notLearned_iff (f : SampleFlags) : f.notLearned = true ↔
    f.fault = true ∨ f.detached = true ∨ f.releasing = true ∨ f.derived = true := by
  simp [SampleFlags.notLearned, or_assoc]

theorem learnStage_of_not {n : Node} (h : n.exh.st ≠ .attached ∨ n.seq.test ≠ some .running ∨
    n.exh.hist.length ≠ 8) : n.learnStage = n := by
  unfold Node.learnStage
  rw [if_neg]
  rcases h with h | h | h <;> simp [h]

theorem learnStage_of_full {n : Node} {a b : StrainEntry} {mid : List StrainEntry} (hs : n.exh.st = .attached)
    (ht : n.seq.test = some .running) (hh : n.exh.hist = a :: (mid ++ [b])) (hm : mid.length = 6) :
    n.learnStage = if a.entry.flags.notLearned || b.entry.flags.notLearned then n
      else ((n.learnBetween a b).map fun k => n.setExh { n.exh with k := some k }).getD n := by
  have last : (a :: (mid ++ [b])).getLast? = some b := List.getLast?_concat (l := a :: mid)
  unfold Node.learnStage
  rw [if_pos (by simp [hs, ht, hh, hm])]
  simp only [hh, last, List.head?_cons]
  cases n.learnBetween a b <;> rfl

theorem learnBetween_of_absent {n : Node} {a b : StrainEntry} (h : n.travelBracketed a.entry.time = none ∨
    n.travelBracketed b.entry.time = none ∨ answerBracketed n.loadHist a.entry.time = none ∨
    answerBracketed n.loadHist b.entry.time = none) : n.learnBetween a b = none := by
  unfold Node.learnBetween
  split
  · simp_all
  · rfl

/-- The learning between two entries that are used, where travel and force bracket both. -/
theorem learnBetween_of_present {n : Node} {a b : StrainEntry} {s s' f f' : Int}
    (hs : n.travelBracketed a.entry.time = some s) (hs' : n.travelBracketed b.entry.time = some s')
    (hf : answerBracketed n.loadHist a.entry.time = some f)
    (hf' : answerBracketed n.loadHist b.entry.time = some f') :
    n.learnBetween a b = learnedRatio (b.elong - a.elong) (s' - s) (f' - f) n.compliance := by
  simp only [Node.learnBetween, hs, hs', hf, hf']

theorem learnedRatio_eq (e s f c : Int) :
    let den := s - roundDiv (c * f) 1024
    let k := roundDiv (65536 * e) den
    learnedRatio e s f c = if 0 < den ∧ 4096 ≤ k ∧ k ≤ 65536 then some k else none := by
  intro den k
  show (if 0 < den then if 4096 ≤ k ∧ k ≤ 65536 then some k else none else none) = _
  by_cases hd : 0 < den
  · rw [if_pos hd]
    by_cases hk : 4096 ≤ k ∧ k ≤ 65536
    · rw [if_pos hk, if_pos ⟨hd, hk⟩]
    · rw [if_neg hk, if_neg fun h => hk h.2]
  · rw [if_neg hd, if_neg fun h => hd h.1]

/-! ### The elongation of a reading (R44) -/

theorem newReading_of_faults {n : Node} {b1 b2 : Bool} (h1 : (slipArm1 n).fault = b1)
    (h2 : (slipArm2 n).fault = b2) : newReading n = ⟨(slipArm1 n).elongation n.img.drive.armScale,
      (slipArm2 n).elongation n.img.drive.armScale, !b1, !b2⟩ := by
  simp only [newReading, h1, h2]

/-- The flags of a measured sample (R46). -/
def measuredFlags (n : Node) (single fault : Bool) : SampleFlags :=
  { detached := n.exh.st == .detached, releasing := n.exh.st == .releasing, singleArm := single
    fault := fault, slip := n.exh.slip || n.slipNow.isSome, degraded := (slipHlm n).degraded .strain }

/-- The flags of a derived sample (R46, R59). -/
def derivedFlags (n : Node) (fault : Bool) : SampleFlags :=
  { derived := true, unplanned := n.exh.unplanned, fault := fault, slip := n.exh.slip
    degraded := n.hlm.degraded .strain }

theorem atPoint_measuredFlags {n : Node} (hs : n.exh.st ≠ .released) : (atPoint n).strainFlags (newReading n) =
    measuredFlags n (newReading n).singleArm (newReading n).measured.isNone :=
  strainFlags_of_measured (n := atPoint n) _ hs

theorem atPoint_derivedFlags {n : Node} (hs : n.exh.st = .released) :
    (atPoint n).strainFlags (newReading n) = derivedFlags n n.derivedElong.isNone := by
  have calm : n.slipNow = none := slipNow_of_none (.inl (by simp [hs]))
  refine (strainFlags_of_derived (n := atPoint n) _ hs).trans ?_
  simp only [atPoint, slipExh_of_none calm, slipHlm_of_none calm]
  rfl

theorem sample_of_measured {n : Node} {r : Reading} {v : Int} (hs : n.exh.st ≠ .released)
    (hr : newReading n = r) (hm : r.measured = some v) : (atPoint n).strainSample (newReading n) =
      ⟨⟨n.exh.prod, n.now, strainOf v n.exh.gauge, measuredFlags n r.singleArm false⟩, v⟩ := by
  subst hr
  rw [strainSample_of_value (n := atPoint n) ((sampleElong_of_measured _ hs).trans hm), atPoint_measuredFlags hs, hm]
  rfl

theorem sample_of_faults {n : Node} {r : Reading} (hs : n.exh.st ≠ .released)
    (hr : newReading n = r) (hm : r.measured = none) : (atPoint n).strainSample (newReading n) =
      ⟨⟨n.exh.prod, n.now, n.exh.lastValue, measuredFlags n r.singleArm true⟩, n.exh.lastElong⟩ := by
  subst hr
  rw [strainSample_of_absent (n := atPoint n) ((sampleElong_of_measured _ hs).trans hm), atPoint_measuredFlags hs, hm]
  rfl

theorem sample_of_derived {n : Node} {v : Int} (hs : n.exh.st = .released) (hd : n.derivedElong = some v) :
    (atPoint n).strainSample (newReading n) =
      ⟨⟨n.exh.prod, n.now, strainOf v n.exh.gauge, derivedFlags n false⟩, v⟩ := by
  rw [strainSample_of_value (n := atPoint n) ((sampleElong_of_derived _ hs).trans hd), atPoint_derivedFlags hs, hd]
  rfl

theorem sample_of_absent {n : Node} (hs : n.exh.st = .released) (hd : n.derivedElong = none) :
    (atPoint n).strainSample (newReading n) =
      ⟨⟨n.exh.prod, n.now, n.exh.lastValue, derivedFlags n true⟩, n.exh.lastElong⟩ := by
  rw [strainSample_of_absent (n := atPoint n) ((sampleElong_of_derived _ hs).trans hd), atPoint_derivedFlags hs, hd]
  rfl

/-! ### The publish point -/

/-- A publish point that forms this sample, up to what its consumers leave. -/
theorem reading_forms {n : Node} (q : List Instr) (live : n.extLive = true)
    (nothing : n.pairOpen = false ∨ n.exh.st ≠ .releasing ∧ n.exh.releaseOut = false)
    (point : n.exh.pubCount + 1 = n.strainEvery) {x : StrainEntry}
    (hx : (atPoint n).strainSample (newReading n) = x) :
    let k := strainSampled n x
    ∃ m, exec .armReading ⟨n, q⟩ = .next ⟨m, q⟩ ∧
      m = ((k.consumeStrain x.entry).learnStage).releaseStage x.entry ∧
      m.exh.hist = k.exh.hist ∧ m.exh.prod = n.exh.prod + 1 ∧ m.exh.lastValue = x.entry.value ∧
      m.exh.lastElong = x.elong ∧ m.exh.slip = false ∧ m.exh.pubCount = 0 ∧ m.exh.arm1 = slipArm1 n ∧
      m.exh.arm2 = slipArm2 n ∧ m.fbc.strainSlot = k.fbc.strainSlot ∧ m.hlm = k.hlm ∧
      m.lc = n.lc ∧ m.pta = n.pta ∧ m.datums = n.datums ∧ m.clk = n.clk ∧ m.sul = n.sul := by
  intro k
  obtain ⟨exh, rest⟩ := published_leaves k x.entry
  refine ⟨_, ?_, rfl, (congrArg Exh.hist exh :), (congrArg Exh.prod exh :), (congrArg Exh.lastValue exh :),
    (congrArg Exh.lastElong exh :), (congrArg Exh.slip exh :), (congrArg Exh.pubCount exh :), (congrArg Exh.arm1 exh :),
    (congrArg Exh.arm2 exh :), rest⟩
  rw [exec_armReading_point q live nothing point, strainPoint_eq live hx]

/-- Settles O23: a publish point by the elongation its sample can be formed from. -/
theorem readingFormsTheStrainSample : Obligations.ReadingFormsTheStrainSample := by
  refine ⟨fun n q live opened => ⟨fun hs => ?_, fun hs => ?_⟩, fun n arm1 => ?_, ?_, fun n t => ?_, fun n => ?_⟩
  · rw [exec_armReading_judged q live, judgeOpen_of_releasing opened hs, putExh_eq (by simp [hs])]
  · rw [exec_armReading_judged q live, judgeOpen_of_other opened hs]
    rfl
  · refine slipNow_eq_some_iff.trans ?_
    simp only [slipsFrom, movedMore, and_assoc]
    exact Iff.rfl
  · intro n q live point nothing el strain slippedTo A B slip slipped bound formed
    have forms (value elong : Int) (flags : SampleFlags) (hx : (atPoint n).strainSample (newReading n) =
        ⟨⟨n.exh.prod, n.now, value, flags⟩, elong⟩) : formed value elong flags :=
      reading_forms q live nothing point hx
    -- the elongation and the strain that the statement spells are the model's
    have elongation : el = fun x => x.elongation n.img.drive.armScale := rfl
    have strainIs : strain = fun v => strainOf v n.exh.gauge := rfl
    clear_value el strain
    subst elongation strainIs
    refine ⟨fun hs => ?_, fun hs => ?_⟩
    · intro flags mean
      refine ⟨fun f1 f2 => ?_, fun f1 f2 => ?_, fun f1 f2 => ?_, fun f1 f2 => ?_⟩
      · exact forms _ _ _ (sample_of_measured hs (newReading_of_faults f1 f2) rfl)
      · exact forms _ _ _ (sample_of_measured hs (newReading_of_faults f1 f2) rfl)
      · exact forms _ _ _ (sample_of_measured hs (newReading_of_faults f1 f2) rfl)
      · exact forms _ _ _ (sample_of_faults hs (newReading_of_faults f1 f2) rfl)
    · intro flags c
      refine ⟨fun e s f k s' f' hsnap hk hs' hf' => ?_, fun absent => ?_⟩
      · intro elong
        have hd : n.derivedElong = some elong := by
          simp only [Node.derivedElong, hsnap, hk, hs', hf', compliance_eq]
          rfl
        exact forms _ _ _ (sample_of_derived hs hd)
      · exact forms _ _ _ (sample_of_absent hs (derivedElong_of_absent absent))
  · intro source answers
    have one (h : List HistEntry) (d : Option Int) : (sourceOf h d).map (bracketedBy t) = source h d := by
      cases d <;> rfl
    have ha : n.travelSources.map (bracketedBy t) = answers := by
      simp only [travelSources_eq, List.map_append, one]
      rfl
    exact ⟨travelBracketed_of_absent ha, travelBracketed_of_present ha, rfl⟩
  · intro unused c
    refine ⟨learnStage_of_not, fun a mid b hs ht hh hm => ⟨fun h => ?_, ?_⟩⟩
    all_goals
      have flagged : (a.entry.flags.notLearned || b.entry.flags.notLearned) = true ↔
          unused a.entry.flags ∨ unused b.entry.flags := by
        rw [Bool.or_eq_true, notLearned_iff, notLearned_iff]
      rw [learnStage_of_full hs ht hh hm]
    · by_cases used : unused a.entry.flags ∨ unused b.entry.flags
      · rw [if_pos (flagged.mpr used)]
      · rw [if_neg (mt flagged.mp used), learnBetween_of_absent]
        · rfl
        · exact h.elim (fun ha => absurd (.inl ha) used) (·.elim (fun hb => absurd (.inr hb) used) id)
    · intro s s' f f' ua ub hs' hs'' hf hf' den k
      rw [if_neg (mt flagged.mp (not_or.mpr ⟨ua, ub⟩)), learnBetween_of_present hs' hs'' hf hf', learnedRatio_eq,
        compliance_eq]
      by_cases range : 0 < den ∧ 4096 ≤ k ∧ k ≤ 65536
      · rw [if_pos range, if_pos range]
        rfl
      · rw [if_neg range, if_neg range]
        rfl

end Sys2Proof.Proofs
end

section
/-! PROOFS. The receiver of the frame bus: runs and errors on the line, and the valid frame of another station, queued
or discarded (R63 to R67, R70, R181). -/
namespace Sys2Proof.Proofs
open Sys2Proof Sys2Proof.Machine Sys2Proof.Laws

/-! ### The line and its errors (R65, R70) -/

/-- The health monitor after one frame discarded at the bus (R176, R181). -/
def busDiscarded (n : Node) : Hlm :=
  if n.inService then { n.hlm with bus := n.hlm.bus.updated .bus n.img 1 } else n.hlm

theorem setFbc_health_bus (n : Node) (b : Fbc) :
    (n.setFbc b).health .bus 1 = { n with fbc := b, hlm := busDiscarded n } := by
  have live : (n.setFbc b).inService = n.inService := rfl
  simp only [Node.health, busDiscarded, live]
  split <;> rfl

theorem runStart_of_hearing {n : Node} (h : n.hears = true) : n.runStart = n.setFbc (n.fbc.runStarted n.now) :=
  if_pos h

theorem runStarted_of_hunting {b : Fbc} (now : Time) (h : b.receiver = .hunting) :
    b.runStarted now = { b with receiver := .receiving, rxStamp := now, lineBusy := true } := by
  simp only [Fbc.runStarted, h]

theorem runStarted_of_other {b : Fbc} (now : Time) (h : b.receiver ≠ .hunting) :
    b.runStarted now = { b with lineBusy := true } := by
  unfold Fbc.runStarted
  split
  · exact absurd ‹_› h
  · rfl

theorem skippingEnd_of_skipping {n : Node} (h : n.hears = true) (hs : n.fbc.receiver = .skipping) :
    n.skippingEnd = n.setFbc n.fbc.idleBit := by
  simp [Node.skippingEnd, h, hs]

/-- An error that the receiver's state can reveal discards the frame; the rest of an own run is handed to nobody. -/
theorem receiveError_of_arising {n : Node} {e : ReceiveError} (h : n.hears = true)
    (hr : n.fbc.receiver = ReceiveError.arisesIn e) : n.receiveError e =
      { n with fbc := n.fbc.afterError e, hlm := if n.fbc.ownRun then n.hlm else busDiscarded n } := by
  simp only [Node.receiveError, h, hr, beq_self_eq_true, Bool.and_self, if_true, setFbc_health_bus]
  split <;> rfl

/-- Settles O26: the receiver's answer to a start bit, to an idle line and to each error. -/
theorem receiverFollowsTheLine : Obligations.ReceiverFollowsTheLine := by
  intro n q hears b health left discards idle
  have error (e : ReceiveError) (hr : b.receiver = ReceiveError.arisesIn e) :
      exec (.frameReceiveError e) ⟨n, q⟩ = discards (b.afterError e) := by
    have handed : health = if b.ownRun then n.hlm else busDiscarded n := by
      cases own : b.ownRun <;> simp [health, own, busDiscarded]
    simp only [discards, handed]
    exact congrArg (State.ran ⟨n, q⟩) (receiveError_of_arising hears hr)
  refine ⟨fun hr => ?_, fun hr => ?_, fun hr => ?_, fun hr => ⟨error _ hr, error _ hr, error _ hr, error _ hr⟩,
    fun hr => error _ hr⟩
  · exact congrArg (State.ran ⟨n, q⟩)
      ((runStart_of_hearing hears).trans (congrArg n.setFbc (runStarted_of_hunting n.now hr)))
  · exact congrArg (State.ran ⟨n, q⟩)
      ((runStart_of_hearing hears).trans (congrArg n.setFbc (runStarted_of_other n.now hr)))
  · exact congrArg (State.ran ⟨n, q⟩) (skippingEnd_of_skipping hears hr)

/-! ### A frame that is taken (R66) -/

theorem sampleTaken_iff (n : Node) (h : Header) (p : List Byte) : n.sampleTaken h p = true ↔
    ∃ b rest ch i, p = b :: rest ∧ Channel.ofCode b = some ch ∧ n.matchSub h.sender ch = some i := by
  cases p with
  | nil => simp [Node.sampleTaken]
  | cons b rest =>
    cases hc : Channel.ofCode b with
    | none => simp [Node.sampleTaken, hc]
    | some ch => simp [Node.sampleTaken, hc, Option.isSome_iff_exists]

theorem addressed_iff (n : Node) (h : Header) :
    n.addressed h = true ↔ h.broadcast = true ∨ h.target = n.nodeId := by
  simp [Node.addressed]

theorem takenKind_iff (n : Node) (h : Header) (p : List Byte) (k : MsgKind) : n.takenKind h p = some k ↔
    MsgKind.ofCode h.cls h.kind = some k ∧ (h.broadcast = true ∨ h.target = n.nodeId) ∧ k ≠ .reply ∧
      k ≠ .result ∧ (k = .sample → n.sampleTaken h p = true) := by
  rw [← addressed_iff]
  unfold Node.takenKind
  cases MsgKind.ofCode h.cls h.kind with
  | none => simp
  | some j =>
    by_cases ha : n.addressed h = true
    · cases j <;> cases k <;> simp [ha]
    · simp [ha]

/-! ### A valid frame (R66, R67) -/

theorem receive_of_valid {n : Node} {chars p : List Byte} {h : Header} (hears : n.hears = true)
    (hr : n.fbc.receiver = .receiving) (hj : judge chars = .valid h p) :
    n.receive chars = n.completeFrame h p := by
  simp [Node.receive, hears, hr, hj]

theorem completeFrame_of_peer {n : Node} {h : Header} (p : List Byte) (hs : h.sender ≠ n.nodeId) :
    n.completeFrame h p = (n.setFbc (n.fbc.runEnded .hunting)).hearPeer h p := if_neg hs

theorem enqueue_of_urgent {n : Node} {k : MsgKind} (f : RxFrame) (hk : k.cls = .urgent) : n.enqueue k f =
    if n.fbc.urgentQ.length < 2 then n.setFbc { n.fbc with urgentQ := n.fbc.urgentQ ++ [f] }
    else n.health .bus 1 := by
  simp only [Node.enqueue, hk]
  rfl

theorem enqueue_of_other {n : Node} {k : MsgKind} (f : RxFrame) (hk : k.cls ≠ .urgent) : n.enqueue k f =
    if n.fbc.normalQ.length < 6 then n.setFbc { n.fbc with normalQ := n.fbc.normalQ ++ [f] }
    else n.health .bus 1 := by
  unfold Node.enqueue
  split
  · exact absurd ‹_› hk
  · rfl

/-- The node when the run has ended and the frame's header facts are handed over (R66). -/
def factsHanded (n : Node) (h : Header) : Node :=
  n.setFbc { n.fbc.runEnded .hunting with facts := n.fbc.facts ++ [factsOf h n.fbc.rxStamp] }

theorem hearPeer_of_dropped {n : Node} {h : Header} {p : List Byte} (hk : n.takenKind h p = none) :
    (n.setFbc (n.fbc.runEnded .hunting)).hearPeer h p = factsHanded n h := by
  have same : (n.setFbc (n.fbc.runEnded .hunting)).takenKind h p = none := hk
  simp only [Node.hearPeer, same]
  rfl

theorem hearPeer_of_taken {n : Node} {h : Header} {p : List Byte} {k : MsgKind}
    (hk : n.takenKind h p = some k) : (n.setFbc (n.fbc.runEnded .hunting)).hearPeer h p =
      (factsHanded n h).enqueue k ⟨h, p, n.fbc.rxStamp⟩ := by
  have same : (n.setFbc (n.fbc.runEnded .hunting)).takenKind h p = some k := hk
  simp only [Node.hearPeer, same]
  rfl

/-- Settles O27: the frame by the queue of its class, with room or without. -/
theorem validFrameIsQueuedOrOverruns : Obligations.ValidFrameIsQueuedOrOverruns := by
  intro n q chars h p hears hr hj hs
  refine ⟨fun k => by rw [takenKind_iff, sampleTaken_iff], ?_⟩
  intro rx b overrun
  have answer {m : Node} (hm : (n.setFbc (n.fbc.runEnded .hunting)).hearPeer h p = m) :
      exec (.frameReceived chars) ⟨n, q⟩ = .next ⟨m, q⟩ :=
    congrArg (State.ran ⟨n, q⟩)
      ((receive_of_valid hears hr hj).trans ((completeFrame_of_peer p hs).trans hm))
  have discarded : (factsHanded n h).health .bus 1 = { n with fbc := b, hlm := overrun } :=
    setFbc_health_bus n b
  refine ⟨fun hk => answer (hearPeer_of_dropped hk), fun k hk hc => ?_, fun k hk hc => ?_⟩
  · refine answer ((hearPeer_of_taken hk).trans ((enqueue_of_urgent _ hc).trans ?_))
    rw [discarded]
    rfl
  · refine answer ((hearPeer_of_taken hk).trans ((enqueue_of_other _ hc).trans ?_))
    rw [discarded]
    rfl

end Sys2Proof.Proofs
end

section
/-! PROOFS. The node's own attempts: the frame that contends, its start, its end, and what becomes of it (R70 to R76,
R78, R181). -/
namespace Sys2Proof.Proofs
open Sys2Proof Sys2Proof.Machine Sys2Proof.Laws

/-! ### Which frame contends (R70, R71) -/

theorem contends_eq_some_iff {n : Node} {c : FrameClass} {x : Holder × TxFrame} :
    n.contends c = some x ↔ n.fbc.idleCount = n.gap c ∧ n.fbc.ready c = some x := by
  simp [Node.contends]

/-- A gap lies in the window of its class. -/
theorem gap_window (n : Node) (c : FrameClass) : baseGap c ≤ n.gap c ∧ n.gap c ≤ windowTop c := by
  have id := n.nodeId.isLt
  unfold Node.gap
  cases c <;> simp only [baseGap, windowTop] <;> split <;> omega

/-- The windows of the classes lie apart, so a node contends in one class at most. -/
theorem contends_eq_none {n : Node} {c d : FrameClass} {x : Holder × TxFrame} (hx : n.contends c = some x)
    (hd : windowTop d < baseGap c ∨ windowTop c < baseGap d) : n.contends d = none := by
  have hc := (contends_eq_some_iff.mp hx).1
  have wc := gap_window n c
  have wd := gap_window n d
  exact if_neg (by omega)

theorem contender_eq_some_iff {n : Node} {x : Holder × TxFrame} : n.contender = some x ↔
    (n.fbcLive = true ∧ n.seq.op ≠ .silent ∧ n.fbc.onLine = none ∧ n.fbc.lineBusy = false) ∧
      (n.contends .urgent = some x ∨ n.contends .sample = some x ∨ n.contends .bulk = some x) := by
  have first : (((n.contends .urgent).orElse fun _ => n.contends .sample).orElse fun _ => n.contends .bulk) =
      some x ↔ n.contends .urgent = some x ∨ n.contends .sample = some x ∨ n.contends .bulk = some x := by
    constructor
    · cases n.contends .urgent <;> cases n.contends .sample <;> simp +contextual
    · rintro (h | h | h)
      · simp [h]
      · simp [h, contends_eq_none h (d := .urgent) (.inl (by decide))]
      · simp [h, contends_eq_none h (d := .urgent) (.inl (by decide)),
          contends_eq_none h (d := .sample) (.inl (by decide))]
  rw [← first]
  simp [Node.contender, and_assoc]

/-! ### Which frame is ready (R74 to R76) -/

theorem readySample_eq_none {b : Fbc} (hl : b.loadSlot = none) (ht : b.travelSlot = none)
    (hs : b.strainSlot = none) : b.readySample = none := by
  simp [Fbc.readySample, hl, ht, hs, holding, earlierSlot]

theorem earlierSlot_left {x : Holder × Slot} {b : Option (Holder × Slot)}
    (h : ∀ y, b = some y → later x.2.fill y.2.fill = false) : earlierSlot (some x) b = some x := by
  cases b with
  | none => rfl
  | some y => simp [earlierSlot, h y rfl]

theorem earlierSlot_right {a : Option (Holder × Slot)} {y : Holder × Slot}
    (h : ∀ x, a = some x → later x.2.fill y.2.fill = true) : earlierSlot a (some y) = some y := by
  cases a with
  | none => rfl
  | some x => simp [earlierSlot, h x rfl]

theorem earlierSlot_eq_some {a b : Option (Holder × Slot)} {z : Holder × Slot} (h : earlierSlot a b = some z) :
    a = some z ∨ b = some z := by
  unfold earlierSlot at h
  split at h
  · split at h <;> simp [h]
  · exact .inl h
  · exact .inr h

theorem holding_eq_some {h : Holder} {o : Option Slot} {x : Holder × Slot} (e : holding h o = some x) :
    o = some x.2 := by
  obtain ⟨s, hs, rfl⟩ := Option.map_eq_some_iff.mp e
  exact hs

/-- Of three slots the one filled earliest is ready, the first of them where times are equal. -/
theorem readySample_of_earliest {b : Fbc} {before behind : List (Holder × Option Slot)} {h : Holder} {s : Slot}
    (slots : [(Holder.loadSlot, b.loadSlot), (.travelSlot, b.travelSlot), (.strainSlot, b.strainSlot)] =
      before ++ (h, some s) :: behind)
    (hbefore : ∀ h' r, (h', some r) ∈ before → later r.fill s.fill = true)
    (hbehind : ∀ h' r, (h', some r) ∈ behind → later s.fill r.fill = false) :
    b.readySample = some (h, s.frame) := by
  have chosen (e : earlierSlot (earlierSlot (holding .loadSlot b.loadSlot) (holding .travelSlot b.travelSlot))
      (holding .strainSlot b.strainSlot) = some (h, s)) : b.readySample = some (h, s.frame) := by
    simp only [Fbc.readySample, e, Option.map_some]
  -- a slot that holds `x` is one of the list, so the hypotheses give its fill time
  have earlier (y : Holder) {o : Option Slot} (mem : (y, o) ∈ before) (x : Holder × Slot)
      (hx : holding y o = some x) : later x.2.fill s.fill = true :=
    hbefore y x.2 (holding_eq_some hx ▸ mem)
  have later_ (y : Holder) {o : Option Slot} (mem : (y, o) ∈ behind) (x : Holder × Slot)
      (hx : holding y o = some x) : later s.fill x.2.fill = false :=
    hbehind y x.2 (holding_eq_some hx ▸ mem)
  apply chosen
  match before with
  | [] =>
    simp only [List.nil_append, List.cons.injEq, Prod.mk.injEq] at slots
    obtain ⟨⟨rfl, hl⟩, rfl⟩ := slots
    rw [hl, holding, Option.map_some, earlierSlot_left (x := (_, s)) (later_ .travelSlot (by simp)),
      earlierSlot_left (x := (_, s)) (later_ .strainSlot (by simp))]
  | [_] =>
    simp only [List.cons_append, List.nil_append, List.cons.injEq, Prod.mk.injEq] at slots
    obtain ⟨rfl, ⟨rfl, ht⟩, rfl⟩ := slots
    rw [ht, holding.eq_1 .travelSlot, Option.map_some,
      earlierSlot_right (y := (_, s)) (earlier .loadSlot (by simp)),
      earlierSlot_left (x := (_, s)) (later_ .strainSlot (by simp))]
  | [_, _] =>
    simp only [List.cons_append, List.nil_append, List.cons.injEq, Prod.mk.injEq] at slots
    obtain ⟨rfl, rfl, ⟨rfl, hs⟩, -⟩ := slots
    rw [hs, holding.eq_1 .strainSlot, Option.map_some, earlierSlot_right (y := (_, s)) fun x hx => ?_]
    exact (earlierSlot_eq_some hx).elim (earlier .loadSlot (by simp) x) (earlier .travelSlot (by simp) x)
  | _ :: _ :: _ :: _ => simp at slots

/-! ### The start of an attempt (R72, R73, R78) -/

theorem attemptStart_of_contender {n : Node} {x : Holder} {f : TxFrame} (h : n.contender = some (x, f)) :
    n.attemptStart = n.startAttempt x f := by
  simp only [Node.attemptStart, h]

theorem seqsAfter_eq (b : Fbc) (f : TxFrame) : b.seqsAfter f =
    if f.seq = none then b.seqs.set f.kind.cls (b.seqs.get f.kind.cls + 1) else b.seqs := by
  unfold Fbc.seqsAfter
  cases f.seq <;> rfl

/-- Settles O29: the contender by its class, the ready frame of each class, and the start of its attempt. -/
theorem attemptStartTakesTheContender : Obligations.AttemptStartTakesTheContender := by
  refine ⟨fun n x => ?_, fun b => ?_, fun n q x f hx => ?_⟩
  · simp only [contender_eq_some_iff, contends_eq_some_iff, and_assoc]
    exact Iff.rfl
  · intro slots
    refine ⟨fun f h => ?_, fun f h1 h => ?_, fun f h1 h2 h => ?_, fun h1 h2 h3 => ?_,
      readySample_eq_none, fun before h s behind => readySample_of_earliest, fun h1 h2 => ?_,
      fun s h1 h2 => ?_, fun e rest h1 h2 => ?_, fun s e rest h1 h2 => ?_,
      rfl, rfl, rfl, rfl, rfl, rfl, rfl, rfl⟩
    · simp only [Fbc.readyUrgent, h]
    · simp only [Fbc.readyUrgent, h1, h]
    · simp only [Fbc.readyUrgent, h1, h2, h]
    · simp only [Fbc.readyUrgent, h1, h2, h3]
    · simp only [Fbc.readyBulk, h1, h2]
    · simp only [Fbc.readyBulk, h1, h2]
    · simp only [Fbc.readyBulk, h1, h2]
    · simp only [Fbc.readyBulk, h1, h2]
      split <;> rfl
  · intro c s payload header
    refine congrArg (State.ran ⟨n, q⟩) ((attemptStart_of_contender hx).trans ?_)
    obtain ⟨kind, target, broadcast, given, seq, failed⟩ := f
    cases seq <;> rfl

end Sys2Proof.Proofs
end

section
/-! PROOFS. The end of an attempt: the read-back judged, the frame sent, discarded or given back to its holder; and the
yields, the pending RESULT and the frames a SILENT node discards (R65, R67, R71, R72, R74 to R76, R181). -/
namespace Sys2Proof.Proofs
open Sys2Proof Sys2Proof.Machine Sys2Proof.Laws

/-! ### The read-back (R72) -/

/-- The characters of an attempt, read back as they were driven. -/
def readEqual (chars : List Byte) : List LineChar := chars.map fun c => ⟨c, true⟩

theorem readBackJudged_equal (chars : List Byte) : readBackJudged chars (readEqual chars) = some .equal := by
  induction chars with
  | nil => rfl
  | cons c cs ih => simpa [readBackJudged, readEqual] using ih

/-- The first character that differs or has no stop bit ends the attempt. -/
theorem readBackJudged_failed {chars : List Byte} {k : Nat} {r : LineChar} (hk : k < chars.length)
    (hr : r ≠ ⟨chars.getD k 0, true⟩) : readBackJudged chars (readEqual (chars.take k) ++ [r]) =
      some (if r.stopBit then .differs else .framing) := by
  induction chars generalizing k with
  | nil => simp at hk
  | cons c cs ih =>
    cases k with
    | zero => exact if_neg hr
    | succ k => exact (if_pos rfl).trans (ih (Nat.lt_of_succ_lt_succ hk) hr)

theorem attemptEnd_of_equal {n : Node} {o : OnLine} (ho : n.fbc.onLine = some o) :
    n.attemptEnd (readEqual o.chars) = n.setFbc (n.fbc.sent o) := by
  simp only [Node.attemptEnd, ho, readBackJudged_equal]

theorem attemptEnd_of_failed {n : Node} {o : OnLine} {k : Nat} {r : LineChar} (ho : n.fbc.onLine = some o)
    (hk : k < o.chars.length) (hr : r ≠ ⟨o.chars.getD k 0, true⟩) :
    n.attemptEnd (readEqual (o.chars.take k) ++ [r]) = n.attemptFailed o (!r.stopBit) := by
  simp only [Node.attemptEnd, ho, readBackJudged_failed hk hr]
  cases r.stopBit <;> rfl

/-! ### What becomes of the frame (R72, R74 to R76) -/

/-- A frame that leaves its holder: a FIFO entry is removed and the removal marked. -/
theorem letGo_eq (b : Fbc) (h : Holder) : b.letGo h = { b with
    fifo := if h = .fifo then b.fifo.drop 1 else b.fifo
    removal := if h = .fifo then true else b.removal } := by
  cases h <;> rfl

theorem comeBack_eq (slot : Option Slot) (f : TxFrame) (now : Time) :
    comeBack slot f now = if slot = none then some ⟨f, now⟩ else slot := by
  cases slot <;> rfl

theorem submitHalt_of_full {b : Fbc} {g : TxFrame} (f : TxFrame) (h : b.haltSlot = some g) :
    b.submitHalt f = b := by
  simp only [Fbc.submitHalt, h]

theorem submitHalt_of_empty {b : Fbc} (f : TxFrame) (h : b.haltSlot = none) :
    b.submitHalt f = { b with haltSlot := some f } := by
  simp only [Fbc.submitHalt, h]

theorem submitMark_of_empty {b : Fbc} (f : TxFrame) (h : b.markSlot = none) :
    b.submitMark f = { b with markSlot := some f } := by
  simp only [Fbc.submitMark, h]

theorem submitMark_of_full {b : Fbc} {g : TxFrame} (f : TxFrame) (h : b.markSlot = some g) : b.submitMark f =
    if markTest g.payload = markTest f.payload ∧ markIndex f.payload < markIndex g.payload then b
    else { b with markSlot := some f } := by
  simp only [Fbc.submitMark, h]

theorem returnMark_of_empty {b : Fbc} (f : TxFrame) (h : b.markSlot = none) :
    b.returnMark f = { b with markSlot := some f } := by
  simp only [Fbc.returnMark, h]

theorem returnMark_of_full {b : Fbc} {g : TxFrame} (f : TxFrame) (h : b.markSlot = some g) : b.returnMark f =
    if markTest g.payload = markTest f.payload ∧ markIndex f.payload ≤ markIndex g.payload then b
    else { b with markSlot := some f } := by
  simp only [Fbc.returnMark, h]

/-- A frame that has failed once more. -/
def failedAgain (f : TxFrame) : TxFrame := { f with failed := f.failed + 1 }

theorem attemptFailed_of_noRetry {n : Node} {o : OnLine} (framing : Bool) (h : o.noRetry = true) :
    n.attemptFailed o framing = n.setFbc ((n.fbc.stopDriving framing).letGo o.holder) := if_pos h

theorem attemptFailed_of_third {n : Node} {o : OnLine} (framing : Bool) (h : o.noRetry = false)
    (hf : 2 ≤ o.frame.failed) : n.attemptFailed o framing =
      { n with fbc := (n.fbc.stopDriving framing).letGo o.holder, hlm := busDiscarded n } := by
  simp only [Node.attemptFailed, h]
  rw [if_neg (by simp), if_pos (by omega), setFbc_health_bus]

theorem attemptFailed_of_retry {n : Node} {o : OnLine} (framing : Bool) (h : o.noRetry = false)
    (hf : o.frame.failed < 2) : n.attemptFailed o framing =
      n.setFbc ((n.fbc.stopDriving framing).giveBack o.holder (failedAgain o.frame) n.now) := by
  simp only [Node.attemptFailed, h]
  rw [if_neg (by simp), if_neg (by omega)]
  rfl

/-- Settles O30: the read-back decides between a frame sent and one that failed, which goes by its holder. -/
theorem attemptEnds : Obligations.AttemptEnds := by
  refine ⟨fun n q o ho => ?_, fun b f g => ⟨submitHalt_of_full f, submitHalt_of_empty f, rfl,
    submitMark_of_empty f, submitMark_of_full f⟩, fun n q o k r ho hk hr => ?_⟩
  · refine congrArg (State.ran ⟨n, q⟩) ((attemptEnd_of_equal ho).trans (congrArg n.setFbc ?_))
    simp only [Fbc.sent, letGo_eq]
  · intro readBack b gone f left back
    have stopped : n.fbc.stopDriving (!r.stopBit) = b := by
      cases hs : r.stopBit <;> simp [Fbc.stopDriving, b, hs]
    have let_go : b.letGo o.holder = gone := by
      simp only [gone, letGo_eq]
      split <;> rfl
    have answer {m : Node} (hm : n.attemptFailed o (!r.stopBit) = m) :
        exec (.attemptEnd readBack) ⟨n, q⟩ = .next ⟨m, q⟩ :=
      congrArg (State.ran ⟨n, q⟩) ((attemptEnd_of_failed ho hk hr).trans hm)
    refine ⟨fun hn => ?_, fun hn hf => ?_, fun hn hf => ?_⟩
    · refine answer ((attemptFailed_of_noRetry _ hn).trans ?_)
      rw [stopped, let_go]
      rfl
    · refine answer ((attemptFailed_of_third _ hn hf).trans ?_)
      rw [stopped, let_go]
      rfl
    · have returns {h : Holder} {b' : Fbc} (hh : o.holder = h) (hb : b.giveBack h f n.now = b') :
          left b' n.hlm := by
        refine answer ((attemptFailed_of_retry _ hn hf).trans ?_)
        rw [stopped, hh]
        exact congrArg n.setFbc hb
      have slot (s : Option Slot) : comeBack s f n.now = back s := comeBack_eq s f n.now
      refine ⟨fun hh => ⟨fun e rest he => returns hh ?_, fun he => returns hh ?_⟩, fun hh => returns hh rfl,
        fun hh => returns hh rfl, fun hh => ⟨fun hg => returns hh (returnMark_of_empty f hg),
          fun g hg => returns hh (returnMark_of_full f hg)⟩,
        fun hh => returns hh (congrArg (fun s => { b with loadSlot := s }) (slot _)),
        fun hh => returns hh (congrArg (fun s => { b with travelSlot := s }) (slot _)),
        fun hh => returns hh (congrArg (fun s => { b with strainSlot := s }) (slot _)),
        fun hh => returns hh (congrArg (fun s => { b with stateSlot := s }) (slot _))⟩
      · have hb : b.fifo = e :: rest := he
        simp only [Fbc.giveBack, hb]
      · have hb : b.fifo = [] := he
        simp only [Fbc.giveBack, hb]

/-! ### Yields, the pending RESULT and the discards in SILENT (R67, R71, R76) -/

theorem windowPasses_of_passed {n : Node} {c : FrameClass} (hears : n.hears = true) (hs : n.seq.op ≠ .silent)
    (idle : n.fbc.lineBusy = false) (passed : windowPassed c n.fbc.idleCount = true) :
    n.windowPasses c = n.setFbc { n.fbc with yields := n.fbc.yields.set c false } := by
  simp [Node.windowPasses, hears, hs, idle, passed]

theorem settlePending_of_room {b : Fbc} {parts : List TxFrame} (now : Time) (hp : b.pendingResult = some parts)
    (hr : b.removal = true) (room : b.fifo.length + parts.length ≤ 8) : b.settlePending now =
      { b with fifo := b.fifo ++ parts.map (⟨·, now⟩), pendingResult := none, removal := false } := by
  simp only [Fbc.settlePending, hr, hp, if_true]
  exact if_pos room

theorem settlePending_of_full {b : Fbc} {parts : List TxFrame} (now : Time) (hp : b.pendingResult = some parts)
    (hr : b.removal = true) (full : 8 < b.fifo.length + parts.length) :
    b.settlePending now = { b with removal := false } := by
  simp only [Fbc.settlePending, hr, hp, if_true]
  exact if_neg (Nat.not_le.mpr full)

theorem popFront_of_urgent {b : Fbc} {g : RxFrame} {rest : List RxFrame} (h : b.urgentQ = g :: rest) :
    b.popFront = { b with urgentQ := rest } := by
  simp only [Fbc.popFront, h]

theorem popFront_of_normal {b : Fbc} {g : RxFrame} {rest : List RxFrame} (hu : b.urgentQ = [])
    (h : b.normalQ = g :: rest) : b.popFront = { b with normalQ := rest } := by
  simp only [Fbc.popFront, hu, h, List.drop_succ_cons, List.drop_zero]

/-- Settles O31: each command by the operation of the bus that it names. -/
theorem yieldClearedPendingEnteredAndDiscarded : Obligations.YieldClearedPendingEnteredAndDiscarded := by
  intro n q b left
  refine ⟨fun hears hs idle => ?_, fun parts hp hr => ⟨fun room => ?_, fun full => ?_⟩,
    fun f hf => ⟨fun g rest hu => ?_, fun g rest hu hg => ?_⟩⟩
  · have clears (c : FrameClass) (passed : windowPassed c b.idleCount = true) :
        exec (.yieldPendingClear c) ⟨n, q⟩ = left { b with yields := b.yields.set c false } :=
      congrArg (State.ran ⟨n, q⟩) (windowPasses_of_passed hears hs idle passed)
    exact ⟨fun h => clears .urgent (decide_eq_true h), fun h => clears .sample (decide_eq_true h),
      fun h => clears .bulk (beq_iff_eq.mpr h)⟩
  · exact congrArg (fun x => State.ran ⟨n, q⟩ (n.setFbc x)) (settlePending_of_room n.now hp hr room)
  · exact congrArg (fun x => State.ran ⟨n, q⟩ (n.setFbc x)) (settlePending_of_full n.now hp hr full)
  · refine (exec_of_delivers (take := fun n _ => n) q rfl hf).trans ?_
    exact congrArg (fun x => State.ran ⟨n, q⟩ (n.setFbc x)) (popFront_of_urgent hu)
  · refine (exec_of_delivers (take := fun n _ => n) q rfl hf).trans ?_
    exact congrArg (fun x => State.ran ⟨n, q⟩ (n.setFbc x)) (popFront_of_normal hu hg)

end Sys2Proof.Proofs
end

section
/-! PROOFS. A local halt cause, the STOP input, and the node's own identity heard on the bus (R68, R78, R136, R137, R142,
R144, R146, R152). -/
namespace Sys2Proof.Proofs
open Sys2Proof Sys2Proof.Machine Sys2Proof.Laws

/-! ### Entry to HALTED (R136, R137) -/

/-- The node that has entered HALTED with this cause, before it submits a HALT of its own. -/
def haltEntered (n : Node) (c : HaltCause) : Node := (n.setRecord c n.nodeId true).enterHalted

theorem enterHalted_closedBy (n : Node) : n.closedBy n.enterHalted .byHalt n.now := by
  intro e he
  simpa using closeOpen_closedBy n .byHalt n.now e he

theorem haltEntered_closedBy (n : Node) (c : HaltCause) : n.closedBy (haltEntered n c) .byHalt n.now :=
  closedBy_congr rfl rfl rfl rfl rfl rfl rfl (enterHalted_closedBy (n.setRecord c n.nodeId true))

theorem enterHalted_haltSlot (n : Node) : n.enterHalted.fbc.haltSlot = n.fbc.haltSlot := by
  let m := (n.closeOpen .byHalt n.now).setSeq { (n.closeOpen .byHalt n.now).seq with
    endCause := n.haltEndCause }
  have before : Notices n m := setSeq_notices _ _ _ (closeOpen_notices _ _ _ _ (.refl n)) rfl rfl
  have after_ : Notices (m.setTest .halted) n.enterHalted :=
    evalEnding_notices _ _ _ (directStop_notices _ _ (.refl _))
  rw [after_.haltSlot, (setTest_slots m .halted).1, before.haltSlot]

theorem haltEntered_haltedBy (n : Node) (c : HaltCause) : n.haltedBy (haltEntered n c) c n.nodeId := by
  refine ⟨by simp [haltEntered], by simp [haltEntered, Node.setRecord], by simp [haltEntered, Node.faultOut],
    by simp [haltEntered, Node.drvEn], fun hd => ?_, fun _ => ?_⟩
  · exact enterHalted_stops (n := n.setRecord c n.nodeId true) hd
  · exact (enterHalted_submits (n.setRecord c n.nodeId true)).1

/-- A local cause in a node that is not halted: a duplicate identity alone submits no HALT (R68, R142). -/
theorem localCause_eq {n : Node} (c : HaltCause) (h : Live n) : n.localCause c =
    if c = .duplicateId then haltEntered n c else (haltEntered n c).sendHalt c := by
  obtain ⟨h1, h2⟩ := h
  unfold Node.localCause
  split
  · exact absurd ‹_› h1
  · exact absurd ‹_› h2
  · rfl

/-- The submission of a HALT comes after the entry to HALTED, and touches the HALT slot alone. -/
theorem localCause_leaves {n : Node} (c : HaltCause) (h : Live n) :
    (n.localCause c).seq = (haltEntered n c).seq ∧ (n.localCause c).hlt = (haltEntered n c).hlt ∧
      (n.localCause c).tsg = (haltEntered n c).tsg ∧
      (n.localCause c).fbc.stateSlot = (haltEntered n c).fbc.stateSlot := by
  rw [localCause_eq c h]
  split <;> simp [sendHalt_slots]

theorem localCause_halts {n : Node} (c : HaltCause) (h : Live n) : n.haltedBy (n.localCause c) c n.nodeId := by
  obtain ⟨seq, hlt, tsg, slot⟩ := localCause_leaves c h
  obtain ⟨test, record, fault, drv, stop, state⟩ := haltEntered_haltedBy n c
  refine ⟨seq ▸ test, hlt ▸ record, ?_, ?_, tsg ▸ stop, fun ha hn => slot ▸ state ?_ hn⟩
  · simpa only [Node.faultOut, seq] using fault
  · simpa only [Node.drvEn, seq] using drv
  · simpa only [Node.active, seq] using ha

theorem localCause_closedBy {n : Node} (c : HaltCause) (h : Live n) :
    n.closedBy (n.localCause c) .byHalt n.now := by
  obtain ⟨seq, -⟩ := localCause_leaves c h
  intro e he
  rw [seq]
  exact haltEntered_closedBy n c e he

theorem localCause_hlt {n : Node} (c : HaltCause) (h : Live n) :
    (n.localCause c).hlt = { n.hlt with record := some ⟨c, n.nodeId, n.now, true⟩ } := by
  rw [(localCause_leaves c h).2.1]
  simp [haltEntered, Node.setRecord]

/-- What a local cause makes of the sequencer beside the test state and the segments (R136, log 17). -/
theorem localCause_seq {n : Node} (c : HaltCause) (h : Live n) :
    (n.localCause c).seq.endCause = n.haltEndCause ∧ (n.localCause c).seq.op = n.seq.op ∧
      (n.localCause c).seq.order = n.seq.order ∧ (n.localCause c).seq.cursor = n.seq.cursor := by
  rw [(localCause_leaves c h).1]
  simp [haltEntered, Node.setRecord, Node.haltEndCause, Node.testInProgress]

/-! ### The HALT slot (R74, R142) -/

theorem sendHalt_of_empty {n : Node} (c : HaltCause) (ha : n.active = true) (h : n.fbc.haltSlot = none) :
    (n.sendHalt c).fbc.haltSlot = some (broadcastFrame .halt (haltPayload c n.nodeId)) := by
  simp [Node.sendHalt, ha, submitHalt_of_empty _ h]

theorem sendHalt_of_full {n : Node} {f : TxFrame} (c : HaltCause) (h : n.fbc.haltSlot = some f) :
    (n.sendHalt c).fbc.haltSlot = some f := by
  unfold Node.sendHalt
  split
  · rw [submitHalt_of_full _ h]
    exact h
  · exact h

theorem localCause_haltSlot_of_empty {n : Node} {c : HaltCause} (h : Live n) (ha : n.active = true)
    (hc : c ≠ .duplicateId) (he : n.fbc.haltSlot = none) :
    (n.localCause c).fbc.haltSlot = some (broadcastFrame .halt (haltPayload c n.nodeId)) := by
  rw [localCause_eq c h, if_neg hc, sendHalt_of_empty]
  · simp [haltEntered, Node.setRecord]
  · simpa [haltEntered, Node.setRecord, Node.active] using ha
  · exact (enterHalted_haltSlot _).trans he

theorem localCause_haltSlot_of_full {n : Node} {f : TxFrame} (c : HaltCause) (h : Live n)
    (hf : n.fbc.haltSlot = some f) : (n.localCause c).fbc.haltSlot = some f := by
  have kept : (haltEntered n c).fbc.haltSlot = some f := (enterHalted_haltSlot _).trans hf
  rw [localCause_eq c h]
  split
  · exact kept
  · exact sendHalt_of_full c kept

/-- Without a test state, or in HALTED, a local cause changes nothing (R141, R144). -/
theorem localCause_of_not_live {n : Node} (c : HaltCause) (h : n.seq.test = none ∨ n.seq.test = some .halted) :
    n.localCause c = n := by
  rcases h with h | h <;> simp only [Node.localCause, h]

/-- A node is halted, has no test state, or takes local causes. -/
theorem test_of_not_live {n : Node} (h : ¬Live n) : n.seq.test = none ∨ n.seq.test = some .halted :=
  Classical.byContradiction fun other => h ⟨fun h1 => other (.inl h1), fun h2 => other (.inr h2)⟩

theorem live_of_test {n : Node} {t : TestState} (h : n.seq.test = some t) (ht : t ≠ .halted) : Live n := by
  simp [Live, h, ht]

/-! ### The STOP input (R146) -/

theorem stopSample_of_inService {n : Node} (a : Bool) (h : n.inService = true) :
    n.stopSample a = (n.setPins { n.pins with stop := a }).sampleStop a := if_pos h

theorem sampleStop_of_rise {n : Node} (h : n.hlt.stopPrev = false) : n.sampleStop true =
    (n.localCause .stopInput).setHlt { (n.localCause .stopInput).hlt with stopPrev := true, stopFound := true } := by
  simp [Node.sampleStop, h]

/-- A sample that raises nothing becomes the level of the watch. -/
theorem sampleStop_of_quiet {n : Node} {a : Bool}
    (h : a = false ∨ n.hlt.stopPrev = true ∨ n.seq.test = some .halted) :
    n.sampleStop a = n.setHlt { n.hlt with stopPrev := a, stopFound := a } := by
  have quiet : (if (a && !n.hlt.stopPrev) = true then n.localCause .stopInput else n) = n := by
    split
    · rename_i rises
      obtain ⟨ha, hp⟩ := Bool.and_eq_true_iff.mp rises
      refine localCause_of_not_live _ (.inr ?_)
      simpa [ha, (Bool.not_eq_true' _).mp hp] using h
    · rfl
  simp only [Node.sampleStop, quiet]

/-- Settles O13: a local cause by the test state it finds, the two outputs, and a STOP sample by whether it rises. -/
theorem localCausesAndStopEnterHalted : Obligations.LocalCausesAndStopEnterHalted := by
  refine ⟨⟨fun n c => ⟨localCause_of_not_live c, fun t ht hne => ?_⟩, fun n => ⟨?_, ?_⟩⟩, fun n q a live => ?_⟩
  · have h := live_of_test ht hne
    obtain ⟨endCause, op, order, cursor⟩ := localCause_seq c h
    refine ⟨localCause_halts c h, localCause_closedBy c h, endCause, op, order, cursor,
      by rw [localCause_hlt c h], fun ha hc he => localCause_haltSlot_of_empty h ha hc he,
      fun f hf => localCause_haltSlot_of_full c h hf, ?_⟩
    simp
  · simp [Node.faultOut]
  · simp [Node.drvEn]
  · intro pins
    have sampled : exec (.stopInputSample a) ⟨n, q⟩ = .next ⟨(n.setPins pins).sampleStop a, q⟩ :=
      congrArg (State.ran ⟨n, q⟩) (stopSample_of_inService a live)
    refine ⟨fun quiet => ?_, fun ha hp ht => ?_⟩
    · rw [sampled, sampleStop_of_quiet (n := n.setPins pins) quiet]
      rfl
    · subst ha
      have h : Live (n.setPins pins) := ⟨Option.isSome_iff_ne_none.mp live, ht⟩
      refine ⟨_, sampled, ?_⟩
      rw [sampleStop_of_rise (n := n.setPins pins) hp]
      obtain ⟨test, record, rest⟩ := localCause_halts .stopInput h
      refine ⟨⟨test, record, rest⟩, rfl, rfl, by simp, ?_, by simp, by simp, by simp⟩
      simp [localCause_hlt .stopInput h]

/-! ### The node's own identity (R68) -/

/-- A node that is not ACTIVE submits nothing. -/
theorem notice_of_inactive {n : Node} (h : n.active = false) : n.notice = n := by
  simp [Node.notice, h]

theorem putCmu_fbc_of_inactive {n : Node} (c : Cmu) (h : n.active = false) : (n.putCmu c).fbc = n.fbc := by
  simp only [Node.putCmu]
  split
  · rfl
  · rw [notice_of_inactive (n := n.setCmu c) h]
    rfl

theorem cmuHold_fbc_of_inactive {n : Node} (h : n.active = false) : n.cmuHold.fbc = n.fbc := by
  unfold Node.cmuHold Node.requestHold
  split
  · rw [putCmu_fbc_of_inactive _ (by simpa [Node.active] using h)]
    simp
  · rfl

theorem putExh_fbc_of_inactive {n : Node} (x : Exh) (h : n.active = false) : (n.putExh x).fbc = n.fbc := by
  simp only [Node.putExh]
  split
  · rfl
  · rw [notice_of_inactive (n := n.setExh x) h]
    rfl

theorem setTest_fbc_of_inactive {n : Node} (t : TestState) (h : n.active = false) :
    (n.setTest t).fbc = n.fbc := by
  have rejudge {m : Node} (hm : m.active = false) : m.exhRejudge.fbc = m.fbc := by
    unfold Node.exhRejudge
    split
    · exact putExh_fbc_of_inactive _ hm
    · rfl
  have noticed : (n.setSeq { n.seq with test := some t }).notice = n.setSeq { n.seq with test := some t } :=
    notice_of_inactive h
  simp only [Node.setTest, noticed]
  split
  · exact (rejudge (by simpa [Node.active] using h)).trans
      (cmuHold_fbc_of_inactive (n := n.setSeq { n.seq with test := some t }) h)
  · exact rejudge h

theorem completeRecord_fbc_of_inactive {n : Node} (h : n.active = false) : n.completeRecord.fbc = n.fbc := by
  have same : (n.setEvl n.evl.completed).active = false := h
  simp [Node.completeRecord, Node.sendResult, same]

theorem evalEnding_fbc_of_inactive {n : Node} (c : EndCause) (h : n.active = false) :
    (n.evalEnding c).fbc = n.fbc := by
  unfold Node.evalEnding Node.endDrain
  split
  · split
    · exact completeRecord_fbc_of_inactive (n := n.setEvl _) h
    · rfl
  · rfl

/-- A node that is not ACTIVE enters HALTED and submits nothing. -/
theorem enterHalted_fbc_of_inactive {n : Node} (h : n.active = false) : n.enterHalted.fbc = n.fbc := by
  let m := (n.closeOpen .byHalt n.now).setSeq { (n.closeOpen .byHalt n.now).seq with
    endCause := n.haltEndCause }
  have hm : m.active = false := by simpa [m, Node.active] using h
  calc n.enterHalted.fbc = (m.setTest .halted).directStop.fbc :=
        evalEnding_fbc_of_inactive _ (by simpa [m, Node.active] using h)
    _ = (m.setTest .halted).fbc := by simp
    _ = m.fbc := setTest_fbc_of_inactive _ hm
    _ = n.fbc := by simp [m]

/-- A duplicate identity taken by a node that is not ACTIVE leaves the bus as it was. -/
theorem localCause_duplicateId_fbc {n : Node} (h : n.active = false) :
    (n.localCause .duplicateId).fbc = n.fbc := by
  by_cases live : Live n
  · rw [localCause_eq _ live, if_pos rfl]
    exact enterHalted_fbc_of_inactive (n := n.setRecord .duplicateId n.nodeId true) h
  · rw [localCause_of_not_live _ (test_of_not_live live)]

/-- The node that has gone SILENT, before an ACTIVE one takes DUPLICATE-ID. -/
def silenced (n : Node) : Node := (n.setFbc n.fbc.atSilent).setSeq { n.seq with op := .silent }

theorem enterSilent_of_active {n : Node} (h : n.seq.op = .active) :
    n.enterSilent = (silenced n).localCause .duplicateId := if_pos h

theorem enterSilent_of_inactive {n : Node} (h : n.seq.op ≠ .active) : n.enterSilent = silenced n := if_neg h

/-- What DUPLICATE-ID leaves of a node that has gone SILENT: its operating state and its bus stand. -/
theorem silenced_duplicateId (n : Node) :
    ((silenced n).localCause .duplicateId).seq.op = .silent ∧
      ((silenced n).localCause .duplicateId).fbc = n.fbc.atSilent := by
  refine ⟨?_, localCause_duplicateId_fbc (n := silenced n) rfl⟩
  by_cases live : Live (silenced n)
  · exact (localCause_seq _ live).2.1
  · rw [localCause_of_not_live _ (test_of_not_live live)]
    rfl

theorem completeFrame_of_own {n : Node} {h : Header} (p : List Byte) (hs : h.sender = n.nodeId) :
    n.completeFrame h p = (n.setFbc (n.fbc.runEnded .hunting)).hearOwn := if_pos hs

/-- Settles O28: SILENT stays, CONFIG-FAULT goes silent, and an ACTIVE node halts as well. -/
theorem ownIdentityHeardSilences : Obligations.OwnIdentityHeardSilences := by
  intro n q chars h p hears hr hj hs b emptied
  have answer {m : Node} (hm : (n.setFbc b).hearOwn = m) :
      exec (.frameReceived chars) ⟨n, q⟩ = .next ⟨m, q⟩ :=
    congrArg (State.ran ⟨n, q⟩)
      ((receive_of_valid hears hr hj).trans ((completeFrame_of_own p hs).trans hm))
  have goes (ho : n.seq.op ≠ .silent) : (n.setFbc b).hearOwn = (n.setFbc b).enterSilent := if_neg ho
  refine ⟨fun ho => answer (if_pos ho), fun ho => ?_, fun t ho ht => ?_⟩
  · exact answer ((goes (by simp [ho])).trans (enterSilent_of_inactive (by simp [ho])))
  · refine ⟨_, answer ((goes (by simp [ho])).trans (enterSilent_of_active ho)), ?_⟩
    obtain ⟨op, fbc⟩ := silenced_duplicateId (n.setFbc b)
    refine ⟨op, fbc, fun hne => ?_, fun hh => ?_, by simp [silenced], by simp [silenced], by simp [silenced],
      by simp [silenced]⟩
    · have live : Live (silenced (n.setFbc b)) := live_of_test ht hne
      obtain ⟨test, record, fault, drv, stop, -⟩ := localCause_halts .duplicateId live
      exact ⟨test, record, fault, drv, stop, fun ha => by simp [Node.active, op] at ha⟩
    · have halted : (silenced (n.setFbc b)).seq.test = some .halted := ht.trans (congrArg some hh)
      rw [localCause_of_halted _ halted]
      exact ⟨halted, rfl⟩

end Sys2Proof.Proofs
end

section
/-! PROOFS. The RESULT: its three parts, byte by byte, and their entry into the bulk FIFO (R76, R173, 12.3). -/
namespace Sys2Proof.Proofs
open Sys2Proof Sys2Proof.Machine Sys2Proof.Laws

/-! ### The parts (12.3) -/

@[simp] theorem be16_length (x : Nat) : (be16 x).length = 2 := rfl
@[simp] theorem be32_length (w : BitVec 32) : (be32 w).length = 4 := rfl
@[simp] theorem u32_length (x : Nat) : (u32 x).length = 4 := rfl
@[simp] theorem i32_length (x : Int) : (i32 x).length = 4 := rfl

/-! ### A RESULT at the FIFO (R76, log 12) -/

theorem settlePending_of_judged {b : Fbc} (now : Time) (h : b.removal = false) : b.settlePending now = b := by
  simp [Fbc.settlePending, h]

theorem settlePending_of_none {b : Fbc} (now : Time) (hp : b.pendingResult = none) (hr : b.removal = true) :
    b.settlePending now = { b with removal := false } := by
  simp only [Fbc.settlePending, hr, hp, if_true]

theorem settlePending_removal (b : Fbc) (now : Time) : (b.settlePending now).removal = false := by
  unfold Fbc.settlePending
  repeat' split
  · rfl
  · rfl
  · rfl
  · exact (Bool.not_eq_true _).mp ‹_›

/-- A removal that is owed a judging is judged before a RESULT is submitted. -/
theorem submitResult_of_settled (b : Fbc) (parts : List TxFrame) (now : Time) :
    b.submitResult parts now = (b.settlePending now).submitResult parts now := by
  simp only [Fbc.submitResult, settlePending_of_judged now (settlePending_removal b now)]

theorem submitResult_of_room {b : Fbc} {parts : List TxFrame} (now : Time) (hr : b.removal = false)
    (hp : b.pendingResult = none) (room : b.fifo.length + parts.length ≤ 8) :
    b.submitResult parts now = { b with fifo := b.fifo ++ parts.map (⟨·, now⟩) } := by
  simp only [Fbc.submitResult, settlePending_of_judged now hr, hp]
  exact if_pos room

theorem submitResult_of_full {b : Fbc} {parts : List TxFrame} (now : Time) (hr : b.removal = false)
    (h : b.pendingResult ≠ none ∨ 8 < b.fifo.length + parts.length) :
    b.submitResult parts now = { b with pendingResult := some parts } := by
  simp only [Fbc.submitResult, settlePending_of_judged now hr]
  cases hp : b.pendingResult with
  | some old => rfl
  | none => exact if_neg (Nat.not_le.mpr (h.resolve_left fun full => full hp))

/-! ### The completion of a record (R171, R173) -/

/-- The frames that a completion submits. -/
def resultFrames (n : Node) : List TxFrame := n.evl.completed.resultParts.map (broadcastFrame .result)

theorem completeRecord_of_inactive {n : Node} (h : n.active = false) :
    n.completeRecord = n.setEvl n.evl.completed := by
  have same : (n.setEvl n.evl.completed).active = false := h
  simp [Node.completeRecord, Node.sendResult, same]

theorem completeRecord_of_active {n : Node} (h : n.active = true) : n.completeRecord =
    { n with evl := n.evl.completed, fbc := n.fbc.submitResult (resultFrames n) n.now } :=
  if_pos h

theorem completeRecord_of_settled {n : Node} (h : n.active = true) :
    n.completeRecord = (n.setFbc (n.fbc.settlePending n.now)).completeRecord := by
  rw [completeRecord_of_active h, completeRecord_of_active (n := n.setFbc (n.fbc.settlePending n.now)) h,
    submitResult_of_settled]
  rfl

/-- Settles O54: the bytes of the parts, and a completion by what it finds of an older RESULT. -/
theorem resultPartsSubmitted : Obligations.ResultPartsSubmitted := by
  refine ⟨fun e => ?_, fun n => ?_⟩
  · intro r v c head or0 endCause validity fit source part1 part2 part3
    have codes : endCause = endCauseCode r.endCause ∧ validity = validityCode r.validity ∧
        fit = e.fit.st.code ∧ source = feSource v.fe := by
      refine ⟨?_, ?_, ?_, ?_⟩
      · cases h : r.endCause with
        | none => simp only [endCause, h, endCauseCode]
        | some x => cases x <;> simp only [endCause, h, endCauseCode]
      · cases h : r.validity with
        | none => simp only [validity, h, validityCode]
        | some x => cases x <;> simp only [validity, h, validityCode]
      · cases h : e.fit.st <;> simp only [fit, h, FitState.code]
      · match h : v.fe with
        | none => simp only [source, h, feSource]
        | some (_, false) => simp only [source, h, feSource]
        | some (_, true) => simp only [source, h, feSource]
    obtain ⟨h1, h2, h3, h4⟩ := codes
    clear_value endCause validity fit source
    subst h1 h2 h3 h4
    refine ⟨?_, by simp [part1, head, or0], by simp [part2, head, or0], by simp [part3, head, or0]⟩
    simp only [Evl.resultParts, Evl.part1, ResultValues.yieldFields, ResultValues.proofFields,
      ResultValues.maxFields, part1, part2, part3, List.append_assoc]
    rfl
  · intro evl parts b queued put first
    refine ⟨fun ha => completeRecord_of_inactive ha, fun ha hr => ⟨fun hp room => ?_, fun h => ?_⟩,
      fun ha hr => ⟨fun hp => ?_, fun old hp => ⟨fun room => ?_, fun full => ?_⟩⟩⟩
    · have fits : b.fifo.length + (resultFrames n).length ≤ 8 := Nat.add_le_add_right room 3
      rw [completeRecord_of_active ha, submitResult_of_room n.now hr hp fits]
      rfl
    · have waits : b.pendingResult ≠ none ∨ 8 < b.fifo.length + (resultFrames n).length :=
        h.imp_right fun full => Nat.add_lt_add_right full 3
      rw [completeRecord_of_active ha, submitResult_of_full n.now hr waits]
      rfl
    · rw [completeRecord_of_settled ha, settlePending_of_none n.now hp hr]
      rfl
    · rw [completeRecord_of_settled ha, settlePending_of_room n.now hp hr room]
      rfl
    · rw [completeRecord_of_settled ha, settlePending_of_full n.now hp hr full]
      rfl

end Sys2Proof.Proofs
end

section
/-! PROOFS. How a frame is coded: the check value, the header and its round trip, the class and kind codes, the fields,
and the contents of SAMPLE and STATE (R63, R64, R73, R75, R78, R193, 12.1, 12.2). -/
namespace Sys2Proof.Proofs
open Sys2Proof Sys2Proof.Machine Sys2Proof.Laws

/-! ### The check value (R64) -/

theorem crcBit_eq (r : BitVec 16) (b : Bool) :
    crcBit r b = if b ≠ r.getLsbD 15 then (r <<< 1) ^^^ 0x1021 else r <<< 1 := by
  unfold crcBit
  by_cases h : b = r.getLsbD 15 <;> simp [h]

theorem checkValue_append (bs : List Byte) (x : Byte) : checkValue (bs ++ [x]) = crcByte (checkValue bs) x := by
  simp [checkValue]

theorem crcByte_eq (r : BitVec 16) (x : Byte) : crcByte r x =
    [x.getLsbD 7, x.getLsbD 6, x.getLsbD 5, x.getLsbD 4, x.getLsbD 3, x.getLsbD 2, x.getLsbD 1,
      x.getLsbD 0].foldl crcBit r := rfl

theorem checkBytes_eq (bs : List Byte) :
    checkBytes bs = [(checkValue bs).extractLsb' 8 8, (checkValue bs).extractLsb' 0 8] := by
  have upper : byteOf ((checkValue bs).toNat / 256) = (checkValue bs).extractLsb' 8 8 := by
    apply BitVec.eq_of_toNat_eq
    simp [byteOf, Nat.shiftRight_eq_div_pow]
  have lower : byteOf (checkValue bs).toNat = (checkValue bs).extractLsb' 0 8 := by
    apply BitVec.eq_of_toNat_eq
    simp [byteOf]
  simp only [checkBytes, be16, upper, lower]

theorem checkBytes_length (bs : List Byte) : (checkBytes bs).length = 2 := rfl

/-! ### The header (12.1) -/

@[simp] theorem headerBytes_length (h : Header) : h.bytes.length = 8 := rfl

/-- The four bytes of a word spell it. -/
theorem bytes_of_word (w : BitVec 32) :
    w.extractLsb' 24 8 ++ w.extractLsb' 16 8 ++ w.extractLsb' 8 8 ++ w.extractLsb' 0 8 = w := by
  rw [BitVec.extractLsb'_append_extractLsb'_eq_extractLsb' (start₁ := 16) (start₂ := 24) rfl,
    BitVec.extractLsb'_append_extractLsb'_eq_extractLsb' (start₁ := 8) (start₂ := 16) rfl,
    BitVec.extractLsb'_append_extractLsb'_eq_extractLsb' (start₁ := 0) (start₂ := 8) rfl]
  exact BitVec.extractLsb'_eq_self

theorem stationId_ofNat (i : Fin 16) : stationId (BitVec.ofNat 4 i.val) = i := by
  apply Fin.ext
  simp [stationId]

/-- A receiver reads the header as the sender had it. -/
theorem headerOf_bytes (h : Header) (rest : List Byte) (hl : h.len < 64) : headerOf (h.bytes ++ rest) = h := by
  obtain ⟨cls, kind, sender, target, broadcast, len, seq, stamp⟩ := h
  have flag : (BitVec.ofBool broadcast ++ (0 : BitVec 1) ++ BitVec.ofNat 6 len).getLsbD 7 = broadcast := by
    rw [BitVec.getLsbD_append, if_neg (by decide)]
    cases broadcast <;> rfl
  have size : ((BitVec.ofBool broadcast ++ (0 : BitVec 1) ++ BitVec.ofNat 6 len).extractLsb' 0 6).toNat = len := by
    rw [BitVec.extractLsb'_append_eq_right, BitVec.toNat_ofNat]
    exact Nat.mod_eq_of_lt hl
  have time : word32At ((Header.mk cls kind sender target broadcast len seq stamp).bytes ++ rest) 4 = stamp :=
    bytes_of_word stamp
  simp only [headerOf, Header.mk.injEq]
  refine ⟨BitVec.extractLsb'_append_eq_left, BitVec.extractLsb'_append_eq_right, ?_, ?_, flag, size, rfl, time⟩
  · exact (congrArg stationId BitVec.extractLsb'_append_eq_left).trans (stationId_ofNat sender)
  · exact (congrArg stationId BitVec.extractLsb'_append_eq_right).trans (stationId_ofNat target)

/-! ### What a receiver judges (R63) -/

theorem judge_frameChars {h : Header} {p : List Byte} (hl : h.len = p.length) (hp : p.length ≤ 32) :
    judge (frameChars h p) = .valid h p := by
  have read : headerOf (frameChars h p) = h := by
    rw [frameChars, List.append_assoc]
    exact headerOf_bytes h _ (by omega)
  have length : (frameChars h p).length = 10 + h.len := by
    simp [frameChars, checkBytes_length]
    omega
  have body : 8 + h.len = (h.bytes ++ p).length := by simp [hl]
  have covered : (frameChars h p).take (8 + h.len) = h.bytes ++ p := List.take_left' body.symm
  have check : (frameChars h p).drop (8 + h.len) = checkBytes (h.bytes ++ p) := List.drop_left' body.symm
  have agrees : checkBytes ((frameChars h p).take (8 + h.len)) = ((frameChars h p).drop (8 + h.len)).take 2 := by
    rw [covered, check, List.take_of_length_le (Nat.le_of_eq (checkBytes_length _))]
  have payload : ((frameChars h p).drop 8).take h.len = p := by
    rw [frameChars, List.append_assoc, List.drop_left' (headerBytes_length h), List.take_left' hl.symm]
  simp only [judge, read]
  rw [if_neg (by omega), if_neg (by omega), if_neg (by omega), if_pos agrees, payload]

/-- A valid frame's check value agrees with what it covers. -/
theorem check_of_valid {chars p : List Byte} {h : Header} (hj : judge chars = .valid h p) :
    checkBytes (chars.take (8 + p.length)) = (chars.drop (8 + p.length)).take 2 := by
  simp only [judge] at hj
  split at hj
  · cases hj
  split at hj
  · cases hj
  split at hj
  · cases hj
  split at hj
  · rename_i long agrees
    cases hj
    have length : ((chars.drop 8).take (headerOf chars).len).length = (headerOf chars).len := by
      simp
      omega
    rw [length]
    exact agrees
  · cases hj

/-! ### Classes and kinds (12.1) -/

theorem classOfCode_eq_some {c : BitVec 2} {x : FrameClass} (h : classOfCode c = some x) : classCode x = c := by
  unfold classOfCode at h
  split at h
  · cases h; exact ‹c = 1›.symm
  split at h
  · cases h; exact ‹c = 2›.symm
  split at h
  · cases h; exact ‹c = 3›.symm
  · cases h

/-- A header names a kind exactly where it carries the codes of the kind and of its class. -/
theorem msgKind_ofCode_iff (cls : BitVec 2) (kind : BitVec 6) (k : MsgKind) :
    MsgKind.ofCode cls kind = some k ↔ classCode k.cls = cls ∧ k.code = kind := by
  constructor
  · intro h
    unfold MsgKind.ofCode at h
    split at h
    case h_13 => cases h
    all_goals
      rename_i hc hk
      cases h
      exact ⟨classOfCode_eq_some hc, BitVec.eq_of_toNat_eq hk.symm⟩
  · rintro ⟨rfl, rfl⟩
    cases k <;> rfl

/-! ### Fields of several bytes (R193) -/

theorem u32_of_fit {x : Nat} (h : x < 4294967296) : u32 x = be32 (BitVec.ofNat 32 x) := by
  rw [u32, if_pos h]

theorem i32_of_fit {x : Int} (lo : -2147483648 ≤ x) (hi : x < 2147483648) : i32 x = be32 (BitVec.ofInt 32 x) := by
  rw [i32, if_pos ⟨lo, hi⟩]

/-- A byte appended below a word. -/
theorem toNat_append_byte {w : Nat} (x : BitVec w) (y : Byte) : (x ++ y).toNat = x.toNat * 256 + y.toNat := by
  rw [BitVec.toNat_append, ← Nat.shiftLeft_add_eq_or_of_lt y.isLt, Nat.shiftLeft_eq]

theorem nat32At_eq (p : List Byte) (i : Nat) : nat32At p i = nat16At p i * 65536 + nat16At p (i + 2) := by
  have last : natAt p (i + 2 + 1) = (byteAt p (i + 3)).toNat := rfl
  simp only [nat32At, word32At, toNat_append_byte, nat16At, last]
  simp only [natAt]
  omega

theorem int32At_eq (p : List Byte) (i : Nat) :
    int32At p i = if nat32At p i < 2147483648 then (nat32At p i : Int) else nat32At p i - 4294967296 := by
  have word : (word32At p i).toNat = nat32At p i := rfl
  rw [int32At, BitVec.toInt_eq_toNat_cond, word]
  split <;> split <;> omega

/-! ### SAMPLE and STATE (12.2) -/

theorem sampleFlags_bytes (f : SampleFlags) : f.bytes =
    [BitVec.ofNat 8 (f.derived.toNat + 2 * f.unplanned.toNat + 4 * f.detached.toNat),
      BitVec.ofNat 8 (f.held.toNat + 2 * f.balancing.toNat + 4 * f.overrange.toNat +
        8 * f.degraded.toNat + 16 * f.slip.toNat + 32 * f.singleArm.toNat + 64 * f.fault.toNat +
        128 * f.releasing.toNat)] := by
  simp only [SampleFlags.bytes, bitsByte, byteOf, List.foldr]
  refine List.cons_eq_cons.mpr ⟨congrArg (BitVec.ofNat 8) ?_, congrArg (fun x => [BitVec.ofNat 8 x]) ?_⟩ <;> omega

theorem summary_byte (x : Summary) : x.byte = BitVec.ofNat 8 (x.lockTimeout.toNat + 2 * x.fallback.toNat +
    4 * x.starvedBefore.toNat + 8 * x.levelSaturated.toNat + 16 * x.heldPair.toNat) := by
  simp only [Summary.byte, bitsByte, byteOf, List.foldr]
  exact congrArg (BitVec.ofNat 8) (by omega)

theorem causes_byte (x : Causes) : x.byte = BitVec.ofNat 8 (x.degraded.toNat + 2 * x.heldPairing.toNat +
    4 * x.strainFault.toNat + 8 * x.unplannedHandover.toNat + 16 * x.noFit.toNat +
    32 * x.fitRejected.toNat) := by
  simp only [Causes.byte, bitsByte, byteOf, List.foldr]
  exact congrArg (BitVec.ofNat 8) (by omega)

theorem testId_eq (n : Node) : n.testId = (n.seq.order.map (·.testId)).getD 0 := by
  unfold Node.testId
  cases n.seq.order <;> rfl

/-- The last two bytes of a STATE payload: the halt record while it stands. -/
def standingBytes (n : Node) : List Byte :=
  match n.hlt.record with
  | some r => if r.standing then [r.cause.code, BitVec.ofNat 8 r.originator.val] else [0, 0]
  | none => [0, 0]

theorem statePayload_eq (n : Node) : n.statePayload = [(n.seq.test.map TestState.code).getD 0] ++
    be16 ((n.seq.order.map (·.testId)).getD 0) ++ [BitVec.ofNat 8 n.seq.cursor.val] ++
    (if n.roles.drive then [n.cmu.requested.code, n.cmu.established.code, lockCode n.cmu.lock]
      else [0, 0, 0]) ++ [if n.roles.ext then n.exh.st.code else 0] ++ standingBytes n := by
  have halt : standingBytes n = match n.standing with
      | some r => [r.cause.code, byteOf r.originator.val]
      | none => [0, 0] := by
    unfold standingBytes Node.standing
    cases n.hlt.record with
    | none => rfl
    | some r => cases h : r.standing <;> simp [h, byteOf]
  rw [halt, ← testId_eq]
  rfl

/-- Settles O32: each part of the coding by its lemma; the code tables are read off the definitions. -/
theorem checkValueAndFrameRoundTrip : Obligations.CheckValueAndFrameRoundTrip := by
  refine ⟨⟨rfl, fun bs x => ?_⟩, checkBytes_eq, fun h p => ⟨rfl, judge_frameChars⟩,
    fun chars h p => check_of_valid, fun b => beq_iff_eq, fun h => rfl, ⟨rfl, msgKind_ofCode_iff⟩,
    ⟨fun w => rfl, fun x => rfl, fun x => u32_of_fit, fun x => i32_of_fit,
      fun p i => ⟨rfl, rfl, nat32At_eq p i, int32At_eq p i⟩⟩,
    ⟨fun ch f aux time value => rfl, sampleFlags_bytes, fun hi lo => rfl⟩, statePayload_eq,
    ⟨rfl, rfl, rfl, rfl, rfl, rfl, rfl, rfl, rfl, rfl, rfl, rfl, summary_byte, causes_byte⟩,
    fun k target p slot now => ⟨rfl, rfl, refill_eq slot _ now⟩⟩
  rw [checkValue_append, crcByte_eq]
  simp only [List.foldl, crcBit_eq]

end Sys2Proof.Proofs
end

section
/-! PROOFS. A closed control mode: its request by the direct path, by the entry step or fallen back, its entry, and the
first lock (R78, R99, R102 to R104, R107, R110, R112, R127). -/
namespace Sys2Proof.Proofs
open Sys2Proof Sys2Proof.Machine Sys2Proof.Laws

/-! ### The notice of a change (R98) -/

/-- What a STATE notice tells of the control mode unit. -/
def modes (c : Cmu) : Mode × Mode × Option LockState := (c.requested, c.established, c.lock)

/-- From `n` to `m` the control mode unit has told every change of a mode or of the lock in the STATE slot, and touched
nothing else of the bus. -/
structure ModesTold (n m : Node) : Prop where
  notices : Notices n m
  told : modes m.cmu ≠ modes n.cmu → n.notified m
  bus : m.fbc = { n.fbc with stateSlot := m.fbc.stateSlot }

theorem ModesTold.trans {n m k : Node} (h : ModesTold n m) (g : ModesTold m k) : ModesTold n k where
  notices := h.notices.trans g.notices
  told changed := by
    by_cases same : modes m.cmu = modes n.cmu
    · exact h.notices.notified_before (g.told (same ▸ changed))
    · exact g.notices.keeps_notified h.notices.clk (h.told same)
  bus := by
    rw [g.bus, h.bus]

/-- An operation that leaves the modes, the lock and the bus has nothing to tell. -/
theorem modesTold_of_same {n m : Node} (h : Notices n m) (hc : modes m.cmu = modes n.cmu) (hf : m.fbc = n.fbc) :
    ModesTold n m := ⟨h, fun changed => absurd hc changed, by rw [hf]⟩

@[simp] theorem putCmu_cmu (n : Node) (c : Cmu) : (n.putCmu c).cmu = c := by
  simp only [Node.putCmu]
  split <;> simp

theorem putCmu_told (n : Node) (c : Cmu) : ModesTold n (n.putCmu c) := by
  refine ⟨putCmu_notices n n c (.refl n), fun changed => ?_, ?_⟩
  · rw [putCmu_cmu] at changed
    have differs : ¬(n.cmu.requested = c.requested ∧ n.cmu.established = c.established ∧ n.cmu.lock = c.lock) := by
      rintro ⟨h1, h2, h3⟩
      exact changed (by simp only [modes, h1, h2, h3])
    simp only [Node.putCmu]
    rw [if_neg differs]
    exact notice_notified (n.setCmu c)
  · simp only [Node.putCmu, notice_eq]
    repeat' split
    all_goals rfl

theorem setCmu_told (n : Node) {c : Cmu} (h : modes c = modes n.cmu) : ModesTold n (n.setCmu c) :=
  modesTold_of_same (by simp) h rfl

theorem setWanted_told (n : Node) (v : Int) : ModesTold n (n.setWanted v) :=
  modesTold_of_same (by simp) (by simp) (by simp)

theorem reportSeg_told (n : Node) (f : Segment → Segment) : ModesTold n (n.reportSeg f) :=
  modesTold_of_same (by simp) (by simp) (by simp)

theorem enterClosed_told (n : Node) (m : Mode) : ModesTold n (n.enterClosed m) := putCmu_told n _

theorem entryStepTo_told (n : Node) (m : Mode) : ModesTold n (n.entryStepTo m) :=
  (setWanted_told n _).trans (putCmu_told _ _)

theorem requestCrosshead_told (n : Node) (v : Int) : ModesTold n (n.requestCrosshead v) :=
  (setWanted_told n v).trans (putCmu_told _ _)

theorem fallBack_told (n : Node) (v : Int) : ModesTold n (n.fallBack v) :=
  let fallen : Cmu := { (n.requestCrosshead v).cmu with fallback := true, fallbackVel := some v }
  (requestCrosshead_told n v).trans
    ((setCmu_told (n.requestCrosshead v) (c := fallen) rfl).trans (reportSeg_told _ _))

theorem requestClosed_told (n : Node) (f : SegFields) (advance : Bool) :
    ModesTold n (n.requestClosed f advance) := by
  have parameters : ModesTold n (n.setCmu (n.cmu.withClosed f)) := setCmu_told n rfl
  simp only [Node.requestClosed]
  split
  · exact parameters.trans (fallBack_told _ _)
  · split
    · exact (parameters.trans (putCmu_told _ _)).trans (enterClosed_told _ _)
    · exact parameters.trans (entryStepTo_told _ _)

/-! ### The drive and the open segment (R27, R129) -/

theorem setWanted_tsg (n : Node) (v : Int) :
    (n.setWanted v).tsg = { n.tsg with wanted := if n.testInProgress then v else n.tsg.wanted } := by
  unfold Node.setWanted
  split <;> rfl

theorem reportSeg_of_open {n : Node} {e : Segment} (f : Segment → Segment) (h : n.seq.openEntry = some e) :
    (n.reportSeg f).seq = n.seq.setEntry n.seq.cursor (f e) := by
  simp only [Node.reportSeg, h, setSeq_fields]

theorem reportSeg_of_none {n : Node} (f : Segment → Segment) (h : n.seq.openEntry = none) :
    (n.reportSeg f).seq = n.seq := by
  simp only [Node.reportSeg, h]

/-! ### The controlling source (R104) -/

theorem staleUse_iff (n : Node) (u : SubUse) :
    n.staleUse u = true ↔ ∃ i, n.subOfUse u = some i ∧ (n.sub i).stale = true := by
  unfold Node.staleUse
  cases n.subOfUse u <;> simp

theorem newestUnfit_iff (h : List HistEntry) : newestUnfit h = true ↔
    ∃ e, h.getLast? = some e ∧ (e.flags.derived = true ∨ e.flags.fault = true) := by
  unfold newestUnfit newest?
  cases h.getLast? <;> simp

theorem sourceUnfit_loadRate_iff (n : Node) : n.sourceUnfit .loadRate = true ↔
    n.roles.load = false ∧ n.staleUse .loadSource = true := by
  simp [Node.sourceUnfit]

/-- The own strain history of an EXT node is unfit by its newest entry alone; another's needs its source too. -/
theorem sourceUnfit_strainRate_iff (n : Node) : n.sourceUnfit .strainRate = true ↔
    n.roles.ext = false ∧ (n.subOfUse .strainSource = none ∨ n.staleUse .strainSource = true) ∨
      newestUnfit n.strainHist = true := by
  unfold Node.sourceUnfit
  cases hx : n.roles.ext <;> simp [Node.hasStrainSource, hx]

/-! ### The path of a request (R102) -/

theorem mul_pos_iff_signOf (w v : Int) : 0 < w * v ↔ w ≠ 0 ∧ signOf w = signOf v := by
  have positive (hw : 0 < w) : 0 < w * v ↔ 0 < v := by
    rw [← Int.mul_lt_mul_left (b := 0) (c := v) hw, Int.mul_zero]
  have negative (hw : w < 0) : 0 < w * v ↔ v < 0 := by
    rw [← Int.mul_lt_mul_left_of_neg (b := 0) (c := v) hw, Int.mul_zero]
  unfold signOf
  rcases Int.lt_trichotomy 0 w with hw | rfl | hw
  · rw [positive hw, if_pos hw]
    split <;> omega
  · simp only [Int.zero_mul]
    omega
  · rw [negative hw, if_neg (by omega), if_pos hw]
    repeat' split
    all_goals omega

theorem directPath_iff (n : Node) (advance : Bool) (v : Int) : n.directPath advance (signOf v) = true ↔
    advance = true ∧ n.cmu.established ≠ .hold ∧ 0 < n.tsg.wanted * v := by
  simp [Node.directPath, mul_pos_iff_signOf, and_assoc]

/-- The node that has taken the parameters of a closed mode. -/
def parametered (n : Node) (f : SegFields) : Node := n.setCmu (n.cmu.withClosed f)

theorem requestSegment_of_closed {f : SegFields} (n : Node) (advance : Bool) (h : f.mode.closed = true) :
    n.requestSegment f advance = n.requestClosed f advance := by
  unfold Node.requestSegment
  cases hm : f.mode <;> simp [hm, Mode.closed] at h ⊢

theorem requestClosed_of_unfit {n : Node} {f : SegFields} (advance : Bool) (h : n.sourceUnfit f.mode = true) :
    n.requestClosed f advance = (parametered n f).fallBack
      (if n.directPath advance (signOf f.entryVel) then n.tsg.wanted else f.entryVel) := by
  have same : (parametered n f).sourceUnfit f.mode = true := h
  exact if_pos same

theorem requestClosed_of_direct {n : Node} {f : SegFields} {advance : Bool} (h : n.sourceUnfit f.mode = false)
    (hd : n.directPath advance (signOf f.entryVel) = true) : n.requestClosed f advance =
      ((parametered n f).putCmu ((parametered n f).cmu.replaced f.mode)).enterClosed f.mode := by
  have same : ¬(parametered n f).sourceUnfit f.mode = true := (Bool.not_eq_true _).mpr h
  exact (if_neg same).trans (if_pos hd)

theorem requestClosed_of_entryStep {n : Node} {f : SegFields} {advance : Bool}
    (h : n.sourceUnfit f.mode = false) (hd : ¬n.directPath advance (signOf f.entryVel) = true) :
    n.requestClosed f advance = (parametered n f).entryStepTo f.mode := by
  have same : ¬(parametered n f).sourceUnfit f.mode = true := (Bool.not_eq_true _).mpr h
  exact (if_neg same).trans (if_neg hd)

/-! ### Fallback, entry step and entry (R102, R103, R107, R112) -/

theorem fallBack_cmu (n : Node) (v : Int) : (n.fallBack v).cmu = { n.cmu.replaced .crossheadRate with
    reqVel := v, fallback := true, fallbackVel := some v } := by
  simp [Node.fallBack, Node.requestCrosshead]

theorem fallBack_tsg (n : Node) (v : Int) :
    (n.fallBack v).tsg = { n.tsg with wanted := if n.testInProgress then v else n.tsg.wanted } := by
  simp [Node.fallBack, Node.requestCrosshead, setWanted_tsg]

theorem fallBack_seq (n : Node) (v : Int) : (n.fallBack v).seq =
    (n.reportFlag fun s => { s with fallback := true }).seq := by
  simp only [Node.fallBack, Node.reportFlag, Node.reportSeg]
  simp only [Node.requestCrosshead, setCmu_fields, putCmu_frame, setWanted_frame]
  split <;> simp

theorem entryStepTo_cmu (n : Node) (m : Mode) :
    (n.entryStepTo m).cmu = { n.cmu.replaced m with entryStep := true } := by
  simp [Node.entryStepTo]

theorem entryStepTo_tsg (n : Node) (m : Mode) : (n.entryStepTo m).tsg =
    { n.tsg with wanted := if n.testInProgress then n.cmu.entryVel else n.tsg.wanted } := by
  simp [Node.entryStepTo, setWanted_tsg]

theorem entryStepTo_seq (n : Node) (m : Mode) : (n.entryStepTo m).seq = n.seq := by
  simp [Node.entryStepTo]

/-- The control mode unit when a closed mode is entered with parameters put just before (R103, R107). -/
theorem putCmu_enterClosed_cmu (n : Node) (c : Cmu) (m : Mode) : ((n.putCmu c).enterClosed m).cmu = { c with
    established := m, entryStep := false, lock := some .acquiring, inBand := 0, outBand := 0
    lockAt := some (after n.now (n.img.control.lockTimeoutMs * 1000))
    forceTarget := if m = .loadRate then some (forceRate c.target n.orderArea) else c.forceTarget } := by
  have area : (n.putCmu c).orderArea = n.orderArea := by simp [Node.orderArea]
  simp [Node.enterClosed, area]

theorem orderArea_eq (n : Node) : n.orderArea = match n.seq.order.bind (·.part1) with
    | some p => p.area
    | none => 0 := by
  unfold Node.orderArea
  cases n.seq.order with
  | none => rfl
  | some o => rfl

theorem rampReport_of_closed {n : Node} (live : n.driveLive = true) (h : n.cmu.requested.closed = true) :
    n.rampReport = if n.cmu.entryStep = true ∧ n.tsg.commanded = n.cmu.entryVel then
      (n.putCmu { n.cmu with established := .crossheadRate }).enterClosed n.cmu.requested else n := by
  have entered : (n.cmu.entryStep && n.tsg.commanded == n.cmu.entryVel) = true ↔
      n.cmu.entryStep = true ∧ n.tsg.commanded = n.cmu.entryVel := by simp
  simp only [Node.rampReport, live, if_true, ← entered]
  cases hm : n.cmu.requested <;> simp [hm, Mode.closed] at h ⊢

/-! ### The first lock (R109, R110) -/

/-- The lock update cancels the timer at the change to LOCKED, and leaves it otherwise. -/
theorem updateLock_lockAt (c : Cmu) (rm band : Int) (count : Nat) : (c.updateLock rm band count).lockAt =
    if c.lock = some .acquiring ∧ (c.updateLock rm band count).lock = some .locked then none else c.lockAt := by
  unfold Cmu.updateLock
  match hl : c.lock with
  | none => simp
  | some .acquiring =>
    by_cases hb : withinBand rm c.rate band = true <;> by_cases hc : c.inBand + 1 = count <;> simp [hb, hc]
  | some .locked =>
    by_cases hb : outsideTwice rm c.rate band = true <;> by_cases hc : c.outBand + 1 = count <;> simp [hb, hc]

theorem updateLock_lockedInSeg (c : Cmu) (rm band : Int) (count : Nat) :
    (c.updateLock rm band count).lockedInSeg = c.lockedInSeg := by
  unfold Cmu.updateLock
  repeat' split
  all_goals rfl

/-- A change to LOCKED is marked in the segment. -/
theorem handLock_cmu (n : Node) (before : Option LockState) : (n.handLock before).cmu = { n.cmu with
    lockedInSeg := n.cmu.lockedInSeg || decide (before = some .acquiring ∧ n.cmu.lock = some .locked) } := by
  unfold Node.handLock
  split
  · rename_i first
    simp [first]
  · rename_i other
    have stands : (n.cmu.lockedInSeg || decide (before = some .acquiring ∧ n.cmu.lock = some .locked)) =
        n.cmu.lockedInSeg := by
      cases h : n.cmu.lockedInSeg
      · simpa [h] using other
      · rfl
    rw [stands]

/-- The first change to LOCKED in a segment hands the lock time. -/
theorem handLock_seq (n : Node) (before : Option LockState) : (n.handLock before).seq =
    if before = some .acquiring ∧ n.cmu.lock = some .locked ∧ n.cmu.lockedInSeg = false
    then (n.reportLock n.now).seq else n.seq := by
  unfold Node.handLock
  split
  · simp only [Node.reportLock, Node.reportSeg, setCmu_fields]
    split <;> rfl
  · rfl

/-- The control mode unit when an estimate has updated the lock. -/
def estimated (n : Node) (rm : Int) : Cmu :=
  { n.cmu.updateLock rm n.img.control.lockBand n.img.control.lockCount with rm := some rm }

theorem applyEstimate_cmu (n : Node) (m : Mode) (rm : Int) : (n.applyEstimate m rm).cmu = { estimated n rm with
    lockedInSeg := n.cmu.lockedInSeg ||
      decide (n.cmu.lock = some .acquiring ∧ (estimated n rm).lock = some .locked) } := by
  have handed : (n.applyEstimate m rm).cmu = ((n.putCmu (estimated n rm)).handLock n.cmu.lock).cmu := by
    simp only [Node.applyEstimate, setWanted_frame]
    rfl
  rw [handed, handLock_cmu, putCmu_cmu]
  simp only [estimated, updateLock_lockedInSeg]

theorem applyEstimate_seq (n : Node) (m : Mode) (rm : Int) : (n.applyEstimate m rm).seq =
    if n.cmu.lock = some .acquiring ∧ (estimated n rm).lock = some .locked ∧ n.cmu.lockedInSeg = false
    then (n.reportLock n.now).seq else n.seq := by
  have handed : (n.applyEstimate m rm).seq = ((n.putCmu (estimated n rm)).handLock n.cmu.lock).seq := by
    simp only [Node.applyEstimate, setWanted_frame]
    rfl
  have marked : (estimated n rm).lockedInSeg = n.cmu.lockedInSeg := updateLock_lockedInSeg _ _ _ _
  rw [handed, handLock_seq, putCmu_cmu, marked]
  have lockTime : ((n.putCmu (estimated n rm)).reportLock n.now).seq = (n.reportLock n.now).seq := by
    simp only [Node.reportLock, Node.reportSeg, putCmu_frame]
    split
    · simp only [setSeq_fields]
    · simp only [putCmu_frame]
  simp only [putCmu_frame, now_eq] at lockTime ⊢
  rw [lockTime]

/-- Settles O39: the unfit source, the opening, the paths of a request, the ramp report and the first lock. -/
theorem closedModeRequestedEnteredAndLocked : Obligations.ClosedModeRequestedEnteredAndLocked := by
  refine ⟨fun n => ?_, fun n f advance pause => rfl, fun n f advance closed => ?_, fun n live closed => ?_,
    fun n mode rm => ?_⟩
  · intro stale
    have isStale (u : SubUse) : stale u ↔ n.staleUse u = true := (staleUse_iff n u).symm
    rw [isStale, isStale, ← newestUnfit_iff]
    exact ⟨sourceUnfit_loadRate_iff n, sourceUnfit_strainRate_iff n⟩
  · intro m area base wants direct entered fallsBack
    have hm : m = n.requestClosed f advance := requestSegment_of_closed n advance closed
    have told : ModesTold n m := hm ▸ requestClosed_told n f advance
    have kept : m = { n with
        tsg := m.tsg, cmu := m.cmu, seq := m.seq, fbc := { n.fbc with stateSlot := m.fbc.stateSlot } } := by
      rw [← told.bus]
      apply node_ext <;> simp [m]
    have area_eq : n.orderArea = area := orderArea_eq n
    have onDirect : direct ↔ n.directPath advance (signOf f.entryVel) = true :=
      (directPath_iff n advance f.entryVel).symm
    clear_value m area
    have falls {v : Int} (h : m = (parametered n f).fallBack v) : fallsBack v := by
      subst h
      refine ⟨fallBack_tsg _ v, fallBack_cmu _ v, fun e he => ?_, fun he => ?_⟩
      · exact (fallBack_seq _ v).trans (reportSeg_of_open (n := parametered n f) _ he)
      · exact (fallBack_seq _ v).trans (reportSeg_of_none (n := parametered n f) _ he)
    refine ⟨kept, told.told, fun fit hd => ?_, fun fit hd => ?_, fun unfit hd => ?_, fun unfit hd => ?_⟩
    · rw [hm, requestClosed_of_direct fit (onDirect.mp hd)]
      refine ⟨by simp [parametered], by simp [parametered], ?_⟩
      subst area_eq
      exact putCmu_enterClosed_cmu _ _ _
    · rw [hm, requestClosed_of_entryStep fit (mt onDirect.mpr hd)]
      exact ⟨entryStepTo_tsg _ _, entryStepTo_seq _ _, entryStepTo_cmu _ _⟩
    · exact falls (hm.trans ((requestClosed_of_unfit advance unfit).trans (by rw [if_pos (onDirect.mp hd)])))
    · exact falls (hm.trans ((requestClosed_of_unfit advance unfit).trans (by rw [if_neg (mt onDirect.mpr hd)])))
  · intro m area
    have hm : m = _ := rampReport_of_closed live closed
    have area_eq : n.orderArea = area := orderArea_eq n
    clear_value m area
    refine ⟨fun h => hm.trans (if_neg ?_), fun step reached => ?_⟩
    · rintro ⟨step, reached⟩
      exact h.elim (fun h => by simp [step] at h) (fun h => h reached)
    · rw [if_pos ⟨step, reached⟩] at hm
      have told : ModesTold n m := hm ▸ (putCmu_told _ _).trans (enterClosed_told _ _)
      have cmu : m.cmu = _ := hm ▸ putCmu_enterClosed_cmu _ _ _
      refine ⟨?_, fun changed => told.told fun same => changed (congrArg Prod.snd same), ?_⟩
      · rw [← told.bus]
        apply node_ext <;> simp [hm]
      · subst area_eq
        exact cmu
  · intro m entered locks
    have cmu : m.cmu = _ := applyEstimate_cmu n mode rm
    have seq : m.seq = _ := applyEstimate_seq n mode rm
    have lock : m.cmu.lock = (estimated n rm).lock := by rw [cmu]
    have lockAt : m.cmu.lockAt = if n.cmu.lock = some .acquiring ∧ (estimated n rm).lock = some .locked then none
        else n.cmu.lockAt := by
      rw [cmu]
      exact updateLock_lockAt _ _ _ _
    have inSeg : m.cmu.lockedInSeg = (n.cmu.lockedInSeg ||
        decide (n.cmu.lock = some .acquiring ∧ (estimated n rm).lock = some .locked)) := by rw [cmu]
    rw [← lock] at lockAt inSeg seq
    refine ⟨fun h => ⟨?_, ?_, fun none_ => ?_, fun e first he => ?_⟩, fun h => ⟨?_, ?_, ?_⟩⟩
    · exact lockAt.trans (if_pos h)
    · rw [inSeg, decide_eq_true h, Bool.or_true]
    · rw [seq]
      split
      · rename_i hand
        exact reportSeg_of_none _ (none_.resolve_left (by simp [hand]))
      · rfl
    · exact (seq.trans (if_pos ⟨h.1, h.2, first⟩)).trans (reportSeg_of_open _ he)
    · exact lockAt.trans (if_neg h)
    · rw [inSeg, decide_eq_false h, Bool.or_false]
    · exact seq.trans (if_neg fun ⟨h1, h2, _⟩ => h ⟨h1, h2⟩)

end Sys2Proof.Proofs
end

section
/-! PROOFS. The peer table: what replacing an entry, a subscription or every subscription of a peer leaves, the
notices of a peer, and its two timers (R85 to R87, R193, R194). -/
namespace Sys2Proof.Proofs
open Sys2Proof Sys2Proof.Machine Sys2Proof.Laws

/-! ### Entries and subscriptions -/

/-- The subscription `j` is configured, and its peer is this one (R88). -/
def subscribes (n : Node) (peer : Fin 16) (j : Fin 4) : Prop := ∃ c, n.subCfg j = some c ∧ c.peer = peer

theorem setSub_eq (n : Node) (i : Fin 4) (x : Sub) :
    n.setSub i x = { n with pta := { n.pta with subs := n.pta.subs.set i x } } := rfl

theorem peer_congr {n m : Node} (h : m.pta.peers = n.pta.peers) (i : Fin 16) : m.peer i = n.peer i := by
  simp only [Node.peer, h]

theorem sub_congr {n m : Node} (h : m.pta.subs = n.pta.subs) (i : Fin 4) : m.sub i = n.sub i := by
  simp only [Node.sub, h]

theorem subCfg_congr {n m : Node} (h : m.sul = n.sul) (i : Fin 4) : m.subCfg i = n.subCfg i := by
  simp only [Node.subCfg, Node.img, h]

@[simp] theorem peer_setPeer_same (n : Node) (i : Fin 16) (p : Peer) : (n.setPeer i p).peer i = p := by
  simp [Node.peer, Node.setPeer]

theorem peer_setPeer_of_ne (n : Node) {i j : Fin 16} (p : Peer) (h : j ≠ i) :
    (n.setPeer i p).peer j = n.peer j := by
  simp [Node.peer, Node.setPeer, Fin.val_inj, h.symm]

@[simp] theorem sub_setPeer (n : Node) (i : Fin 16) (p : Peer) (j : Fin 4) : (n.setPeer i p).sub j = n.sub j :=
  sub_congr rfl j

@[simp] theorem sub_setSub_same (n : Node) (i : Fin 4) (x : Sub) : (n.setSub i x).sub i = x := by
  simp [Node.sub, Node.setSub]

theorem sub_setSub_of_ne (n : Node) {i j : Fin 4} (x : Sub) (h : j ≠ i) : (n.setSub i x).sub j = n.sub j := by
  simp [Node.sub, Node.setSub, Fin.val_inj, h.symm]

@[simp] theorem peer_mapSubsOf (n : Node) (peer : Fin 16) (f : Sub → Sub) (i : Fin 16) :
    (n.mapSubsOf peer f).peer i = n.peer i :=
  peer_congr rfl i

/-- What becomes of one subscription where every subscription of a peer is changed. -/
theorem sub_mapSubsOf (n : Node) (peer : Fin 16) (f : Sub → Sub) (j : Fin 4) :
    (n.mapSubsOf peer f).sub j = match n.subCfg j with
      | some c => if c.peer = peer then f (n.sub j) else n.sub j
      | none => n.sub j := by
  match j with
  | 0 => rfl
  | 1 => rfl
  | 2 => rfl
  | 3 => rfl

theorem sub_mapSubsOf_of {n : Node} {peer : Fin 16} (f : Sub → Sub) {j : Fin 4} (h : subscribes n peer j) :
    (n.mapSubsOf peer f).sub j = f (n.sub j) := by
  obtain ⟨c, hc, hp⟩ := h
  simp only [sub_mapSubsOf, hc, hp, if_true]

theorem sub_mapSubsOf_of_not {n : Node} {peer : Fin 16} (f : Sub → Sub) {j : Fin 4} (h : ¬subscribes n peer j) :
    (n.mapSubsOf peer f).sub j = n.sub j := by
  rw [sub_mapSubsOf]
  cases hc : n.subCfg j with
  | none => rfl
  | some c => exact if_neg fun hp => h ⟨c, hc, hp⟩

theorem subscribes_congr {n m : Node} (h : m.sul = n.sul) (peer : Fin 16) (j : Fin 4) :
    subscribes m peer j ↔ subscribes n peer j := by
  simp only [subscribes, subCfg_congr h]

/-! A change of a peer's subscriptions that a mark decides. -/

theorem peer_mapSubsOf_if (c : Bool) (n : Node) (peer : Fin 16) (g : Sub → Sub) (i : Fin 16) :
    (if c then n.mapSubsOf peer g else n).peer i = n.peer i := by
  cases c <;> rfl

theorem sub_mapSubsOf_if_of {n : Node} {peer : Fin 16} {j : Fin 4} (c : Bool) (g : Sub → Sub)
    (h : subscribes n peer j) :
    (if c then n.mapSubsOf peer g else n).sub j = if c then g (n.sub j) else n.sub j := by
  cases c with
  | false => rfl
  | true => exact sub_mapSubsOf_of g h

theorem sub_mapSubsOf_if_of_not {n : Node} {peer : Fin 16} {j : Fin 4} (c : Bool) (g : Sub → Sub)
    (h : ¬subscribes n peer j) : (if c then n.mapSubsOf peer g else n).sub j = n.sub j := by
  cases c with
  | false => rfl
  | true => exact sub_mapSubsOf_of_not g h

/-! ### PRESENCE, STATE and the timers of a peer (R85 to R87, R193, R194) -/

theorem takePresence_of_length {n : Node} {f : RxFrame} (h : f.payload.length = 5) : n.takePresence f =
    n.setPeer f.header.sender { n.peer f.header.sender with presence := some (presenceOf f.payload) } := if_pos h

theorem takePresence_of_wrong_length {n : Node} {f : RxFrame} (h : f.payload.length ≠ 5) : n.takePresence f = n :=
  if_neg h

theorem takeState_of_length {n : Node} {f : RxFrame} (h : f.payload.length = 10) : n.takeState f =
    n.setPeer f.header.sender { n.peer f.header.sender with view := some (stateViewOf f.payload) } := if_pos h

theorem takeState_of_wrong_length {n : Node} {f : RxFrame} (h : f.payload.length ≠ 10) : n.takeState f = n :=
  if_neg h

theorem reseedTimer_of_due {n : Node} {i : Fin 16} (h : due n.now (n.peer i).reseedAt = true) :
    n.reseedTimer i = n.setPeer i { n.peer i with reseedStamp := none, reseedAt := none } := if_pos h

/-- The entry of a peer that has been silent for 2³⁰ µs (R87). -/
def silentPeer (p : Peer) : Peer := { p with longSilent := true, offsetValid := false, silenceAt := none }

theorem silenceTimer_of_due {n : Node} {i : Fin 16} (h : due n.now (n.peer i).silenceAt = true) :
    n.silenceTimer i = (n.setPeer i (silentPeer (n.peer i))).emptyHistsOf i := if_pos h

/-- Settles O35: each notice by its length, and each timer's entry; the silence timer empties its peer's
histories too. -/
theorem peerNoticesAndTimers : Obligations.PeerNoticesAndTimers := by
  intro n q f i p put
  refine ⟨fun hd => ⟨fun hl => ?_, fun hl => ?_⟩, fun hd => ⟨fun hl => ?_, fun hl => ?_⟩, fun h => ?_, fun h => ?_⟩
  · rw [exec_of_delivers q rfl hd, takePresence_of_length hl]
    rfl
  · rw [exec_of_delivers q rfl hd, takePresence_of_wrong_length hl]
  · rw [exec_of_delivers q rfl hd, takeState_of_length hl]
    rfl
  · rw [exec_of_delivers q rfl hd, takeState_of_wrong_length hl]
  · exact congrArg (State.ran ⟨n, q⟩) (reseedTimer_of_due h)
  · refine ⟨_, congrArg (State.ran ⟨n, q⟩) (silenceTimer_of_due h), rfl, rfl, fun j => ?_⟩
    exact sub_mapSubsOf _ i Sub.emptied j

end Sys2Proof.Proofs
end

section
/-! PROOFS. The header facts: the offset of a peer, the receive sequence of a class, and what they make of the sender's
entry and of the subscriptions to it (R82 to R85). -/
namespace Sys2Proof.Proofs
open Sys2Proof Sys2Proof.Machine Sys2Proof.Laws

/-! ### The offset of a peer (R84, R85) -/

theorem judgeOffset_of_invalid {p : Peer} (o : Time) (h : p.offsetValid = false) : p.judgeOffset o = .seeded o := by
  unfold Peer.judgeOffset
  split
  · rfl
  · simp [h]

/-- A valid offset is judged by the distance, and an outlier by the count before it. -/
theorem judgeOffset_of_valid {p : Peer} {e : Time} (o : Time) (hv : p.offsetValid = true) (he : p.offset = some e) :
    p.judgeOffset o =
      if (tdiff o e).natAbs ≤ 500 then .inlier (e + BitVec.ofInt 32 (roundDiv (tdiff o e) 16))
      else if p.outliers = 3 then .reseeded o else .outlier := by
  simp [Peer.judgeOffset, hv, he]

theorem judgeOffset_of_inlier {p : Peer} {o e : Time} (hv : p.offsetValid = true) (he : p.offset = some e)
    (near : (tdiff o e).natAbs ≤ 500) :
    p.judgeOffset o = .inlier (e + BitVec.ofInt 32 (roundDiv (tdiff o e) 16)) := by
  rw [judgeOffset_of_valid o hv he, if_pos near]

theorem judgeOffset_of_outlier {p : Peer} {o e : Time} (hv : p.offsetValid = true) (he : p.offset = some e)
    (far : 500 < (tdiff o e).natAbs) (hk : p.outliers ≠ 3) : p.judgeOffset o = .outlier := by
  rw [judgeOffset_of_valid o hv he, if_neg (Nat.not_le.mpr far), if_neg hk]

theorem judgeOffset_of_fourth {p : Peer} {o e : Time} (hv : p.offsetValid = true) (he : p.offset = some e)
    (far : 500 < (tdiff o e).natAbs) (hk : p.outliers = 3) : p.judgeOffset o = .reseeded o := by
  rw [judgeOffset_of_valid o hv he, if_neg (Nat.not_le.mpr far), if_pos hk]

/-- The one step that empties histories is that of a fourth outlier (R85). -/
theorem isReseed_iff (p : Peer) (o : Time) : (p.judgeOffset o).isReseed = true ↔
    p.offsetValid = true ∧ p.outliers = 3 ∧ ∃ e, p.offset = some e ∧ 500 < (tdiff o e).natAbs := by
  constructor
  · intro h
    cases hv : p.offsetValid with
    | false => simp [judgeOffset_of_invalid o hv, OffsetStep.isReseed] at h
    | true =>
      cases he : p.offset with
      | none => simp [Peer.judgeOffset, he, OffsetStep.isReseed] at h
      | some e =>
        rw [judgeOffset_of_valid o hv he] at h
        split at h
        · cases h
        · rename_i far
          split at h
          · exact ⟨rfl, ‹_›, e, rfl, Nat.lt_of_not_le far⟩
          · cases h
  · rintro ⟨hv, hk, e, he, far⟩
    rw [judgeOffset_of_fourth hv he far hk]
    rfl

/-- The offset's part of the header facts touches nothing else of the entry. -/
@[simp] theorem withOffset_fields (p : Peer) (step : OffsetStep) (rx now : Time) :
    (p.withOffset step rx now).present = p.present ∧ (p.withOffset step rx now).lastFrame = p.lastFrame ∧
      (p.withOffset step rx now).longSilent = p.longSilent ∧
      (p.withOffset step rx now).silenceAt = p.silenceAt ∧ (p.withOffset step rx now).presence = p.presence ∧
      (p.withOffset step rx now).view = p.view ∧ (p.withOffset step rx now).rxSeq = p.rxSeq ∧
      (p.withOffset step rx now).missed = p.missed := by
  cases step <;> exact ⟨rfl, rfl, rfl, rfl, rfl, rfl, rfl, rfl⟩

/-! ### The receive sequence of a class (R83) -/

@[simp] theorem get_set_same {α : Type} (x : PerClass α) (c : FrameClass) (v : α) : (x.set c v).get c = v := by
  cases c <;> rfl

theorem get_set_of_ne {α : Type} (x : PerClass α) {c d : FrameClass} (v : α) (h : d ≠ c) :
    (x.set c v).get d = x.get d := by
  revert h
  cases c <;> cases d <;> simp [PerClass.get, PerClass.set]

/-- How far a sequence steps, modulo 256. -/
def seqStep (r s : Byte) : Nat := (s - r).toNat

/-- The table of R83, by the step: a repeat or a late frame keeps the receive sequence, and a skip of at most 127
counts what is missed. -/
theorem judgeSeq_some (r s : Byte) : judgeSeq (some r) s =
    (if seqStep r s = 0 ∨ 248 ≤ seqStep r s then r else s,
      if 2 ≤ seqStep r s ∧ seqStep r s ≤ 127 then seqStep r s - 1 else 0,
      decide (2 ≤ seqStep r s ∧ seqStep r s ≤ 127)) := by
  simp only [judgeSeq]
  rw [show (s - r).toNat = seqStep r s from rfl]
  generalize seqStep r s = d
  rcases (by omega : d = 0 ∨ d = 1 ∨ 2 ≤ d ∧ d ≤ 127 ∨ 128 ≤ d ∧ d ≤ 247 ∨ 248 ≤ d) with
    rfl | rfl | zone | zone | zone
  · rfl
  · rfl
  all_goals grind

theorem withSeq_rxSeq (p : Peer) (c : FrameClass) (s : Byte) :
    (p.withSeq c s).rxSeq.get c = some (judgeSeq (p.rxSeq.get c) s).1 :=
  get_set_same _ c _

theorem withSeq_missed (p : Peer) (c : FrameClass) (s : Byte) :
    (p.withSeq c s).missed.get c = min (p.missed.get c + (judgeSeq (p.rxSeq.get c) s).2.1) 65535 :=
  get_set_same _ c _

/-- A class whose sequence the frame does not carry stands. -/
theorem withSeqOf_of_other (p : Peer) {o : Option FrameClass} {c : FrameClass} (s : Byte) (h : o ≠ some c) :
    (p.withSeqOf o s).rxSeq.get c = p.rxSeq.get c ∧ (p.withSeqOf o s).missed.get c = p.missed.get c := by
  cases o with
  | none => exact ⟨rfl, rfl⟩
  | some d =>
    have other : c ≠ d := fun e => h (e ▸ rfl)
    exact ⟨get_set_of_ne _ _ other, get_set_of_ne _ _ other⟩

/-- The sequence's part of the header facts touches nothing else of the entry. -/
@[simp] theorem withSeqOf_fields (p : Peer) (o : Option FrameClass) (s : Byte) :
    (p.withSeqOf o s).present = p.present ∧ (p.withSeqOf o s).lastFrame = p.lastFrame ∧
      (p.withSeqOf o s).longSilent = p.longSilent ∧ (p.withSeqOf o s).silenceAt = p.silenceAt ∧
      (p.withSeqOf o s).presence = p.presence ∧ (p.withSeqOf o s).view = p.view ∧
      (p.withSeqOf o s).offset = p.offset ∧ (p.withSeqOf o s).offsetValid = p.offsetValid ∧
      (p.withSeqOf o s).outliers = p.outliers ∧ (p.withSeqOf o s).reseedStamp = p.reseedStamp ∧
      (p.withSeqOf o s).reseedAt = p.reseedAt := by
  cases o <;> exact ⟨rfl, rfl, rfl, rfl, rfl, rfl, rfl, rfl, rfl, rfl, rfl⟩

/-! ### The header facts, whole (R82) -/

/-- What the sample offset of the header facts does to their sender's estimate. -/
def factsStep (n : Node) (f : HeaderFacts) : OffsetStep := (n.peer f.sender).judgeOffset (f.rxStamp - f.txStamp)

/-- The sender's entry when the header facts are taken. -/
def factsPeer (n : Node) (f : HeaderFacts) : Peer :=
  (((n.peer f.sender).heard f.rxStamp n.now).withOffset (factsStep n f) f.rxStamp n.now).withSeqOf
    (classOfCode f.cls) f.seq

/-- A subscription to the sender when the header facts are taken. -/
def factsSub (n : Node) (f : HeaderFacts) (x : Sub) : Sub := { x with
  hist := if (factsStep n f).isReseed then [] else x.hist
  gap := x.gap || (n.peer f.sender).skips (classOfCode f.cls) f.seq }

/-- The node whose sender's entry has taken the header facts, with the histories emptied at a re-seed. -/
def factsEntered (n : Node) (f : HeaderFacts) : Node :=
  if (factsStep n f).isReseed then (n.setPeer f.sender (factsPeer n f)).mapSubsOf f.sender Sub.emptied
  else n.setPeer f.sender (factsPeer n f)

/-- The header facts are the sender's entry, and then the gap flags where the sequence skips. -/
theorem takeFacts_eq (n : Node) (f : HeaderFacts) : n.takeFacts f =
    if (n.peer f.sender).skips (classOfCode f.cls) f.seq then
      (factsEntered n f).mapSubsOf f.sender fun x => { x with gap := true }
    else factsEntered n f := rfl

theorem factsEntered_sul (n : Node) (f : HeaderFacts) : (factsEntered n f).sul = n.sul := by
  unfold factsEntered
  split <;> rfl

theorem takeFacts_peer (n : Node) (f : HeaderFacts) : (n.takeFacts f).peer f.sender = factsPeer n f := by
  rw [takeFacts_eq, peer_mapSubsOf_if, factsEntered, peer_mapSubsOf_if, peer_setPeer_same]

theorem takeFacts_peer_of_ne (n : Node) {f : HeaderFacts} {i : Fin 16} (h : i ≠ f.sender) :
    (n.takeFacts f).peer i = n.peer i := by
  rw [takeFacts_eq, peer_mapSubsOf_if, factsEntered, peer_mapSubsOf_if, peer_setPeer_of_ne _ _ h]

theorem takeFacts_sub_of {n : Node} {f : HeaderFacts} {j : Fin 4} (h : subscribes n f.sender j) :
    (n.takeFacts f).sub j = factsSub n f (n.sub j) := by
  have h' : subscribes (factsEntered n f) f.sender j := (subscribes_congr (factsEntered_sul n f) _ _).mpr h
  have entered : (factsEntered n f).sub j =
      if (factsStep n f).isReseed then Sub.emptied (n.sub j) else n.sub j :=
    sub_mapSubsOf_if_of (n := n.setPeer f.sender (factsPeer n f)) _ _ h
  rw [takeFacts_eq, sub_mapSubsOf_if_of _ _ h', entered, factsSub]
  cases (factsStep n f).isReseed <;> cases (n.peer f.sender).skips (classOfCode f.cls) f.seq <;>
    simp only [Bool.or_false, Bool.or_true, Bool.false_eq_true, if_true, if_false, Sub.emptied]

theorem takeFacts_sub_of_not {n : Node} {f : HeaderFacts} {j : Fin 4} (h : ¬subscribes n f.sender j) :
    (n.takeFacts f).sub j = n.sub j := by
  have h' : ¬subscribes (factsEntered n f) f.sender j := fun h' =>
    h ((subscribes_congr (factsEntered_sul n f) _ _).mp h')
  have entered : (factsEntered n f).sub j = n.sub j :=
    sub_mapSubsOf_if_of_not (n := n.setPeer f.sender (factsPeer n f)) _ _ h
  rw [takeFacts_eq, sub_mapSubsOf_if_of_not _ _ h', entered]

theorem factsArrive_of_cons {n : Node} {f : HeaderFacts} {rest : List HeaderFacts}
    (h : n.fbc.facts = f :: rest) : n.factsArrive = (n.setFbc { n.fbc with facts := rest }).takeFacts f := by
  simp only [Node.factsArrive, h]

/-- The sender's entry by the case of its offset: seeded, an inlier, an outlier, or the fourth one (R84, R85). -/
theorem factsPeer_offset (n : Node) (f : HeaderFacts) :
    let p := n.peer f.sender
    let p' := factsPeer n f
    let o := f.rxStamp - f.txStamp
    (p.offsetValid = false → p'.offset = some o ∧ p'.offsetValid = true ∧ p'.outliers = 0 ∧
      p'.reseedStamp = p.reseedStamp ∧ p'.reseedAt = p.reseedAt) ∧
    (∀ e, p.offsetValid = true → p.offset = some e → (tdiff o e).natAbs ≤ 500 →
      p'.offset = some (e + BitVec.ofInt 32 (roundDiv (tdiff o e) 16)) ∧ p'.offsetValid = true ∧
        p'.outliers = 0 ∧ p'.reseedStamp = p.reseedStamp ∧ p'.reseedAt = p.reseedAt) ∧
    (∀ e, p.offsetValid = true → p.offset = some e → 500 < (tdiff o e).natAbs → p.outliers ≠ 3 →
      p'.offset = some e ∧ p'.offsetValid = true ∧ p'.outliers = p.outliers + 1 ∧
        p'.reseedStamp = p.reseedStamp ∧ p'.reseedAt = p.reseedAt) ∧
    (∀ e, p.offsetValid = true → p.offset = some e → 500 < (tdiff o e).natAbs → p.outliers = 3 →
      p'.offset = some o ∧ p'.offsetValid = true ∧ p'.outliers = 0 ∧
        p'.reseedStamp = some f.rxStamp ∧ p'.reseedAt = some (after n.now 1073741824)) := by
  simp only [factsPeer, factsStep, withSeqOf_fields]
  refine ⟨fun hv => ?_, fun e hv he near => ?_, fun e hv he far hk => ?_, fun e hv he far hk => ?_⟩
  · rw [judgeOffset_of_invalid _ hv]
    exact ⟨rfl, rfl, rfl, rfl, rfl⟩
  · rw [judgeOffset_of_inlier hv he near]
    exact ⟨rfl, hv, rfl, rfl, rfl⟩
  · rw [judgeOffset_of_outlier hv he far hk]
    exact ⟨he, hv, rfl, rfl, rfl⟩
  · rw [judgeOffset_of_fourth hv he far hk]
    exact ⟨rfl, hv, rfl, rfl, rfl⟩

/-- What the header facts report of the sender beside its offset and its sequences (R82). -/
theorem factsPeer_heard (n : Node) (f : HeaderFacts) :
    let p := n.peer f.sender
    let p' := factsPeer n f
    p'.present = true ∧ p'.lastFrame = some f.rxStamp ∧ p'.longSilent = false ∧
      p'.silenceAt = some (after n.now 1073741824) ∧ p'.presence = p.presence ∧ p'.view = p.view := by
  simp only [factsPeer, withSeqOf_fields, withOffset_fields]
  exact ⟨rfl, rfl, rfl, rfl, rfl, rfl⟩

/-- The sender's receive sequence and missed count by the class of the frame (R83). -/
theorem factsPeer_seqs (n : Node) (f : HeaderFacts) :
    let p := n.peer f.sender
    let p' := factsPeer n f
    (∀ c, classOfCode f.cls ≠ some c → p'.rxSeq.get c = p.rxSeq.get c ∧ p'.missed.get c = p.missed.get c) ∧
    ∀ c, classOfCode f.cls = some c →
      let j := judgeSeq (p.rxSeq.get c) f.seq
      p'.rxSeq.get c = some j.1 ∧ p'.missed.get c = min (p.missed.get c + j.2.1) 65535 := by
  refine ⟨fun c other => ?_, fun c h => ?_⟩
  · obtain ⟨rx, missed⟩ := withSeqOf_of_other
      (((n.peer f.sender).heard f.rxStamp n.now).withOffset (factsStep n f) f.rxStamp n.now) f.seq other
    simp only [factsPeer, rx, missed, withOffset_fields]
    exact ⟨rfl, rfl⟩
  · simp only [factsPeer, h, Peer.withSeqOf, withSeq_rxSeq, withSeq_missed, withOffset_fields]
    exact ⟨rfl, rfl⟩

/-- The gap flag of a subscription to the sender, by the class and the step of the sequence (R83). -/
theorem factsSub_gap {n : Node} {f : HeaderFacts} (x : Sub) {c : FrameClass} (hc : classOfCode f.cls = some c) :
    ((n.peer f.sender).rxSeq.get c = none → (factsSub n f x).gap = x.gap) ∧
    ∀ r, (n.peer f.sender).rxSeq.get c = some r → (factsSub n f x).gap =
      (x.gap || decide (c = .sample ∧ 2 ≤ seqStep r f.seq ∧ seqStep r f.seq ≤ 127)) := by
  simp only [factsSub, hc, Peer.skips]
  cases c with
  | urgent => simp
  | bulk => simp
  | sample =>
    refine ⟨fun h => ?_, fun r h => ?_⟩
    · simp [h, judgeSeq]
    · simp [h, judgeSeq_some]

/-- Settles O33: the sender's entry by the cases of its offset and of its sequences, and each subscription by whether
the sender is its peer. -/
theorem headerFactsTaken : Obligations.HeaderFactsTaken := by
  intro n q f rest hf p o toSender
  let k : Node := n.setFbc { n.fbc with facts := rest }
  have of_ {j : Fin 4} (h : toSender j) : (k.takeFacts f).sub j = factsSub k f (n.sub j) :=
    takeFacts_sub_of (n := k) h
  have not_ {j : Fin 4} (h : ¬toSender j) : (k.takeFacts f).sub j = n.sub j := takeFacts_sub_of_not (n := k) h
  refine ⟨k.takeFacts f, congrArg (State.ran ⟨n, q⟩) (factsArrive_of_cons hf), ?_, fun i hi => ?_, fun j => not_,
    fun j => ?_, fun keep j => ?_, fun hc j => ?_, ?_⟩
  · apply node_ext <;> simp [k]
  · exact takeFacts_peer_of_ne k hi
  · by_cases h : toSender j
    · rw [of_ h]
      rfl
    · rw [not_ h]
  · by_cases h : toSender j
    · rw [of_ h]
      exact if_neg fun reseeds => keep ((isReseed_iff p o).mp reseeds)
    · rw [not_ h]
  · by_cases h : toSender j
    · rw [of_ h]
      simp [factsSub, hc, Peer.skips]
    · rw [not_ h]
  · rw [takeFacts_peer]
    obtain ⟨present, last, long, silence, presence, view⟩ := factsPeer_heard k f
    obtain ⟨seeded, inlier, outlier, fourth⟩ := factsPeer_offset k f
    obtain ⟨other, seqs⟩ := factsPeer_seqs k f
    refine ⟨present, last, long, silence, presence, view, seeded, inlier, outlier, fun e hv he far hk => ?_, other,
      fun c hc => ⟨fun hr => ?_, fun r hr => ?_⟩⟩
    · obtain ⟨offset, valid, count, stamp, timer⟩ := fourth e hv he far hk
      refine ⟨offset, valid, count, stamp, timer, fun j h => ?_⟩
      rw [of_ h]
      exact if_pos ((isReseed_iff p o).mpr ⟨hv, hk, e, he, far⟩)
    · obtain ⟨rx, missed⟩ := seqs c hc
      have first : judgeSeq ((k.peer f.sender).rxSeq.get c) f.seq = (f.seq, 0, false) :=
        congrArg (judgeSeq · f.seq) hr
      rw [first] at rx missed
      refine ⟨rx, missed, fun j h => ?_⟩
      rw [of_ h]
      exact (factsSub_gap (n := k) _ hc).1 hr
    · obtain ⟨rx, missed⟩ := seqs c hc
      have step : judgeSeq ((k.peer f.sender).rxSeq.get c) f.seq = _ :=
        (congrArg (judgeSeq · f.seq) hr).trans (judgeSeq_some r f.seq)
      rw [step] at rx missed
      refine ⟨rx, missed, fun j h => ?_⟩
      rw [of_ h]
      exact (factsSub_gap (n := k) _ hc).2 r hr

end Sys2Proof.Proofs
end

section
/-! PROOFS. The arrival of a subscribed sample: its judging, its entry, and the consumers it reaches (R26, R52, R89,
R91, R128, R194). -/
namespace Sys2Proof.Proofs
open Sys2Proof Sys2Proof.Machine Sys2Proof.Laws

/-! ### The consumers of an entered sample (R26, R52, R89, R128) -/

theorem inService_of_testInProgress {n : Node} (h : n.testInProgress = true) : n.inService = true := by
  cases ht : n.seq.test with
  | none => simp [Node.testInProgress, ht] at h
  | some t => simp [Node.inService, ht]

/-- The two force maxima of a node without LOAD count a force of a test in progress that is not HELD (R52, R128). -/
theorem exhForce_seqForce {n : Node} (e : HistEntry) (hl : n.roles.load = false) :
    (n.exhForce e).seqForce e = { n with
      exh := if (n.testInProgress = true ∧ e.flags.held = false) ∧ n.roles.ext = true then
        { n.exh with forceMax := max n.exh.forceMax e.value } else n.exh
      seq := if n.testInProgress = true ∧ e.flags.held = false then
        { n.seq with forceMax := max n.seq.forceMax e.value } else n.seq } := by
  by_cases counts : n.testInProgress = true ∧ e.flags.held = false
  · obtain ⟨going, held⟩ := counts
    have raised (x : Exh) : (n.setExh x).seqForce e =
        (n.setExh x).setSeq { n.seq with forceMax := max n.seq.forceMax e.value } :=
      if_pos (show (!n.roles.load && n.testInProgress && !e.flags.held) = true by simp [hl, going, held])
    cases ext : n.roles.ext with
    | true =>
      simp only [Node.exhForce, Node.extLive, inService_of_testInProgress going, going, held, ext]
      exact raised _
    | false =>
      simp only [Node.exhForce, Node.extLive, inService_of_testInProgress going, going, held, ext]
      exact raised n.exh
  · have exh : n.exhForce e = n := if_neg fun h => counts (by simp_all)
    have seq : n.seqForce e = n := if_neg fun h => counts (by simp_all)
    rw [exh, seq]
    simp [counts]

theorem awaitedDatum_eq (n : Node) (i : Fin 4) (value : Int) : n.awaitedDatum i value = { n with
    datums := if n.datums.awaiting[i] then { n.datums with
      subs := n.datums.subs.set i (some value), awaiting := n.datums.awaiting.set i false } else n.datums } := by
  unfold Node.awaitedDatum
  split <;> rfl

/-- A force from a LOAD-SOURCE reaches its five consumers in a node without LOAD alone. -/
theorem consumeSub_of_loadSource {n : Node} {i : Fin 4} {c : SubCfg} (e : HistEntry) (hc : n.subCfg i = some c)
    (hu : c.use = .loadSource) : n.consumeSub i e = if n.roles.load then n else n.consumeForce e := by
  simp only [Node.consumeSub, hc, hu]

/-- A strain from a STRAIN-SOURCE reaches its three consumers in a node without EXT alone. -/
theorem consumeSub_of_strainSource {n : Node} {i : Fin 4} {c : SubCfg} (e : HistEntry) (hc : n.subCfg i = some c)
    (hu : c.use = .strainSource) : n.consumeSub i e = if n.roles.ext then n else n.consumeStrain e := by
  simp only [Node.consumeSub, hc, hu]

theorem consumeSub_of_travel {n : Node} {i : Fin 4} {c : SubCfg} (e : HistEntry) (hc : n.subCfg i = some c)
    (hu : c.use = .partnerTravel ∨ c.use = .otherTravel) :
    n.consumeSub i e = (n.awaitedDatum i e.value).watchTravel := by
  rcases hu with hu | hu <;> simp only [Node.consumeSub, hc, hu]

/-- The consumers do not touch the peer table. -/
theorem consumeSub_pta (n : Node) (i : Fin 4) (e : HistEntry) : (n.consumeSub i e).pta = n.pta := by simp

theorem sub_consumeSub (n : Node) (i j : Fin 4) (e : HistEntry) : (n.consumeSub i e).sub j = n.sub j :=
  sub_congr (congrArg Pta.subs (consumeSub_pta n i e)) j

/-! ### The judging of a sample, step by step (R89) -/

theorem offsetFor_of_invalid {p : Peer} (rx : Time) (h : p.offsetValid = false) : p.offsetFor rx = none := by
  simp [Peer.offsetFor, h]

/-- A sample received before the re-seed has no offset to convert with. -/
theorem offsetFor_of_reseeded {p : Peer} {rx r : Time} (h : p.reseedStamp = some r) (early : later r rx = true) :
    p.offsetFor rx = none := by
  simp [Peer.offsetFor, h, early]

theorem offsetFor_of_usable {p : Peer} {rx o : Time} (hv : p.offsetValid = true) (ho : p.offset = some o)
    (hr : ∀ r, p.reseedStamp = some r → later r rx = false) : p.offsetFor rx = some o := by
  cases h : p.reseedStamp with
  | none => simp [Peer.offsetFor, hv, ho, h]
  | some r => simp [Peer.offsetFor, hv, ho, h, hr r h]

theorem offsetFor_none_or (p : Peer) (rx : Time) : p.offsetFor rx = none ∨ p.offsetFor rx = p.offset := by
  unfold Peer.offsetFor
  repeat' split
  all_goals simp

theorem seqCase_of_empty {h : List HistEntry} (s : Byte) (he : newest? h = none) : seqCase h s = .go := by
  simp only [seqCase, he]

theorem seqCase_of_newest {h : List HistEntry} {z : HistEntry} (s : Byte) (he : newest? h = some z) :
    seqCase h s = if seqStep z.seq s = 0 ∨ 248 ≤ seqStep z.seq s then .drop
      else if 128 ≤ seqStep z.seq s then .restart else .go := by
  simp only [seqCase, he]
  rfl

theorem seqCase_of_go {h : List HistEntry} {s : Byte}
    (he : ∀ z, newest? h = some z → 1 ≤ seqStep z.seq s ∧ seqStep z.seq s ≤ 127) : seqCase h s = .go := by
  cases hz : newest? h with
  | none => exact seqCase_of_empty s hz
  | some z =>
    obtain ⟨lo, hi⟩ := he z hz
    rw [seqCase_of_newest s hz, if_neg (by omega), if_neg (by omega)]

theorem judgeSample_of_wrong_length {n : Node} {f : RxFrame} (i : Fin 4) (h : f.payload.length ≠ 12) :
    n.judgeSample i f = (n, none) := if_pos h

theorem judgeSample_of_no_offset {n : Node} {f : RxFrame} (i : Fin 4)
    (h : (n.peer f.header.sender).offsetFor f.rxStamp = none) : n.judgeSample i f = (n, none) := by
  unfold Node.judgeSample
  split
  · rfl
  · simp only [h]

theorem judgeSample_of_drop {n : Node} {f : RxFrame} {i : Fin 4} (h : seqCase (n.sub i).hist f.header.seq = .drop) :
    n.judgeSample i f = (n, none) := by
  unfold Node.judgeSample
  repeat' split
  all_goals simp_all

/-- A sample whose sequence is in order is entered where its converted time is in order too. -/
theorem judgeSample_of_go {n : Node} {f : RxFrame} {i : Fin 4} {o : Time} (hl : f.payload.length = 12)
    (ho : (n.peer f.header.sender).offsetFor f.rxStamp = some o)
    (hs : seqCase (n.sub i).hist f.header.seq = .go) : n.judgeSample i f =
      if inTimeOrder (n.sub i).hist (sampleEntry f o).time then
        (n.enterSample i (sampleEntry f o), some (sampleEntry f o)) else (n, none) := by
  simp [Node.judgeSample, hl, ho, hs]

/-- A sample after a gap the sequence cannot count empties the histories of its peer first. -/
theorem judgeSample_of_restart {n : Node} {f : RxFrame} {i : Fin 4} {o : Time} (hl : f.payload.length = 12)
    (ho : (n.peer f.header.sender).offsetFor f.rxStamp = some o)
    (hs : seqCase (n.sub i).hist f.header.seq = .restart) : n.judgeSample i f =
      ((n.emptyHistsOf f.header.sender).enterSample i (sampleEntry f o), some (sampleEntry f o)) := by
  simp [Node.judgeSample, hl, ho, hs]

theorem inTimeOrder_of_newest {h : List HistEntry} {z : HistEntry} (t : Time) (he : newest? h = some z) :
    inTimeOrder h t = later t z.time := by
  simp only [inTimeOrder, he]

theorem inTimeOrder_of_all {h : List HistEntry} {t : Time} (ht : ∀ z, newest? h = some z → later t z.time = true) :
    inTimeOrder h t = true := by
  cases hz : newest? h with
  | none => simp only [inTimeOrder, hz]
  | some z => exact (inTimeOrder_of_newest t hz).trans (ht z hz)

/-- A sample whose converted time is not later than the newest entry's is dropped, where it is not before. -/
theorem judgeSample_of_late {n : Node} {f : RxFrame} {i : Fin 4} {z : HistEntry} {o : Time}
    (hz : newest? (n.sub i).hist = some z) (ho : (n.peer f.header.sender).offset = some o)
    (hs : seqStep z.seq f.header.seq ≤ 127) (late : later (sampleEntry f o).time z.time = false) :
    n.judgeSample i f = (n, none) := by
  by_cases hl : f.payload.length = 12
  · by_cases repeats : seqStep z.seq f.header.seq = 0
    · exact judgeSample_of_drop ((seqCase_of_newest _ hz).trans (if_pos (.inl repeats)))
    · rcases offsetFor_none_or (n.peer f.header.sender) f.rxStamp with absent | usable
      · exact judgeSample_of_no_offset i absent
      · have go : seqCase (n.sub i).hist f.header.seq = .go := by
          rw [seqCase_of_newest _ hz, if_neg (by omega), if_neg (by omega)]
        rw [judgeSample_of_go hl (usable.trans ho) go, inTimeOrder_of_newest _ hz, late]
        rfl
  · exact judgeSample_of_wrong_length i hl

/-! ### The arrival -/

/-- The subscription of a SAMPLE frame is one to its sender (R66, R88). -/
theorem subscribes_of_subOfSample {n : Node} {f : RxFrame} {i : Fin 4} (h : n.subOfSample f = some i) :
    subscribes n f.header.sender i := by
  obtain ⟨ch, -, hm⟩ := Option.bind_eq_some_iff.mp h
  unfold Node.matchSub at hm
  split at hm
  · have found := List.find?_some hm
    cases hc : n.subCfg i with
    | none => simp [hc] at found
    | some c =>
      simp only [hc, Bool.and_eq_true, beq_iff_eq] at found
      exact ⟨c, hc, found.1⟩
  · cases hm

theorem takeSample_of_dropped {n : Node} {f : RxFrame} {i : Fin 4} (hi : n.subOfSample f = some i)
    (h : n.judgeSample i f = (n, none)) : n.takeSample f = n := by
  simp only [Node.takeSample, hi, h]

theorem takeSample_of_entered {n m : Node} {f : RxFrame} {i : Fin 4} {e : HistEntry} (hi : n.subOfSample f = some i)
    (h : n.judgeSample i f = (m, some e)) : n.takeSample f = m.consumeSub i e := by
  simp only [Node.takeSample, hi, h]

/-- The subscription that an entered sample leaves (R89, R91). -/
def enteredSub (n : Node) (x : Sub) (e : HistEntry) : Sub := { x with
  hist := pushHist x.hist e, lastArrival := some n.now, stale := false
  staleAt := some (after n.now (n.img.staleMs * 1000)) }

theorem enterSample_eq (n : Node) (i : Fin 4) (e : HistEntry) :
    n.enterSample i e = n.setSub i (enteredSub n (n.sub i) e) := rfl

/-- Settles O34: the consumers by the use of the subscription, and the sample dropped, entered, or entered after a
restart by the steps of R89. -/
theorem sampleEnteredOrDropped : Obligations.SampleEnteredOrDropped := by
  refine ⟨fun n i c e hc => ?_, fun n q f i hd hi => ?_⟩
  · intro counts forced datum
    refine ⟨fun hu hl => ?_, fun hu hl => ?_, fun hu hx => ?_, fun hu hx => ?_, fun hu => ?_⟩
    · rw [consumeSub_of_loadSource e hc hu, if_pos hl]
    · rw [consumeSub_of_loadSource e hc hu, if_neg (by simp [hl]), Node.consumeForce, exhForce_seqForce e hl]
    · rw [consumeSub_of_strainSource e hc hu, if_pos hx]
    · rw [consumeSub_of_strainSource e hc hu, if_neg (by simp [hx]), Node.consumeStrain]
    · rw [consumeSub_of_travel e hc hu, awaitedDatum_eq]
  · intro p x e step usable
    have hi' : n.popped.subOfSample f = some i := hi
    refine ⟨fun dropped => ?_, fun o use order => ?_, fun o z use hz lo hi => ?_⟩
    · rw [exec_of_delivers q rfl hd, takeSample_of_dropped hi']
      rcases dropped with hl | hv | ⟨r, hr, early⟩ | ⟨z, hz, repeats⟩ | ⟨z, o, hz, ho, hs, late⟩
      · exact judgeSample_of_wrong_length i hl
      · exact judgeSample_of_no_offset (n := n.popped) i (offsetFor_of_invalid _ hv)
      · exact judgeSample_of_no_offset (n := n.popped) i (offsetFor_of_reseeded hr early)
      · exact judgeSample_of_drop (n := n.popped) ((seqCase_of_newest _ hz).trans (if_pos repeats))
      · exact judgeSample_of_late (n := n.popped) hz ho hs late
    · obtain ⟨hl, hv, ho, hr⟩ := use
      have go : seqCase x.hist f.header.seq = .go :=
        seqCase_of_go fun z hz => ⟨(order z hz).1, (order z hz).2.1⟩
      have inTime : inTimeOrder x.hist (e o).time = true := inTimeOrder_of_all fun z hz => (order z hz).2.2
      have judged := (judgeSample_of_go (n := n.popped) hl (offsetFor_of_usable hv ho hr) go).trans (if_pos inTime)
      refine ⟨_, (exec_of_delivers q rfl hd).trans
        (congrArg (State.ran ⟨n, q⟩) (takeSample_of_entered hi' judged)), rfl, ?_, ?_, ?_, ?_, ?_⟩
      all_goals simp
      rfl
    · obtain ⟨hl, hv, ho, hr⟩ := use
      have restart : seqCase x.hist f.header.seq = .restart := by
        have far : ¬(seqStep z.seq f.header.seq = 0 ∨ 248 ≤ seqStep z.seq f.header.seq) := by
          simp only [step, seqStep] at lo hi ⊢
          omega
        rw [seqCase_of_newest _ hz, if_neg far, if_pos (by exact lo)]
      have judged := judgeSample_of_restart (n := n.popped) hl (offsetFor_of_usable hv ho hr) restart
      refine ⟨_, (exec_of_delivers q rfl hd).trans
        (congrArg (State.ran ⟨n, q⟩) (takeSample_of_entered hi' judged)), ?_, ?_, ?_, fun j hj => ?_, ?_, ?_, ?_, ?_⟩
      · rw [consumeSub_pta]
        rfl
      · rw [consumeSub_pta]
        rfl
      · rw [sub_consumeSub, enterSample_eq, sub_setSub_same, Node.emptyHistsOf,
          sub_mapSubsOf_of _ (subscribes_of_subOfSample hi')]
        rfl
      · rw [sub_consumeSub, enterSample_eq, sub_setSub_of_ne _ _ hj]
        exact sub_mapSubsOf _ _ Sub.emptied j
      all_goals simp

end Sys2Proof.Proofs
end

section
/-! PROOFS. The staleness expiry: the stale flag, and the users that it reaches (R39, R78, R91, R92, R111, R112,
R145). -/
namespace Sys2Proof.Proofs
open Sys2Proof Sys2Proof.Machine Sys2Proof.Laws

/-! ### The deliveries (R92) -/

theorem stalenessTimer_of_due {n : Node} {i : Fin 4} (live : n.inService = true)
    (h : due n.now (n.sub i).staleAt = true) : n.stalenessTimer i = (n.goesStale i).deliverStale i :=
  if_pos (by simp only [live, h, Bool.and_self])

@[simp] theorem goesStale_notices (n : Node) (i : Fin 4) : Notices n (n.goesStale i) :=
  notices_of_same (.refl n) rfl rfl rfl rfl

theorem deliverStale_of_loadSource {n : Node} {i : Fin 4} {c : SubCfg} (hc : n.subCfg i = some c)
    (hu : c.use = .loadSource) : n.deliverStale i = (n.cmuStale i).loadLost := by
  simp only [Node.deliverStale, hc, hu]

theorem deliverStale_of_strainSource {n : Node} {i : Fin 4} {c : SubCfg} (hc : n.subCfg i = some c)
    (hu : c.use = .strainSource) : n.deliverStale i = n.cmuStale i := by
  simp only [Node.deliverStale, hc, hu]

theorem deliverStale_of_partnerTravel {n : Node} {i : Fin 4} {c : SubCfg} (hc : n.subCfg i = some c)
    (hu : c.use = .partnerTravel) : n.deliverStale i = n.partnerStale := by
  simp only [Node.deliverStale, hc, hu]

theorem deliverStale_of_otherTravel {n : Node} {i : Fin 4} {c : SubCfg} (hc : n.subCfg i = some c)
    (hu : c.use = .otherTravel) : n.deliverStale i = n := by
  simp only [Node.deliverStale, hc, hu]

/-- The deliveries touch none of these blocks. -/
theorem deliverStale_leaves (n : Node) (i : Fin 4) : (n.deliverStale i).pta = n.pta ∧
    (n.deliverStale i).lc = n.lc ∧ (n.deliverStale i).hlm = n.hlm ∧ (n.deliverStale i).clk = n.clk ∧
    (n.deliverStale i).sul = n.sul ∧ (n.deliverStale i).pins = n.pins := by simp

/-! ### The users (R39, R111, R112, R145) -/

@[simp] theorem cmuStale_notices (n : Node) (i : Fin 4) : Notices n (n.cmuStale i) := by
  unfold Node.cmuStale
  split
  · simp
  · simp

/-- A stale controlling source ends the closed mode it controls (R111). -/
theorem cmuStale_of_controlling {n : Node} {i : Fin 4} (live : n.driveLive = true)
    (hm : n.cmu.requested.closed = true) (hi : n.controlSub n.cmu.requested = some i) :
    n.cmuStale i = n.fallBack n.tsg.wanted :=
  if_pos (by simp [live, hm, hi])

/-- A fallback at the wanted velocity leaves the drive as it is. -/
theorem fallBack_wanted_tsg (n : Node) : (n.fallBack n.tsg.wanted).tsg = n.tsg := by
  rw [fallBack_tsg, ite_self]

/-- The fallback of a stale source leaves the test as it is. -/
theorem cmuStale_test (n : Node) (i : Fin 4) : (n.cmuStale i).testInProgress = n.testInProgress ∧
    (n.cmuStale i).driveLive = n.driveLive := by
  have calm : Calm n (n.cmuStale i) := cmuStale_calm n n i (.refl n)
  exact ⟨by simp only [Node.testInProgress, calm.test], calm.driveLive⟩

theorem staleUse_of_stale {n : Node} {u : SubUse} {i : Fin 4} (hi : n.subOfUse u = some i)
    (h : (n.sub i).stale = true) : n.staleUse u = true :=
  (staleUse_iff n u).mpr ⟨i, hi, h⟩

/-- LOAD-LOST is raised where the load source is stale in a test (R145). -/
theorem loadLost_of_stale {n : Node} (live : n.driveLive = true) (going : n.testInProgress = true)
    (stale : n.staleUse .loadSource = true) : n.loadLost = n.localCause .loadLost :=
  if_pos (by simp only [live, going, stale, Bool.and_self])

/-- A moving generator brings PARTNER-LOST in a live drive (R39). -/
theorem partnerStale_of_moving {n : Node} (live : n.driveLive = true) (moving : n.tsg.gen.st ≠ .stopped) :
    n.partnerStale = n.localCause .partnerLost :=
  if_pos (by simp [live, moving, Gen.moving])

/-- Settles O36: the flag is set, and then the use of the subscription decides which user is told. -/
theorem stalenessExpiryDelivered : Obligations.StalenessExpiryDelivered := by
  intro n q i c live hdue hc
  let k : Node := n.goesStale i
  have hc' : k.subCfg i = some c := hc
  have stale : (k.sub i).stale = true := congrArg Sub.stale (sub_setSub_same n i _)
  have driveLive (drive : n.roles.drive = true) : k.driveLive = true := Bool.and_eq_true_iff.mpr ⟨live, drive⟩
  obtain ⟨pta, lc, hlm, clk, sul, pins⟩ := deliverStale_leaves k i
  refine ⟨_, congrArg (State.ran ⟨n, q⟩) (stalenessTimer_of_due live hdue), pta, lc, hlm, clk, sul, pins,
    fun hu => ?_, fun hu drive going hs => ?_, fun hu drive moving halted => ?_, fun hu drive hm ext hs => ?_⟩
  · rw [deliverStale_of_otherTravel hc' hu]
    rfl
  · rw [deliverStale_of_loadSource hc' hu]
    obtain ⟨test, drives⟩ := cmuStale_test k i
    have before : Notices n (k.cmuStale i) := (goesStale_notices n i).trans (cmuStale_notices k i)
    have going' : (k.cmuStale i).testInProgress = true := test.trans going
    have sul' : (k.cmuStale i).sul = n.sul := by simp [k]
    have id' : (k.cmuStale i).nodeId = n.nodeId := congrArg (·.image.nodeId) sul'
    have lost : (k.cmuStale i).staleUse .loadSource = true :=
      staleUse_of_stale (i := i) (by simpa only [Node.subOfUse, subCfg_congr sul'] using hs)
        (by rw [sub_congr (n := k) (by simp)]; exact stale)
    rw [loadLost_of_stale (drives.trans (driveLive drive)) going' lost, ← id']
    exact haltedBy_before before sul' (localCause_halts .loadLost (live_of_progress going'))
  · rw [deliverStale_of_partnerTravel hc' hu, partnerStale_of_moving (driveLive drive) moving]
    exact haltedBy_before (goesStale_notices n i) rfl
      (localCause_halts (n := k) .partnerLost ⟨Option.isSome_iff_ne_none.mp live, halted⟩)
  · have hm' : k.cmu.requested = .strainRate := hm
    have ext' : k.roles.ext = false := ext
    have controls : k.controlSub k.cmu.requested = some i := by
      rw [hm']
      exact (if_neg (by simp [ext'])).trans hs
    rw [deliverStale_of_strainSource hc' hu, cmuStale_of_controlling (driveLive drive) (by rw [hm']; rfl) controls]
    have told : ModesTold k (k.fallBack k.tsg.wanted) := fallBack_told k _
    have fallen := fallBack_cmu k k.tsg.wanted
    refine ⟨congrArg Cmu.requested fallen, congrArg Cmu.lock fallen, congrArg Cmu.entryStep fallen,
      congrArg Cmu.fallback fallen, congrArg Cmu.fallbackVel fallen, congrArg Tsg.wanted (fallBack_wanted_tsg k),
      (goesStale_notices n i).notified_before (told.told fun same => ?_)⟩
    have crosshead : (k.fallBack k.tsg.wanted).cmu.requested = k.cmu.requested := congrArg Prod.fst same
    rw [fallen, hm'] at crosshead
    cases crosshead

end Sys2Proof.Proofs
end

section
/-! PROOFS. The interpolation service: where a time falls in a history, and what each rule answers there; the rate
estimate of a window; and what an arrival brings to the control mode unit (R53, R90, R93 to R95, R103 to R105, R108,
R111). -/
namespace Sys2Proof.Proofs
open Sys2Proof Sys2Proof.Machine Sys2Proof.Laws

/-! ### Where a time falls in a history (5.7) -/

/-- The entry's time lies before `t`. -/
def passed (t : Time) (x : HistEntry) : Prop := x.time ≠ t ∧ later x.time t = false

theorem later_self (t : Time) : later t t = false := by
  simp [later, tdiff]

theorem locate_of_before {a : HistEntry} {t : Time} (post : List HistEntry) (h : later a.time t = true) :
    locate (a :: post) t = .beforeOldest a := if_pos h

/-- A time that is not before the oldest entry is searched for from it. -/
theorem locate_of_not_before {a : HistEntry} {t : Time} (post : List HistEntry) (h : later a.time t = false) :
    locate (a :: post) t = locateFrom t a post := if_neg (by simp [h])

theorem locateFrom_of_on {a : HistEntry} {t : Time} (post : List HistEntry) (h : a.time = t) :
    locateFrom t a post = .onEntry a := by
  cases post with
  | nil => exact if_pos h.symm
  | cons b rest => exact if_pos h.symm

theorem locateFrom_of_between {a b : HistEntry} {t : Time} (post : List HistEntry) (ha : passed t a)
    (hb : later b.time t = true) : locateFrom t a (b :: post) = .between a b :=
  (if_neg (Ne.symm ha.1)).trans (if_pos hb)

theorem locateFrom_of_passed {a b : HistEntry} {t : Time} (post : List HistEntry) (ha : passed t a)
    (hb : later b.time t = false) : locateFrom t a (b :: post) = locateFrom t b post :=
  (if_neg (Ne.symm ha.1)).trans (if_neg (by simp [hb]))

theorem locateFrom_of_after {a : HistEntry} {t : Time} (ha : passed t a) : locateFrom t a [] = .afterNewest a :=
  if_neg (Ne.symm ha.1)

/-- The search goes past every entry whose time lies before `t`. -/
theorem locateFrom_append {t : Time} {a : HistEntry} (post : List HistEntry) (ha : later a.time t = false) :
    ∀ (x : HistEntry) (pre : List HistEntry), passed t x → (∀ y ∈ pre, passed t y) →
      locateFrom t x (pre ++ a :: post) = locateFrom t a post
  | x, [], hx, _ => locateFrom_of_passed post hx ha
  | x, y :: pre, hx, hpre => by
    obtain ⟨hy, hrest⟩ := List.forall_mem_cons.mp hpre
    exact (locateFrom_of_passed _ hx hy.2).trans (locateFrom_append post ha y pre hy hrest)

theorem locate_append {t : Time} {a : HistEntry} {pre : List HistEntry} (post : List HistEntry)
    (hpre : ∀ x ∈ pre, passed t x) (ha : later a.time t = false) :
    locate (pre ++ a :: post) t = locateFrom t a post := by
  cases pre with
  | nil => exact locate_of_not_before post ha
  | cons x rest =>
    obtain ⟨hx, hrest⟩ := List.forall_mem_cons.mp hpre
    exact (locate_of_not_before _ hx.2).trans (locateFrom_append post ha x rest hx hrest)

/-! ### The answers by place (R53, R93 to R95) -/

theorem answers_of_empty (t : Time) : answerNewest [] t = none ∧ answerExtrapolate [] t = none ∧
    (locate [] t).inside t = none ∧ answerBracketed [] t = none := ⟨rfl, rfl, rfl, rfl⟩

/-- At a place within the history the three rules answer alike. -/
theorem answers_of_inside {h : List HistEntry} {t : Time} {p : Place} {x : Answer} (hp : locate h t = p)
    (hx : p.inside t = some x) : answerNewest h t = some x ∧ answerExtrapolate h t = some x ∧
      (locate h t).inside t = some x := by
  cases p with
  | afterNewest e => cases hx
  | empty => cases hx
  | beforeOldest e => simp only [answerNewest, answerExtrapolate, hp, hx, and_self]
  | onEntry e => simp only [answerNewest, answerExtrapolate, hp, hx, and_self]
  | between a b => simp only [answerNewest, answerExtrapolate, hp, hx, and_self]

theorem newestTwo_append (pre : List HistEntry) (a b : HistEntry) : newestTwo? (pre ++ [a, b]) = some (a, b) := by
  simp [newestTwo?]

/-- After the newest of several entries the rules part. -/
theorem answers_of_after {h : List HistEntry} {t : Time} {a b : HistEntry} (hp : locate h t = .afterNewest b)
    (two : newestTwo? h = some (a, b)) : answerNewest h t = some ⟨b.value, b.flags, false⟩ ∧
      (locate h t).inside t = none ∧ answerBracketed h t = none ∧ answerExtrapolate h t =
        some ⟨b.value + roundDiv ((b.value - a.value) * min (tdiff t b.time) 5000) (tdiff b.time a.time),
          a.flags.or b.flags, false⟩ := by
  simp only [answerNewest, answerBracketed, answerExtrapolate, hp, two, Place.inside, HistEntry.answer,
    extrapolationCap, and_self]

/-- A single entry is not extrapolated. -/
theorem answers_of_single {t : Time} {b : HistEntry} (hb : passed t b) :
    answerNewest [b] t = some ⟨b.value, b.flags, false⟩ ∧
      answerExtrapolate [b] t = some ⟨b.value, b.flags, false⟩ ∧ (locate [b] t).inside t = none := by
  have hp : locate [b] t = .afterNewest b := (locate_of_not_before [] hb.2).trans (locateFrom_of_after hb)
  simp only [answerNewest, answerExtrapolate, hp]
  exact ⟨rfl, rfl, rfl⟩

/-! ### The rate estimate (R105) -/

theorem estimate_of_short {n : Node} {m : Mode} (h : (n.controlHist m).length < n.cmu.window) :
    n.estimate m = none := by
  simp only [Node.estimate, windowEnds, if_pos h]

theorem windowEnds_append (pre mid : List HistEntry) (o e : HistEntry) :
    windowEnds (pre ++ o :: (mid ++ [e])) (mid.length + 2) = some (o, e) := by
  have length : (pre ++ o :: (mid ++ [e])).length = pre.length + (mid.length + 2) := by
    simp only [List.length_append, List.length_cons, List.length_nil]
  have oldest : ((pre ++ o :: (mid ++ [e])).drop pre.length).head? = some o := by
    rw [List.drop_left, List.head?_cons]
  have newest : newest? (pre ++ o :: (mid ++ [e])) = some e := by
    rw [newest?, ← List.cons_append, ← List.append_assoc, List.getLast?_concat]
  rw [windowEnds, if_neg (by omega), length, Nat.add_sub_cancel, oldest, newest]

/-- The estimate over the ends of a window; an end with HELD gives none. -/
theorem estimate_of_window {n : Node} {m : Mode} {pre mid : List HistEntry} {o e : HistEntry}
    (h : n.controlHist m = pre ++ o :: (mid ++ [e])) (hw : n.cmu.window = mid.length + 2) :
    n.estimate m = if o.flags.held || e.flags.held then none else
      some (n.cmu.direction * roundDiv ((e.value - o.value) * 1000000) (tdiff e.time o.time)) := by
  simp only [Node.estimate, h, hw, windowEnds_append]
  rfl

/-! ### An arrival at the controlling history (R103 to R105, R108, R111) -/

/-- An arrival ends a STRAIN-RATE (R111). -/
def unfitArrival (m : Mode) (e : HistEntry) : Prop := m = .strainRate ∧ (e.flags.derived = true ∨ e.flags.fault = true)

theorem cmuArrival_of_other {n : Node} {m : Mode} (e : HistEntry)
    (h : n.driveLive = false ∨ n.cmu.requested ≠ m) : n.cmuArrival m e = n :=
  if_neg (by rcases h with h | h <;> simp [h])

theorem cmuArrival_of_unfit {n : Node} {m : Mode} {e : HistEntry} (live : n.driveLive = true)
    (hm : n.cmu.requested = m) (unfit : unfitArrival m e) : n.cmuArrival m e = n.fallBack n.tsg.wanted :=
  (if_pos (by simp [live, hm])).trans (if_pos (by simpa [unfitArrival] using unfit))

/-- A fit arrival goes to the running law, where no request falls together with it. -/
theorem cmuArrival_of_fit {n : Node} {m : Mode} {e : HistEntry} (live : n.driveLive = true)
    (hm : n.cmu.requested = m) (fit : ¬unfitArrival m e) : n.cmuArrival m e =
      if n.cmu.lawRuns && !n.cmu.requestNow then
        match n.estimate m with
        | some rm => n.applyEstimate m rm
        | none => n
      else n :=
  (if_pos (by simp [live, hm])).trans (if_neg (by simpa [unfitArrival] using fit))

/-- A fit arrival sets nothing where no law runs, a request falls together with it, or no estimate is formed. -/
theorem cmuArrival_of_nothing {n : Node} {m : Mode} {e : HistEntry} (live : n.driveLive = true)
    (hm : n.cmu.requested = m) (fit : ¬unfitArrival m e)
    (h : n.cmu.lock = none ∨ n.cmu.requestNow = true ∨ n.estimate m = none) : n.cmuArrival m e = n := by
  rw [cmuArrival_of_fit live hm fit]
  rcases h with h | h | h <;> simp [Cmu.lawRuns, h]

theorem cmuArrival_of_estimate {n : Node} {m : Mode} {e : HistEntry} {rm : Int} (live : n.driveLive = true)
    (hm : n.cmu.requested = m) (fit : ¬unfitArrival m e) (lock : n.cmu.lock ≠ none)
    (apart : n.cmu.requestNow = false) (hr : n.estimate m = some rm) :
    n.cmuArrival m e = n.applyEstimate m rm := by
  rw [cmuArrival_of_fit live hm fit, hr]
  exact if_pos (by simp [Cmu.lawRuns, apart, Option.isSome_iff_ne_none.mpr lock])

/-- Settles O37: the answers by the place of the time in the history, the estimate by its window, and the arrival by
whether it is fit and a law runs. -/
theorem historyAnswersAndRateEstimate : Obligations.HistoryAnswersAndRateEstimate := by
  refine ⟨fun t pre post a b => ?_, fun h e => ?_, fun n m => estimate_of_short,
    fun n m pre mid o e => estimate_of_window, fun n m e => ?_⟩
  · intro gone waits same both
    refine ⟨answers_of_empty t, fun ha => ⟨?_, ?_⟩, fun hpre ha => ?_, fun hpre ha hb => ?_,
      fun hpre ha hb => ⟨?_, answers_of_single hb⟩⟩
    · exact answers_of_inside (locate_of_before post ha) rfl
    · simp only [answerBracketed, locate_of_before post ha]
    · have on : locate (pre ++ a :: post) t = .onEntry a :=
        (locate_append post hpre (ha ▸ later_self _)).trans (locateFrom_of_on post ha)
      refine ⟨answers_of_inside on rfl, ?_⟩
      simp only [answerBracketed, on]
    · intro v
      have between : locate (pre ++ a :: b :: post) t = .between a b :=
        (locate_append _ hpre ha.2).trans (locateFrom_of_between post ha hb)
      refine ⟨answers_of_inside between rfl, ?_⟩
      simp only [answerBracketed, between]
      rfl
    · have after_ : locate (pre ++ [a, b]) t = .afterNewest b :=
        (locate_append _ hpre ha.2).trans ((locateFrom_of_passed [] ha hb.2).trans (locateFrom_of_after hb))
      exact answers_of_after after_ (newestTwo_append pre a b)
  · rw [pushHist, pushBounded]
    rfl
  · intro unfit
    refine ⟨rfl, rfl, cmuArrival_of_other e, fun live hm => ⟨fun h => ?_, fun fit => ?_, fun rm fit => ?_⟩⟩
    · rw [cmuArrival_of_unfit live hm h]
      have fallen := fallBack_cmu n n.tsg.wanted
      exact ⟨congrArg Cmu.requested fallen, congrArg Cmu.reqVel fallen, congrArg Cmu.lock fallen,
        congrArg Cmu.fallback fallen, congrArg Cmu.fallbackVel fallen, fallBack_wanted_tsg n⟩
    · exact cmuArrival_of_nothing live hm fit
    · exact cmuArrival_of_estimate live hm fit

end Sys2Proof.Proofs
end

section
/-! PROOFS. Queries and replies: a REPLY at the bulk FIFO, the contents of every page, and the queries that are refused
or not answered (R96, R174, R184, R189, R193 to R198). -/
namespace Sys2Proof.Proofs
open Sys2Proof Sys2Proof.Machine Sys2Proof.Laws

/-! ### A REPLY at the FIFO (R76, R195) -/

theorem submitBulk_of_judged {b : Fbc} (f : TxFrame) (now : Time) (hr : b.removal = false) :
    b.submitBulk f now = if b.fifo.length < 8 then { b with fifo := b.fifo ++ [⟨f, now⟩] } else b := by
  simp only [Fbc.submitBulk, settlePending_of_judged now hr]
  rfl

/-- The node that has taken a query from its queue and sent a REPLY with these bytes, where the FIFO had room. -/
def replied (n : Node) (target : Fin 16) (bytes : List Byte) : Node :=
  if n.fbc.fifo.length < 8 then { n.popped with fbc := { n.popped.fbc with
    fifo := n.fbc.fifo ++ [⟨directFrame .reply target bytes, n.now⟩] } }
  else n.popped

theorem sendReply_popped {n : Node} (target : Fin 16) (bytes : List Byte) (sends : n.sendsBulk = true)
    (hr : n.fbc.removal = false) : n.popped.sendReply target bytes = replied n target bytes := by
  have sends' : n.popped.sendsBulk = true := sends
  have fifo : n.popped.fbc.fifo = n.fbc.fifo := by simp
  have hr' : n.popped.fbc.removal = false := by simpa using hr
  rw [Node.sendReply, if_pos sends', submitBulk_of_judged _ _ hr', apply_ite n.popped.setFbc, fifo]
  rfl

/-- A REPLY touches the bus alone. -/
theorem replied_eq (n : Node) (target : Fin 16) (bytes : List Byte) :
    replied n target bytes = { n with fbc := (replied n target bytes).fbc } := by
  unfold replied
  split <;> rfl

theorem sendsBulk_of_active {n : Node} (h : n.active = true) : n.sendsBulk = true := by
  simp [Node.sendsBulk, h]

theorem sendsBulk_of_configFault {n : Node} (h : n.seq.op = .configFault) (live : n.fbcLive = true) :
    n.sendsBulk = true := by
  simp [Node.sendsBulk, h, live]

theorem active_of_configFault {n : Node} (h : n.seq.op = .configFault) : n.active = false := by
  simp [Node.active, h]

/-- The node that has answered the query `f` with these contents. -/
def answered (n : Node) (f : RxFrame) (contents : List Byte) : Node :=
  replied n f.header.sender ([byteAt f.payload 0, byteAt f.payload 1, byteAt f.payload 2] ++ contents)

theorem reply_popped {n : Node} (f : RxFrame) (contents : List Byte) (sends : n.sendsBulk = true)
    (hr : n.fbc.removal = false) : n.popped.reply f contents = answered n f contents :=
  sendReply_popped _ _ sends hr

/-! ### The pages as the node stands (R195) -/

/-- The HEALTH pages do not report the receive queues. -/
theorem healthPage_popped (n : Node) (k : Nat) : n.popped.healthPage k = n.healthPage k := by
  simp [Node.healthPage, Node.healthPage1, Node.healthPage2]

theorem exec_queryStatus {n : Node} {f : RxFrame} {k : Nat} {contents : List Byte} (q : List Instr)
    (hd : n.delivers (.query .status) f) (sends : n.sendsBulk = true) (hr : n.fbc.removal = false)
    (hk : natAt f.payload 2 = k) (hc : n.statusPage k = contents) :
    exec .queryStatus ⟨n, q⟩ = .next ⟨answered n f contents, q⟩ := by
  subst hk hc
  rw [exec_of_delivers q rfl hd, Node.takeStatus, reply_popped f _ sends hr]
  rfl

theorem exec_querySegment {n : Node} {f : RxFrame} {i : Fin 32} {k : Nat} {contents : List Byte} (q : List Instr)
    (hd : n.delivers (.query .segment) f) (ha : n.active = true) (hr : n.fbc.removal = false)
    (hi : i.val = natAt f.payload 1) (hk : natAt f.payload 2 = k) (hc : n.segmentPage i.val k = contents) :
    exec .querySegment ⟨n, q⟩ = .next ⟨answered n f contents, q⟩ := by
  have ha' : n.popped.active = true := ha
  subst hk hc
  rw [exec_of_delivers q rfl hd, Node.takeSegmentQuery, if_pos ha',
    reply_popped f _ (sendsBulk_of_active ha) hr, hi]
  rfl

theorem exec_queryResult {n : Node} {f : RxFrame} {k : Nat} {contents : List Byte} (q : List Instr)
    (hd : n.delivers (.query .result) f) (ha : n.active = true) (hr : n.fbc.removal = false)
    (hk : natAt f.payload 2 = k) (hc : n.resultPage k = contents) :
    exec .queryResult ⟨n, q⟩ = .next ⟨answered n f contents, q⟩ := by
  have ha' : n.popped.active = true := ha
  subst hk hc
  rw [exec_of_delivers q rfl hd, Node.takeResultQuery, if_pos ha',
    reply_popped f _ (sendsBulk_of_active ha) hr]
  rfl

theorem exec_queryHealth {n : Node} {f : RxFrame} {k : Nat} {contents : List Byte} (q : List Instr)
    (hd : n.delivers (.query .health) f) (ha : n.active = true) (hr : n.fbc.removal = false)
    (hk : natAt f.payload 2 = k) (hc : n.healthPage k = contents) :
    exec .queryHealth ⟨n, q⟩ = .next ⟨answered n f contents, q⟩ := by
  have ha' : n.popped.active = true := ha
  subst hk hc
  rw [exec_of_delivers q rfl hd, Node.takeHealthQuery, if_pos ha',
    reply_popped f _ (sendsBulk_of_active ha) hr, healthPage_popped]

/-- A PEER query is answered, and then the gap flag that its page reported is cleared. -/
theorem exec_queryPeer {n : Node} {f : RxFrame} {id : Fin 16} {k : Nat} {contents : List Byte} (q : List Instr)
    (hd : n.delivers (.query .peer) f) (ha : n.active = true) (hr : n.fbc.removal = false) (hi : queryId f = id)
    (hk : natAt f.payload 2 = k) (hc : n.peerPage id k = contents) :
    exec .queryPeer ⟨n, q⟩ = .next ⟨(answered n f contents).clearGap id k, q⟩ := by
  have ha' : n.popped.active = true := ha
  subst hi hk hc
  rw [exec_of_delivers q rfl hd, Node.takePeerQuery, if_pos ha',
    reply_popped f _ (sendsBulk_of_active ha) hr]
  rfl

/-! ### Queries that are refused or not answered (R189, R194, R195) -/

/-- A refused query of the right length is answered in ACTIVE, and a STATUS query in CONFIG-FAULT too (R195). -/
theorem exec_queryRefused {n : Node} {f : RxFrame} (q : List Instr) (hd : n.delivers .queryRefused f)
    (sends : n.sendsBulk = true) (hr : n.fbc.removal = false) (hl : f.payload.length = 3)
    (h : n.active = true ∨ byteAt f.payload 0 = 1) : exec .queryRefused ⟨n, q⟩ =
      .next ⟨replied n f.header.sender
        [byteAt f.payload 0, byteAt f.payload 1, byteAt f.payload 2 ||| 0x80], q⟩ := by
  have taken : f.payload.length = 3 ∧
      (n.popped.active = true ∨ QueryKind.ofCode (byteAt f.payload 0) = some .status) :=
    ⟨hl, h.imp id fun hb => by rw [hb]; rfl⟩
  rw [exec_of_delivers q rfl hd, Node.takeRefused, if_pos taken, sendReply_popped _ _ sends hr]

theorem queryKind_status {b : Byte} (h : QueryKind.ofCode b = some .status) : b = 1 := by
  unfold QueryKind.ofCode at h
  split at h
  · rename_i hb
    exact BitVec.eq_of_toNat_eq hb
  all_goals cases h

/-- Any other is removed from its queue and sends nothing (R189, R194). -/
theorem exec_queryRefused_of_not {n : Node} {f : RxFrame} (q : List Instr) (hd : n.delivers .queryRefused f)
    (h : f.payload.length ≠ 3 ∨ n.active = false ∧ byteAt f.payload 0 ≠ 1) :
    exec .queryRefused ⟨n, q⟩ = .next ⟨n.popped, q⟩ := by
  rw [exec_of_delivers q rfl hd, Node.takeRefused, if_neg]
  rintro ⟨hl, ha | hk⟩
  · rcases h with h | ⟨h, -⟩
    · exact h hl
    · exact Bool.false_ne_true (h.symm.trans ha)
  · rcases h with h | ⟨-, h⟩
    · exact h hl
    · exact h (queryKind_status hk)

/-- A query that only an ACTIVE node answers is removed from its queue and sends nothing elsewhere (R189). -/
theorem exec_query_of_inactive {i : Instr} {a : Arrival} {take : Node → RxFrame → Node} {n : Node} {f : RxFrame}
    (q : List Instr) (hi : exec i ⟨n, q⟩ = (⟨n, q⟩ : State).ran (n.deliver a take)) (hd : n.delivers a f)
    (ht : take n.popped f = n.popped) : exec i ⟨n, q⟩ = .next ⟨n.popped, q⟩ := by
  rw [exec_of_delivers q hi hd, ht]

/-! ### SEGMENT and RESULT (R174, R197) -/

theorem segmentPage_one (n : Node) (i : Fin 32) : n.segmentPage i.val 1 = n.seq.segs[i].page1 :=
  dif_pos i.isLt

theorem segmentPage_two (n : Node) (i : Fin 32) : n.segmentPage i.val 2 = n.seq.segs[i].page2 :=
  dif_pos i.isLt

theorem page2_of_closed {e : Segment} {o : Outcome} (hs : e.status = .closed) (ho : e.outcome = some o) :
    e.page2 = o.page2 e.firstLock.isSome := by
  simp only [Segment.page2, hs, ho]

/-- An entry that is not CLOSED, or has no outcome, has the presence byte 0 and nothing else. -/
theorem page2_of_not_closed {e : Segment} (h : e.status ≠ .closed ∨ e.outcome = none) :
    e.page2 = List.replicate 26 0 := by
  unfold Segment.page2
  split
  · rename_i hs ho
    rcases h with h | h
    · exact absurd hs h
    · rw [h] at ho
      cases ho
  · rfl

/-! ### PEER (R96, R198) -/

theorem queryId_of_val {f : RxFrame} {id : Fin 16} (h : id.val = natAt f.payload 1) : queryId f = id := by
  have lt : (byteAt f.payload 1).toNat < 16 := by
    have := id.isLt
    simp only [natAt] at h
    omega
  apply Fin.ext
  simp only [queryId, stationId, h, natAt, BitVec.extractLsb'_toNat]
  omega

theorem peerPage_of_present {n : Node} {id : Fin 16} (h : (n.peer id).present = true) :
    n.peerPage id 1 = (n.peer id).page1 n.now ∧ n.peerPage id 2 = (n.peer id).page2 := ⟨if_pos h, if_pos h⟩

theorem peerPage_of_absent {n : Node} {id : Fin 16} (h : (n.peer id).present = false) :
    n.peerPage id 1 = List.replicate 28 0 ∧ n.peerPage id 2 = List.replicate 10 0 :=
  ⟨if_neg (by simp [h]), if_neg (by simp [h])⟩

/-- The pages 3, 4 and 5 report the subscription to the peer's channel. -/
theorem peerPage_of_channel (n : Node) (id : Fin 16) {page : Nat} (h : 3 ≤ page) :
    n.peerPage id page = n.subPage (n.matchSub id (pageChannel page)) := by
  obtain ⟨k, rfl⟩ := Nat.exists_eq_add_of_le' h
  rfl

theorem pageChannel_of_mem {page : Nat} {ch : Channel}
    (h : (page, ch) ∈ [(3, Channel.load), (4, Channel.travel), (5, Channel.strain)]) :
    3 ≤ page ∧ pageChannel page = ch := by
  simp only [List.mem_cons, List.not_mem_nil, or_false, Prod.mk.injEq] at h
  rcases h with ⟨rfl, rfl⟩ | ⟨rfl, rfl⟩ | ⟨rfl, rfl⟩ <;> exact ⟨by omega, rfl⟩

theorem clearGap_of_entry (n : Node) (id : Fin 16) {page : Nat} (h : page < 3) : n.clearGap id page = n :=
  if_neg (Nat.not_le.mpr h)

theorem clearGap_of_none {n : Node} {id : Fin 16} {page : Nat} (hm : n.matchSub id (pageChannel page) = none) :
    n.clearGap id page = n := by
  simp only [Node.clearGap, hm, ite_self]

theorem clearGap_of_some {n : Node} {id : Fin 16} {page : Nat} {i : Fin 4} (h : 3 ≤ page)
    (hm : n.matchSub id (pageChannel page) = some i) :
    n.clearGap id page = n.setSub i { n.sub i with gap := false } := by
  simp only [Node.clearGap, if_pos h, hm]

theorem subPage_of_cfg {n : Node} {i : Fin 4} {c : SubCfg} (hc : n.subCfg i = some c) :
    n.subPage (some i) = (n.sub i).page c.use := by
  simp only [Node.subPage, hc]

/-- What a match reads of the node: its image and its test state. -/
theorem matchSub_congr {n m : Node} (hs : m.sul = n.sul) (hq : m.seq = n.seq) (id : Fin 16) (ch : Channel) :
    m.matchSub id ch = n.matchSub id ch := by
  have live : m.inService = n.inService := by rw [Node.inService, hq, Node.inService]
  have cfg : m.subCfg = n.subCfg := funext (subCfg_congr hs)
  unfold Node.matchSub
  rw [live, cfg]

theorem answered_leaves (n : Node) (f : RxFrame) (contents : List Byte) : (answered n f contents).sul = n.sul ∧
    (answered n f contents).seq = n.seq ∧ (answered n f contents).pta = n.pta := by
  unfold answered
  rw [replied_eq]
  exact ⟨rfl, rfl, rfl⟩

theorem clearGap_answered_of_none {n : Node} {f : RxFrame} {contents : List Byte} {id : Fin 16} {page : Nat}
    (hm : n.matchSub id (pageChannel page) = none) :
    (answered n f contents).clearGap id page = answered n f contents := by
  obtain ⟨sul, seq, -⟩ := answered_leaves n f contents
  exact clearGap_of_none ((matchSub_congr sul seq id _).trans hm)

theorem clearGap_answered_of_some {n : Node} {f : RxFrame} {contents : List Byte} {id : Fin 16} {page : Nat}
    {i : Fin 4} (h : 3 ≤ page) (hm : n.matchSub id (pageChannel page) = some i) :
    (answered n f contents).clearGap id page = { answered n f contents with
      pta := { n.pta with subs := n.pta.subs.set i { n.sub i with gap := false } } } := by
  obtain ⟨sul, seq, pta⟩ := answered_leaves n f contents
  rw [clearGap_of_some h ((matchSub_congr sul seq id _).trans hm), setSub_eq, sub_congr (congrArg Pta.subs pta), pta]

theorem peer_page1_of_present {p : Peer} (now : Time) (h : p.present = true) : p.page1 now =
    [bitsByte [true, p.longSilent, p.offsetValid, p.reseedStamp.isSome, p.presence.isSome, p.view.isSome],
      bitsByte [p.rxSeq.urgent.isSome, p.rxSeq.sample.isSome, p.rxSeq.bulk.isSome]] ++
    be32 (p.age now) ++ be32 (p.offset.getD 0) ++ [byteOf p.outliers] ++ be32 (p.reseedStamp.getD 0) ++
    [p.rxSeq.urgent.getD 0, p.rxSeq.sample.getD 0, p.rxSeq.bulk.getD 0] ++
    be16 p.missed.urgent ++ be16 p.missed.sample ++ be16 p.missed.bulk ++
    [(p.presence.getD ⟨0, 0, 0, 0⟩).roles, (p.presence.getD ⟨0, 0, 0, 0⟩).revision,
      (p.presence.getD ⟨0, 0, 0, 0⟩).status, (p.presence.getD ⟨0, 0, 0, 0⟩).field] := by
  rw [Peer.page1, h]
  rfl

theorem peer_page2_of_none {p : Peer} (h : p.view = none) : p.page2 = List.replicate 10 0 := by
  simp only [Peer.page2, h]

theorem peer_page2_of_some {p : Peer} {v : StateView} (h : p.view = some v) : p.page2 = v.bytes := by
  simp only [Peer.page2, h]

/-! ### Every query -/

/-- Settles O56: each query's REPLY carries the page it names, which is that page's listing; a PEER page of a
subscription clears its gap flag besides; and a refused or unanswered query is only removed from its queue. -/
theorem queriesAnswered : Obligations.QueriesAnswered := by
  intro n q f hr p arg page sent answered_ answers halt broke status
  have status_ (sends : n.sendsBulk = true) (hd : n.delivers (.query .status) f) : status :=
    ⟨fun hp => exec_queryStatus q hd sends hr hp rfl, fun hp => exec_queryStatus q hd sends hr hp rfl,
      fun hp => exec_queryStatus q hd sends hr hp rfl, fun hp => exec_queryStatus q hd sends hr hp rfl⟩
  have silent (fault : n.seq.op = .configFault) : ¬n.popped.active = true := by simp [active_of_configFault fault]
  refine ⟨fun ha => ⟨status_ (sendsBulk_of_active ha), fun hd i hi => ?_, fun hd => ?_, fun hd => ?_,
    fun hd id hi => ?_, fun hd => ⟨fun hl => ?_, fun hl => ?_⟩⟩, fun fault => ⟨fun hd => ?_, fun hd => ?_, fun hd => ?_,
    fun hd => ?_, fun hd => ?_, fun hd => ⟨fun hl hb => ?_, fun h => ?_⟩⟩⟩
  · intro e g
    refine ⟨fun hp => ?_, fun hp h => ?_, fun o hp hs ho => ?_⟩
    · exact exec_querySegment q hd ha hr hi hp (segmentPage_one n i)
    · exact exec_querySegment q hd ha hr hi hp ((segmentPage_two n i).trans (page2_of_not_closed h))
    · exact exec_querySegment q hd ha hr hi hp ((segmentPage_two n i).trans (page2_of_closed hs ho))
  · intro r v head
    refine ⟨fun hp => exec_queryResult q hd ha hr hp ?_, fun hp => exec_queryResult q hd ha hr hp ?_,
      fun hp => exec_queryResult q hd ha hr hp ?_, fun hp => exec_queryResult q hd ha hr hp ?_⟩
    all_goals
      simp only [Node.resultPage, Evl.pageFields, Evl.part1, ResultValues.yieldFields, ResultValues.proofFields,
        ResultValues.maxFields, List.append_assoc]
      rfl
  · intro h score
    refine ⟨fun hp => ?_, fun hp => ?_⟩
    · refine exec_queryHealth q hd ha hr hp ?_
      simp only [Node.healthPage, if_true, Node.healthPage1, Hlm.all, List.flatMap_cons, List.flatMap_nil,
        List.append_assoc, List.append_nil]
      rfl
    · exact exec_queryHealth q hd ha hr hp rfl
  · intro x pr age
    have hid := queryId_of_val hi
    -- a page of the entry itself clears no gap flag
    have entry {k : Nat} {contents : List Byte} (hp : page = k) (hk : k < 3) (hc : n.peerPage id k = contents) :
        answers .queryPeer contents := by
      have answer := exec_queryPeer q hd ha hr hid hp hc
      rwa [clearGap_of_entry _ id hk] at answer
    refine ⟨fun absent => ⟨fun hp => ?_, fun hp => ?_⟩,
      fun present => ⟨fun hp => ?_, fun hp hv => ?_, fun v hp hv => ?_⟩,
      fun ch hch => ⟨fun hm => ?_, fun i c hm hc => ?_⟩⟩
    · exact entry hp (by decide) (peerPage_of_absent absent).1
    · exact entry hp (by decide) (peerPage_of_absent absent).2
    · exact entry hp (by decide)
        ((peerPage_of_present present).1.trans (peer_page1_of_present n.now present))
    · exact entry hp (by decide) ((peerPage_of_present present).2.trans (peer_page2_of_none hv))
    · exact entry hp (by decide) ((peerPage_of_present present).2.trans (peer_page2_of_some hv))
    · obtain ⟨hp, rfl⟩ := pageChannel_of_mem hch
      have answer := exec_queryPeer q hd ha hr hid rfl (peerPage_of_channel n id hp)
      rw [hm, clearGap_answered_of_none hm] at answer
      exact answer
    · obtain ⟨hp, rfl⟩ := pageChannel_of_mem hch
      have answer := exec_queryPeer q hd ha hr hid rfl (peerPage_of_channel n id hp)
      rw [hm, subPage_of_cfg hc, clearGap_answered_of_some hp hm] at answer
      exact answer
  · exact exec_queryRefused q hd (sendsBulk_of_active ha) hr hl (.inl ha)
  · exact exec_queryRefused_of_not q hd (.inl hl)
  · exact status_ (sendsBulk_of_configFault fault hd.1) hd
  · exact exec_query_of_inactive q rfl hd (if_neg (silent fault))
  · exact exec_query_of_inactive q rfl hd (if_neg (silent fault))
  · exact exec_query_of_inactive q rfl hd (if_neg (silent fault))
  · exact exec_query_of_inactive q rfl hd (if_neg (silent fault))
  · exact exec_queryRefused q hd (sendsBulk_of_configFault fault hd.1) hr hl (.inr hb)
  · exact exec_queryRefused_of_not q hd (h.imp id fun hb => ⟨active_of_configFault fault, hb⟩)

end Sys2Proof.Proofs
end

section
/-! PROOFS. An estimate of a running law: the lock table and the new wanted velocity (R78, R106, R107, R109). -/
namespace Sys2Proof.Proofs
open Sys2Proof Sys2Proof.Machine Sys2Proof.Laws

/-! ### The lock table (R107, R109) -/

theorem rate_eq (c : Cmu) :
    c.rate = if c.requested = .loadRate then c.forceTarget.getD c.target else c.target := by
  unfold Cmu.rate
  cases h : c.requested <;> rfl

/-- An estimate in band counts towards LOCKED. -/
theorem updateLock_of_inBand {c : Cmu} {rm band : Int} (count : Nat) (hl : c.lock = some .acquiring)
    (hb : ((rm - c.rate).natAbs : Int) * 1000 ≤ c.rate * band) : c.updateLock rm band count =
      if c.inBand + 1 = count then { c with lock := some .locked, inBand := 0, lockAt := none }
      else { c with inBand := c.inBand + 1 } := by
  have inside : withinBand rm c.rate band = true := decide_eq_true hb
  simp only [Cmu.updateLock, hl, inside, if_true]

/-- An estimate out of band starts the count again. -/
theorem updateLock_of_outOfBand {c : Cmu} {rm band : Int} (count : Nat) (hl : c.lock = some .acquiring)
    (hb : ¬((rm - c.rate).natAbs : Int) * 1000 ≤ c.rate * band) :
    c.updateLock rm band count = { c with inBand := 0 } := by
  have outside : withinBand rm c.rate band = false := decide_eq_false hb
  simp [Cmu.updateLock, hl, outside]

/-- An estimate outside twice the band counts towards the loss of the lock. -/
theorem updateLock_of_outsideTwice {c : Cmu} {rm band : Int} (count : Nat) (hl : c.lock = some .locked)
    (hb : 2 * c.rate * band < ((rm - c.rate).natAbs : Int) * 1000) : c.updateLock rm band count =
      if c.outBand + 1 = count then { c with lock := some .acquiring, outBand := 0 }
      else { c with outBand := c.outBand + 1 } := by
  have outside : outsideTwice rm c.rate band = true := decide_eq_true hb
  simp only [Cmu.updateLock, hl, outside, if_true]

theorem updateLock_of_insideTwice {c : Cmu} {rm band : Int} (count : Nat) (hl : c.lock = some .locked)
    (hb : ¬2 * c.rate * band < ((rm - c.rate).natAbs : Int) * 1000) :
    c.updateLock rm band count = { c with outBand := 0 } := by
  have inside : outsideTwice rm c.rate band = false := decide_eq_false hb
  simp [Cmu.updateLock, hl, inside]

/-- The lock update leaves the modes. -/
theorem updateLock_modes (c : Cmu) (rm band : Int) (count : Nat) :
    (c.updateLock rm band count).requested = c.requested ∧
      (c.updateLock rm band count).established = c.established := by
  unfold Cmu.updateLock
  repeat' split
  all_goals exact ⟨rfl, rfl⟩

/-! ### The new wanted velocity (R106) -/

theorem le_clamp {lo hi : Int} (x : Int) (h : lo ≤ hi) : lo ≤ clamp lo hi x := by
  unfold clamp
  repeat' split
  all_goals omega

/-- The law never wants to stand still. -/
theorem lawVelocity_ne_zero {vMin vMax direction : Int} (vOld factor : Int) (least : 1 ≤ vMin) (h : vMin ≤ vMax)
    (hd : direction ≠ 0) : lawVelocity vOld factor vMin vMax direction ≠ 0 := by
  have speed : vMin ≤ clamp vMin vMax (roundDiv (vOld * factor) 65536).natAbs := le_clamp _ h
  exact Int.mul_ne_zero hd (by omega)

/-! ### What an estimate leaves -/

theorem handLock_told (n : Node) (before : Option LockState) : ModesTold n (n.handLock before) :=
  modesTold_of_same (by simp) (by rw [handLock_cmu]; rfl) (by simp)

theorem applyEstimate_told (n : Node) (m : Mode) (rm : Int) : ModesTold n (n.applyEstimate m rm) :=
  ((putCmu_told n _).trans (handLock_told _ _)).trans (setWanted_told _ _)

/-- The velocity that the law wants after an estimate. -/
def lawWanted (n : Node) (m : Mode) (rm : Int) : Int :=
  lawVelocity n.tsg.wanted (lawFactor (n.gain m) n.cmu.rate rm) n.img.drive.vMin n.img.drive.vMax n.cmu.direction

theorem applyEstimate_tsg (n : Node) (m : Mode) (rm : Int) : (n.applyEstimate m rm).tsg =
    { n.tsg with wanted := if n.testInProgress then lawWanted n m rm else n.tsg.wanted } := by
  let k := (n.putCmu (estimated n rm)).handLock n.cmu.lock
  have calm : Calm n k := by simp [k]
  have going : k.testInProgress = n.testInProgress := by simp only [Node.testInProgress, calm.test]
  have drive : k.tsg = n.tsg := by simp [k]
  have taken : (n.applyEstimate m rm).tsg = (k.setWanted (lawWanted n m rm)).tsg := rfl
  rw [taken, setWanted_tsg, going, drive]

theorem gain_eq (n : Node) (m : Mode) :
    n.gain m = if m = .loadRate then n.img.control.gainLoad else n.img.control.gainStrain := by
  cases m <;> rfl

/-- Settles O38: the lock table entry by entry, its notice, and the law's velocity. -/
theorem estimateUpdatesLockAndVelocity : Obligations.EstimateUpdatesLockAndVelocity := by
  intro n mode rm m c rt band count dev g fq v
  have rate : c.rate = rt := rate_eq c
  have told : ModesTold n m := applyEstimate_told n mode rm
  have cmu : m.cmu = _ := applyEstimate_cmu n mode rm
  have lock : m.cmu.lock = (c.updateLock rm band count).lock := by rw [cmu]; rfl
  have inBand : m.cmu.inBand = (c.updateLock rm band count).inBand := by rw [cmu]; rfl
  have outBand : m.cmu.outBand = (c.updateLock rm band count).outBand := by rw [cmu]; rfl
  obtain ⟨requested, established⟩ := updateLock_modes c rm band count
  have tsg : m.tsg = _ := applyEstimate_tsg n mode rm
  have law : lawWanted n mode rm = c.direction * clamp n.img.drive.vMin n.img.drive.vMax v.natAbs := by
    simp only [lawWanted, gain_eq, show n.cmu.rate = rt from rate]
    rfl
  rw [lock, inBand, outBand]
  refine ⟨fun hl hb => ?_, fun hl hb => ?_, fun hl hb => ?_, fun hl hb => ?_, fun changed => ?_,
    law ▸ tsg, fun going least h hd => ?_, ?_, ?_, ?_⟩
  · rw [updateLock_of_inBand count hl (by rw [rate]; exact hb)]
    exact ⟨fun full => by rw [if_pos full]; exact ⟨rfl, rfl⟩, fun more => by rw [if_neg more]; exact ⟨hl, rfl⟩⟩
  · rw [updateLock_of_outOfBand count hl (by rw [rate]; exact hb)]
    exact ⟨hl, rfl⟩
  · rw [updateLock_of_outsideTwice count hl (by rw [rate]; exact hb)]
    exact ⟨fun full => by rw [if_pos full]; exact ⟨rfl, rfl⟩, fun more => by rw [if_neg more]; exact ⟨hl, rfl⟩⟩
  · rw [updateLock_of_insideTwice count hl (by rw [rate]; exact hb)]
    exact ⟨hl, rfl⟩
  · exact told.told fun same => changed (lock.symm.trans (congrArg (·.2.2) same))
  · rw [tsg, if_pos going]
    exact lawVelocity_ne_zero _ _ least h hd
  · rw [cmu]; exact requested
  · rw [cmu]; exact established
  · rw [cmu]; rfl

end Sys2Proof.Proofs
end

section
/-! PROOFS. PAUSE taken in RUNNING and RESUME taken in PAUSED (R78, R99, R112, R124). -/
namespace Sys2Proof.Proofs
open Sys2Proof Sys2Proof.Machine Sys2Proof.Laws

/-! ### A change of the test state within a test (R116) -/

/-- The change of the test state alone, with its notice. -/
def testPut (n : Node) (t : TestState) : Node := (n.setSeq { n.seq with test := some t }).notice

/-- Within a test in progress a change of the test state reaches neither the control mode unit nor the extensometer
handler. -/
theorem setTest_of_progress (n : Node) {t : TestState} (ht : t = .running ∨ t = .paused) :
    n.setTest t = testPut n t := by
  have going : (testPut n t).testInProgress = true := by
    rcases ht with rfl | rfl <;> simp [testPut, Node.testInProgress]
  have stays : t.holds = false := by rcases ht with rfl | rfl <;> rfl
  have judged : (testPut n t).exhRejudge = testPut n t := by simp [Node.exhRejudge, going]
  simp only [Node.setTest, stays]
  exact judged

theorem notice_bus (n : Node) : n.notice.fbc = { n.fbc with stateSlot := n.notice.fbc.stateSlot } := by
  rw [notice_eq]
  split <;> rfl

@[simp] theorem testPut_frame (n : Node) (t : TestState) :
    (testPut n t).pins = n.pins ∧ (testPut n t).filters = n.filters ∧ (testPut n t).clk = n.clk ∧
    (testPut n t).sul = n.sul ∧ (testPut n t).lc = n.lc ∧ (testPut n t).tsg = n.tsg ∧
    (testPut n t).datums = n.datums ∧ (testPut n t).exh = n.exh ∧ (testPut n t).pta = n.pta ∧
    (testPut n t).cmu = n.cmu ∧ (testPut n t).seq = { n.seq with test := some t } ∧
    (testPut n t).hlt = n.hlt ∧ (testPut n t).evl = n.evl ∧ (testPut n t).hlm = n.hlm := by
  simp [testPut]

/-- Only the test state and the STATE slot change. -/
theorem testPut_eq (n : Node) (t : TestState) : testPut n t = { n with
    seq := { n.seq with test := some t }, fbc := { n.fbc with stateSlot := (testPut n t).fbc.stateSlot } } := by
  have bus : (testPut n t).fbc = { n.fbc with stateSlot := (testPut n t).fbc.stateSlot } :=
    notice_bus (n.setSeq { n.seq with test := some t })
  rw [← bus]
  apply node_ext <;> simp

theorem testPut_notified (n : Node) (t : TestState) : n.notified (testPut n t) :=
  fun ha => notice_notified (n.setSeq { n.seq with test := some t }) ha

theorem testPut_told (n : Node) {t : TestState} (ht : t ≠ .halted) : ModesTold n (testPut n t) where
  notices := by
    have put := notice_notices _ _ (.refl (n.setSeq { n.seq with test := some t }))
    exact ⟨put.clk, put.op, fun _ => by simp [Live, testPut, ht], put.haltSlot, put.breakSlot, put.loadSlot, put.state⟩
  told changed := absurd (by simp [testPut]) changed
  bus := notice_bus (n.setSeq { n.seq with test := some t })

theorem testPut_driveLive {n : Node} (t : TestState) (hd : n.roles.drive = true) :
    (testPut n t).driveLive = true := by
  rw [testPut_eq]
  exact hd

theorem testPut_idle {n : Node} (t : TestState) (hd : n.roles.drive = false) :
    (testPut n t).driveLive = false := by
  rw [testPut_eq]
  exact hd

/-! ### HOLD (R100) -/

theorem requestHold_told (n : Node) : ModesTold n n.requestHold := (setWanted_told n 0).trans (putCmu_told _ _)

theorem cmuHold_told (n : Node) : ModesTold n n.cmuHold := by
  unfold Node.cmuHold
  split
  · exact requestHold_told n
  · exact modesTold_of_same (.refl n) rfl rfl

theorem cmuHold_of_live {n : Node} (live : n.driveLive = true) : n.cmuHold = n.requestHold := if_pos live

theorem cmuHold_of_idle {n : Node} (h : n.driveLive = false) : n.cmuHold = n := if_neg (by simp [h])

theorem requestHold_tsg (n : Node) :
    n.requestHold.tsg = { n.tsg with wanted := if n.testInProgress then 0 else n.tsg.wanted } := by
  simp only [Node.requestHold, putCmu_frame, setWanted_tsg]

theorem requestHold_cmu (n : Node) : n.requestHold.cmu = n.cmu.replaced .hold := putCmu_cmu _ _

/-! ### The re-entry request (R99, R101, R112) -/

theorem requestCrosshead_tsg (n : Node) (v : Int) : (n.requestCrosshead v).tsg =
    { n.tsg with wanted := if n.testInProgress then v else n.tsg.wanted } := by
  simp only [Node.requestCrosshead, putCmu_frame, setWanted_tsg]

theorem requestCrosshead_cmu (n : Node) (v : Int) :
    (n.requestCrosshead v).cmu = { n.cmu.replaced .crossheadRate with reqVel := v } := putCmu_cmu _ _

theorem requestSegment_of_hold {f : SegFields} (n : Node) (advance : Bool) (h : f.mode = .hold) :
    n.requestSegment f advance = n.requestHold := by simp only [Node.requestSegment, h]

theorem requestSegment_of_crosshead {f : SegFields} (n : Node) (advance : Bool) (h : f.mode = .crossheadRate) :
    n.requestSegment f advance = n.requestCrosshead f.target := by simp only [Node.requestSegment, h]

theorem requestSegment_told (n : Node) (f : SegFields) (advance : Bool) :
    ModesTold n (n.requestSegment f advance) := by
  unfold Node.requestSegment
  split
  · exact requestHold_told n
  · exact requestCrosshead_told n _
  · exact requestClosed_told n f advance
  · exact requestClosed_told n f advance

/-- Under the fallback mark the fallback velocity is requested again (R112). -/
theorem cmuResume_of_fallback {n : Node} {v : Int} (f : SegFields) (live : n.driveLive = true)
    (mark : n.cmu.fallback = true) (hv : n.cmu.fallbackVel = some v) : n.cmuResume f = n.requestCrosshead v := by
  simp only [Node.cmuResume, live, mark, hv, if_true]

theorem cmuResume_of_unmarked {n : Node} (f : SegFields) (live : n.driveLive = true) (mark : n.cmu.fallback = false) :
    n.cmuResume f = n.requestSegment f false := by
  simp only [Node.cmuResume, live, mark, if_true]

theorem resumeRequest_of_open {n : Node} {e : Segment} (he : n.seq.openEntry = some e) :
    n.resumeRequest = n.cmuResume e.fields := by simp only [Node.resumeRequest, he]

theorem resumeRequest_of_none {n : Node} (he : n.seq.openEntry = none) : n.resumeRequest = n := by
  simp only [Node.resumeRequest, he]

theorem resumeRequest_told (n : Node) : ModesTold n n.resumeRequest := by
  unfold Node.resumeRequest Node.cmuResume
  repeat' split
  · exact requestCrosshead_told n _
  · exact requestSegment_told n _ _
  · exact modesTold_of_same (.refl n) rfl rfl
  · exact modesTold_of_same (.refl n) rfl rfl

/-! ### What a request leaves (R99, R114, R129) -/

/-- From `q` to `r` the cursor entry took a report, which leaves its status and its fields, and the rest stands. -/
structure Reported (q r : Seq) : Prop where
  rest : r = { q with segs := r.segs }
  others : ∀ j : Fin 32, j ≠ q.cursor → r.segs[j] = q.segs[j]
  status : r.cursorEntry.status = q.cursorEntry.status
  fields : r.cursorEntry.fields = q.cursorEntry.fields

theorem Reported.refl (q : Seq) : Reported q q := ⟨rfl, fun _ _ => rfl, rfl, rfl⟩

theorem Reported.cursor {q r : Seq} (h : Reported q r) : r.cursor = q.cursor := by rw [h.rest]

theorem Reported.trans {q r s : Seq} (h : Reported q r) (g : Reported r s) : Reported q s where
  rest := by rw [g.rest, h.rest]
  others j hj := (g.others j (by rw [h.cursor]; exact hj)).trans (h.others j hj)
  status := g.status.trans h.status
  fields := g.fields.trans h.fields

/-- The end condition is judged in RUNNING, of an OPEN entry, by its fields (R128). -/
theorem meets_eq (n : Node) (met : SegFields → Bool) : n.meets met = (n.seq.test == some .running &&
    (n.seq.cursorEntry.status == .opened && met n.seq.cursorEntry.fields)) := by
  by_cases h : n.seq.cursorEntry.status = .opened <;> simp [Node.meets, Seq.openEntry, h]

/-- An end condition that reads the fields of the OPEN entry is judged as before the report. -/
theorem Reported.meets {n m : Node} (h : Reported n.seq m.seq) (met : SegFields → Bool) :
    m.meets met = n.meets met := by
  have test : m.seq.test = n.seq.test := by rw [h.rest]
  simp only [meets_eq, test, h.status, h.fields]

theorem Reported.yieldMet {n m : Node} (h : Reported n.seq m.seq) (hs : m.sul = n.sul) :
    m.yieldMet = n.yieldMet := by
  have roles : m.roles = n.roles := by simp [Node.roles, hs]
  have seen : m.seq.yieldSeen = n.seq.yieldSeen := by rw [h.rest]
  simp only [Node.yieldMet, h.meets, roles, seen]

/-- What a request may change outside the control mode unit and the bus: the wanted velocity and the OPEN entry's
report. A LOCK-TIMEOUT on its way stays. -/
structure Requests (n m : Node) : Prop where
  tsg : m.tsg = { n.tsg with wanted := m.tsg.wanted }
  seq : Reported n.seq m.seq
  late : m.cmu.lateTimeout = n.cmu.lateTimeout

theorem Requests.trans {n m k : Node} (h : Requests n m) (g : Requests m k) : Requests n k where
  tsg := by rw [g.tsg, h.tsg]
  seq := h.seq.trans g.seq
  late := g.late.trans h.late

theorem Requests.refl (n : Node) : Requests n n := ⟨rfl, .refl _, rfl⟩

theorem setWanted_requests (n : Node) (v : Int) : Requests n (n.setWanted v) := by
  unfold Node.setWanted
  split
  · exact ⟨rfl, .refl _, rfl⟩
  · exact .refl n

theorem putCmu_requests (n : Node) {c : Cmu} (h : c.lateTimeout = n.cmu.lateTimeout) : Requests n (n.putCmu c) := by
  refine ⟨by simp, ?_, by rw [putCmu_cmu, h]⟩
  rw [show (n.putCmu c).seq = n.seq by simp]
  exact .refl _

theorem setCmu_requests (n : Node) {c : Cmu} (h : c.lateTimeout = n.cmu.lateTimeout) : Requests n (n.setCmu c) :=
  ⟨rfl, .refl _, h⟩

theorem reportFlag_requests (n : Node) (f : Summary → Summary) : Requests n (n.reportFlag f) := by
  refine ⟨by simp, ?_, by simp⟩
  cases he : n.seq.openEntry with
  | none =>
    rw [show (n.reportFlag f).seq = n.seq from reportSeg_of_none _ he]
    exact .refl _
  | some e =>
    have entry : n.seq.cursorEntry = e := (openEntry_some he).1
    have seq : (n.reportFlag f).seq = _ := reportSeg_of_open _ he
    refine ⟨by rw [seq]; rfl, fun j hj => ?_, ?_, ?_⟩
    · rw [seq, setEntry_segs, if_neg (Ne.symm hj)]
    · rw [seq, setCursor_entry, entry]
    · rw [seq, setCursor_entry, entry]

theorem requestHold_requests (n : Node) : Requests n n.requestHold :=
  (setWanted_requests n 0).trans (putCmu_requests _ (by simp [Cmu.replaced, Cmu.stopLaw]))

theorem cmuHold_requests (n : Node) : Requests n n.cmuHold := by
  unfold Node.cmuHold
  split
  · exact requestHold_requests n
  · exact .refl n

theorem requestCrosshead_requests (n : Node) (v : Int) : Requests n (n.requestCrosshead v) :=
  (setWanted_requests n v).trans (putCmu_requests _ (by simp [Cmu.replaced, Cmu.stopLaw]))

theorem fallBack_requests (n : Node) (v : Int) : Requests n (n.fallBack v) := by
  let fallen : Cmu := { (n.requestCrosshead v).cmu with fallback := true, fallbackVel := some v }
  have marked := (requestCrosshead_requests n v).trans (setCmu_requests _ (c := fallen) rfl)
  exact marked.trans (reportFlag_requests _ fun s => { s with fallback := true })

theorem enterClosed_requests (n : Node) (m : Mode) : Requests n (n.enterClosed m) := putCmu_requests n rfl

theorem entryStepTo_requests (n : Node) (m : Mode) : Requests n (n.entryStepTo m) :=
  (setWanted_requests n _).trans (putCmu_requests _ (by simp [Cmu.replaced, Cmu.stopLaw]))

theorem requestClosed_requests (n : Node) (f : SegFields) (advance : Bool) :
    Requests n (n.requestClosed f advance) := by
  have parameters : Requests n (n.setCmu (n.cmu.withClosed f)) := setCmu_requests n rfl
  have replaced (m : Node) : Requests m (m.putCmu (m.cmu.replaced f.mode)) := putCmu_requests m rfl
  simp only [Node.requestClosed]
  split
  · exact parameters.trans (fallBack_requests _ _)
  · split
    · exact parameters.trans ((replaced _).trans (enterClosed_requests _ _))
    · exact parameters.trans (entryStepTo_requests _ _)

theorem requestSegment_requests (n : Node) (f : SegFields) (advance : Bool) :
    Requests n (n.requestSegment f advance) := by
  unfold Node.requestSegment
  split
  · exact requestHold_requests n
  · exact requestCrosshead_requests n _
  · exact requestClosed_requests n f advance
  · exact requestClosed_requests n f advance

theorem resumeRequest_requests (n : Node) : Requests n n.resumeRequest := by
  unfold Node.resumeRequest Node.cmuResume
  repeat' split
  · exact requestCrosshead_requests n _
  · exact requestSegment_requests n _ _
  · exact .refl n
  · exact .refl n

/-! ### PAUSE and RESUME (R124) -/

theorem takePause_of_running {n : Node} (f : RxFrame) (ha : n.active = true) (ht : n.seq.test = some .running) :
    n.takePause f = (testPut n .paused).cmuHold := by
  simp only [Node.takePause, ha, ht, if_true, setTest_of_progress n (.inr rfl)]

/-- What a PAUSE leaves. -/
theorem paused_leaves (n : Node) : let m := (testPut n .paused).cmuHold
    m = { n with seq := { n.seq with test := some .paused }, tsg := { n.tsg with wanted := m.tsg.wanted }
                 cmu := m.cmu, fbc := { n.fbc with stateSlot := m.fbc.stateSlot } } ∧ n.notified m := by
  intro m
  have told : ModesTold n m := (testPut_told n (by decide)).trans (cmuHold_told _)
  have tsg : m.tsg = { n.tsg with wanted := m.tsg.wanted } := by
    simpa only [testPut_frame] using (cmuHold_requests (testPut n .paused)).tsg
  refine ⟨?_, ?_⟩
  · rw [← told.bus, ← tsg]
    apply node_ext <;> simp [m]
  · exact (cmuHold_told _).notices.keeps_notified (by simp) (testPut_notified n .paused)

/-- A PAUSE requests HOLD in a DRIVE node. -/
theorem paused_holds {n : Node} (hd : n.roles.drive = true) : let m := (testPut n .paused).cmuHold
    m.tsg.wanted = 0 ∧ m.cmu = n.cmu.replaced .hold := by
  intro m
  have held : m = (testPut n .paused).requestHold := cmuHold_of_live (testPut_driveLive .paused hd)
  have going : (testPut n .paused).testInProgress = true := by simp [Node.testInProgress]
  rw [held, requestHold_tsg, requestHold_cmu, if_pos going]
  simp

theorem yieldMet_eq_false {n : Node} (h : ∀ e, n.seq.openEntry = some e →
    e.fields.endKind ≠ .yieldSeen ∨ n.seq.yieldSeen = false ∨ n.roles.eval = false) : n.yieldMet = false := by
  unfold Node.yieldMet Node.meets
  cases he : n.seq.openEntry with
  | none => simp
  | some e => rcases h e he with h | h | h <;> simp [h]

/-- A RESUME re-enters the OPEN segment, which does not end here. -/
theorem takeResume_of_paused {n : Node} (f : RxFrame) (ha : n.active = true) (ht : n.seq.test = some .paused)
    (stays : ∀ e, n.seq.openEntry = some e →
      e.fields.endKind ≠ .yieldSeen ∨ n.seq.yieldSeen = false ∨ n.roles.eval = false) :
    n.takeResume f = (testPut n .running).resumeRequest := by
  let k := testPut n .running
  have unmet : k.resumeRequest.yieldMet = false := by
    rw [(resumeRequest_requests k).seq.yieldMet (by simp)]
    exact yieldMet_eq_false (n := k) (by simpa [k, Node.roles, Seq.openEntry, Seq.cursorEntry] using stays)
  have resumes : n.resumed = k.resumeRequest := by
    simp only [Node.resumed, setTest_of_progress n (.inl rfl)]
    exact if_neg (by simp [k, unmet])
  simp only [Node.takeResume, ha, ht, if_true, resumes, k]

/-- What a RESUME leaves, whatever it requests. -/
theorem resumed_leaves (n : Node) : let m := (testPut n .running).resumeRequest
    m.seq.test = some .running ∧ n.notified m ∧ m.seq.cursor = n.seq.cursor ∧ m.seq.order = n.seq.order ∧
      m.seq.pauseTime = n.seq.pauseTime ∧ m.tsg = { n.tsg with wanted := m.tsg.wanted } := by
  intro m
  have requests : Requests (testPut n .running) m := resumeRequest_requests _
  have seq := requests.seq.rest
  have tsg := requests.tsg
  simp only [testPut_frame] at seq tsg
  have told := resumeRequest_told (testPut n .running)
  refine ⟨by rw [seq], told.notices.keeps_notified (by simp) (testPut_notified n .running), by rw [seq],
    by rw [seq], by rw [seq], tsg⟩

/-! ### The modes that a RESUME requests (R99, R112) -/

section
variable {n : Node} {f : SegFields}

theorem requestCrosshead_of_progress (v : Int) (going : n.testInProgress = true) :
    (n.requestCrosshead v).tsg.wanted = v ∧ (n.requestCrosshead v).cmu.requested = .crossheadRate := by
  rw [requestCrosshead_tsg, requestCrosshead_cmu, if_pos going]
  exact ⟨rfl, rfl⟩

theorem requestHold_of_progress (going : n.testInProgress = true) :
    n.requestHold.tsg.wanted = 0 ∧ n.requestHold.cmu.requested = .hold := by
  rw [requestHold_tsg, requestHold_cmu, if_pos going]
  exact ⟨rfl, rfl⟩

/-- A closed mode is re-entered by its entry step: the direct path is for an advance (R102). -/
theorem reentry_of_fit (going : n.testInProgress = true) (closed : f.mode.closed = true)
    (fit : n.sourceUnfit f.mode = false) : let m := n.requestSegment f false
    m.tsg.wanted = f.entryVel ∧ m.cmu.requested = f.mode ∧ m.cmu.entryStep = true ∧ m.cmu.lock = none := by
  intro m
  have path : m = (parametered n f).entryStepTo f.mode :=
    (requestSegment_of_closed n false closed).trans (requestClosed_of_entryStep fit Bool.false_ne_true)
  have going' : (parametered n f).testInProgress = true := going
  rw [path, entryStepTo_tsg, entryStepTo_cmu, if_pos going']
  exact ⟨rfl, rfl, rfl, rfl⟩

/-- With an unfit source the re-entry falls back at the entry velocity, and the OPEN entry is told. -/
theorem reentry_of_unfit {e : Segment} (going : n.testInProgress = true) (closed : f.mode.closed = true)
    (unfit : n.sourceUnfit f.mode = true) (he : n.seq.openEntry = some e) : let m := n.requestSegment f false
    m.tsg.wanted = f.entryVel ∧ m.cmu.requested = .crossheadRate ∧ m.cmu.entryStep = false ∧
      m.cmu.lock = none ∧ m.cmu.fallback = true ∧ m.cmu.fallbackVel = some f.entryVel ∧
      m.seq.segs[n.seq.cursor].summary.fallback = true := by
  intro m
  have path : m = (parametered n f).fallBack f.entryVel :=
    (requestSegment_of_closed n false closed).trans (requestClosed_of_unfit false unfit)
  have going' : (parametered n f).testInProgress = true := going
  have told : m.seq = _ := path ▸ (fallBack_seq _ _).trans (reportSeg_of_open (n := parametered n f) _ he)
  refine ⟨?_, ?_, ?_, ?_, ?_, ?_, ?_⟩
  · rw [path, fallBack_tsg, if_pos going']
  · rw [path, fallBack_cmu]; rfl
  · rw [path, fallBack_cmu]; rfl
  · rw [path, fallBack_cmu]; rfl
  · rw [path, fallBack_cmu]
  · rw [path, fallBack_cmu]
  · rw [told]
    exact congrArg (·.summary.fallback) (setCursor_entry n.seq _)

end

/-- Settles O43: PAUSE requests HOLD, and RESUME requests by the mark and by the mode of the OPEN segment. -/
theorem pauseAndResumeTaken : Obligations.PauseAndResumeTaken := by
  intro n q f ha
  have before := popped_notices n
  refine ⟨fun hd ht => ?_, fun hd ht stays => ?_⟩
  · obtain ⟨leaves, state⟩ := paused_leaves n.popped
    refine ⟨_, by rw [exec_of_delivers q rfl hd, takePause_of_running (n := n.popped) f ha ht], leaves,
      before.notified_before state, fun drive => ?_, fun idle => ?_⟩
    · obtain ⟨wanted, cmu⟩ := paused_holds (n := n.popped) drive
      rw [cmu]
      exact ⟨wanted, rfl, rfl, rfl, rfl⟩
    · rw [cmuHold_of_idle (testPut_idle .paused (n := n.popped) idle)]
      simp
  · let k := testPut n.popped .running
    have kOpen : k.seq.openEntry = n.seq.openEntry := by
      simp only [k, testPut_frame]
      rfl
    have kCmu : k.cmu = n.cmu := by simp [k]
    have kUnfit (mode : Mode) : k.sourceUnfit mode = n.sourceUnfit mode := by
      rw [show k = _ from testPut_eq n.popped .running]
      rfl
    have going : k.testInProgress = true := by simp [k, Node.testInProgress]
    obtain ⟨test, state, cursor, order, pause, tsg⟩ := resumed_leaves n.popped
    refine ⟨_, by rw [exec_of_delivers q rfl hd, takeResume_of_paused (n := n.popped) f ha ht stays], test,
      before.notified_before state, cursor, order, pause, tsg, fun closed => ?_, fun e drive he => ?_,
      by simp, by simp, by simp, by simp, by simp, by simp⟩
    · rw [show k.resumeRequest = k from resumeRequest_of_none (kOpen.trans closed)]
      exact ⟨by simp [k], kCmu⟩
    · have live : k.driveLive = true := testPut_driveLive .running drive
      have reenters (mark : n.cmu.fallback = false) : k.resumeRequest = k.requestSegment e.fields false :=
        (resumeRequest_of_open (kOpen.trans he)).trans (cmuResume_of_unmarked _ live (kCmu ▸ mark))
      refine ⟨fun v mark hv => ?_, fun mark mode => ?_, fun mark mode => ?_, fun mark closed fit => ?_,
        fun mark closed unfit => ?_⟩
      · rw [show k.resumeRequest = k.requestCrosshead v from (resumeRequest_of_open (kOpen.trans he)).trans
          (cmuResume_of_fallback _ live (kCmu ▸ mark) (kCmu ▸ hv))]
        exact requestCrosshead_of_progress v going
      · rw [reenters mark, requestSegment_of_hold k false mode]
        exact requestHold_of_progress going
      · rw [reenters mark, requestSegment_of_crosshead k false mode]
        exact requestCrosshead_of_progress e.fields.target going
      · rw [reenters mark]
        exact reentry_of_fit going closed ((kUnfit _).trans fit)
      · have kCursor : k.seq.cursor = n.seq.cursor := by simp [k]
        rw [reenters mark]
        simpa only [kCursor] using reentry_of_unfit going closed ((kUnfit _).trans unfit) (kOpen.trans he)

end Sys2Proof.Proofs
end

section
/-! PROOFS. The timers of the control mode unit, the sequencer and the evaluator: the lock timer, the segment clock and
the drain limit (R78, R110, R114, R127, R128, R130, R131, R170, R171, R173). -/
namespace Sys2Proof.Proofs
open Sys2Proof Sys2Proof.Machine Sys2Proof.Laws

/-! ### The lock timer (R110, R114) -/

/-- The mark that a LOCK-TIMEOUT leaves in the OPEN entry. -/
def lockTimedOut (s : Summary) : Summary := { s with lockTimeout := true }

theorem lockTimeout_of_acquiring {n : Node} (h : n.cmu.lock = some .acquiring) :
    n.lockTimeout = (n.setCmu { n.cmu with lockAt := none }).reportFlag lockTimedOut := if_pos h

theorem lockTimeout_of_other {n : Node} (h : n.cmu.lock ≠ some .acquiring) :
    n.lockTimeout = n.setCmu { n.cmu with lockAt := none } := if_neg h

theorem lockTimer_of_due {n : Node} (live : n.driveLive = true) (late : n.cmu.lateTimeout = false)
    (h : due n.now n.cmu.lockAt = true) : n.lockTimer = n.lockTimeout := by
  simp only [Node.lockTimer, live, late, h, if_true]
  rfl

theorem lockTimer_of_late {n : Node} (live : n.driveLive = true) (late : n.cmu.lateTimeout = true) :
    n.lockTimer = n.lateLockTimeout := by
  simp only [Node.lockTimer, live, late, if_true]

theorem reportSeg_eq_of_open {n : Node} {e : Segment} (f : Segment → Segment) (he : n.seq.openEntry = some e) :
    n.reportSeg f = n.setSeq (n.seq.setEntry n.seq.cursor (f e)) := by
  simp only [Node.reportSeg, he]

theorem reportSeg_eq_of_none {n : Node} (f : Segment → Segment) (he : n.seq.openEntry = none) :
    n.reportSeg f = n := by
  simp only [Node.reportSeg, he]

/-! ### The segment clock (R127, R128) -/

theorem openEntry_setCursor (q : Seq) {e : Segment} (h : e.status = .opened) :
    (q.setEntry q.cursor e).openEntry = some e := by
  have entry := setCursor_entry q e
  unfold Seq.openEntry
  rw [entry, h]
  rfl

/-- The node whose OPEN entry has counted one more expiry. -/
def clocked (n : Node) (e : Segment) : Node :=
  n.setSeq (n.seq.setEntry n.seq.cursor { e with elapsed := e.elapsed + 1 })

theorem clocked_open {n : Node} {e : Segment} (he : n.seq.openEntry = some e) :
    (clocked n e).seq.openEntry = some { e with elapsed := e.elapsed + 1 } :=
  openEntry_setCursor n.seq (openEntry_some he).2

theorem segmentClock_of_open {n : Node} {e : Segment} (ht : n.seq.test = some .running)
    (he : n.seq.openEntry = some e) : n.segmentClock = (clocked n e).watchTime := by
  simp only [Node.segmentClock, ht, reportSeg_eq_of_open _ he]
  rfl

/-- A TIME-AT-LEAST is judged by the count (R128). -/
theorem watchTime_of_open {n : Node} {e : Segment} (ht : n.seq.test = some .running)
    (he : n.seq.openEntry = some e) : n.watchTime =
      if e.fields.endKind = .timeAtLeast ∧ e.fields.endValue ≤ e.elapsed then n.closeAndGoOn else n := by
  simp only [Node.watchTime, Node.judgeEnd, Node.meets, ht, he]
  simp

theorem watchTime_of_none {n : Node} (he : n.seq.openEntry = none) : n.watchTime = n := by
  simp [Node.watchTime, Node.judgeEnd, Node.meets, he]

/-! ### The close (R130, R133) -/

theorem closeOpen_of_none {n : Node} (c : CloseCause) (t : Time) (he : n.seq.openEntry = none) :
    n.closeOpen c t = n := by simp only [Node.closeOpen, he]

theorem closeOpen_others (n : Node) (c : CloseCause) (t : Time) {j : Fin 32} (hj : j ≠ n.seq.cursor) :
    (n.closeOpen c t).seq.segs[j] = n.seq.segs[j] := by
  unfold Node.closeOpen
  split
  · simp only [setSeq_fields, setEntry_segs, if_neg (Ne.symm hj)]
  · rfl

theorem openEntry_of_not_opened {q : Seq} (h : q.cursorEntry.status ≠ .opened) : q.openEntry = none :=
  if_neg (by simpa using h)

theorem closeOpen_not_open (n : Node) (c : CloseCause) (t : Time) : (n.closeOpen c t).seq.openEntry = none := by
  cases he : n.seq.openEntry with
  | none => rw [closeOpen_of_none c t he, he]
  | some e =>
    simp only [Node.closeOpen, he, setSeq_fields]
    refine openEntry_of_not_opened ?_
    rw [setCursor_entry]
    exact SegStatus.noConfusion

theorem closeByCondition_seq (n : Node) : n.closeByCondition.seq = (n.closeOpen .condition n.now).seq := by
  simp [Node.closeByCondition]

theorem nextLoaded_ne {n : Node} {i : Fin 32} (h : n.nextLoaded = some i) : i ≠ n.seq.cursor := by
  have next := nextLoaded_val h
  rintro rfl
  omega

theorem nextLoaded_congr {n m : Node} (hc : m.seq.cursor = n.seq.cursor)
    (hs : ∀ j : Fin 32, j ≠ n.seq.cursor → m.seq.segs[j] = n.seq.segs[j]) : m.nextLoaded = n.nextLoaded := by
  unfold Node.nextLoaded
  rw [hc]
  cases h : nextIndex n.seq.cursor with
  | none => rfl
  | some i =>
    have next := nextIndex_some h
    have away : i ≠ n.seq.cursor := by
      rintro rfl
      omega
    simp only [hs i away]

/-! ### The opening (R114, R127) -/

/-- The entry as an opening writes it. -/
def openedEntry (n : Node) (i : Fin 32) (starved : Bool) : Segment := { n.seq.segs[i] with
  status := .opened, openTime := n.now, elapsed := 0, firstLock := none
  summary := { starvedBefore := starved }, outcome := none }

/-- The node whose cursor has moved onto the opened entry, before the control mode unit is told. -/
def movedTo (n : Node) (i : Fin 32) (starved : Bool) : Node :=
  n.setSeq { n.seq.setEntry i (openedEntry n i starved) with cursor := i }

theorem openAt_eq (n : Node) (i : Fin 32) (starved advance : Bool) : n.openAt i starved advance =
    ((movedTo n i starved).cmuOpen n.seq.segs[i].fields advance (n.seq.test == some .paused)).notice := rfl

theorem cmuOpen_reported (n : Node) (f : SegFields) (advance pause : Bool) :
    Reported n.seq (n.cmuOpen f advance pause).seq := by
  simp only [Node.cmuOpen]
  repeat' split
  · exact .refl _
  · exact (requestSegment_requests (n.setCmu (n.cmu.opened n.now)) f advance).seq
  · exact .refl _

/-- A LOCK-TIMEOUT that falls together with the close is on its way to the segment opened (R114). -/
theorem cmuOpen_late {n : Node} (f : SegFields) (advance pause : Bool) (live : n.driveLive = true)
    (hl : n.cmu.lock = some .acquiring) (hd : due n.now n.cmu.lockAt = true) :
    (n.cmuOpen f advance pause).cmu.lateTimeout = true := by
  let k := n.setCmu (n.cmu.opened n.now)
  have late : k.cmu.lateTimeout = true := by
    simp only [k, setCmu_fields, Cmu.opened, Cmu.timeoutDue, hl, hd]
    simp
  have opens : n.cmuOpen f advance pause = if pause then k else k.requestSegment f advance := if_pos live
  rw [opens]
  split
  · exact late
  · exact (requestSegment_requests k f advance).late.trans late

theorem openAt_reported (n : Node) (i : Fin 32) (starved advance : Bool) :
    Reported (movedTo n i starved).seq (n.openAt i starved advance).seq := by
  simp only [openAt_eq, notice_frame]
  exact cmuOpen_reported _ _ _ _

theorem openAt_cursor (n : Node) (i : Fin 32) (starved advance : Bool) :
    (n.openAt i starved advance).seq.cursor = i := (openAt_reported n i starved advance).cursor

theorem openAt_others (n : Node) {i j : Fin 32} (starved advance : Bool) (hj : j ≠ i) :
    (n.openAt i starved advance).seq.segs[j] = n.seq.segs[j] := by
  refine ((openAt_reported n i starved advance).others j hj).trans ?_
  exact (setEntry_segs n.seq i j _).trans (if_neg (Ne.symm hj))

theorem openAt_opened (n : Node) (i : Fin 32) (starved advance : Bool) :
    (n.openAt i starved advance).seq.segs[i].status = .opened := by
  have reported := openAt_reported n i starved advance
  have status : _ = SegStatus.opened := reported.status.trans (congrArg Segment.status (moveOn_entry n.seq i _))
  simpa only [Seq.cursorEntry, openAt_cursor] using status

theorem openAt_notified (n : Node) (i : Fin 32) (starved advance : Bool) :
    n.notified (n.openAt i starved advance) := by
  have moved : Notices n (movedTo n i starved) := setSeq_notices _ _ _ (.refl n) rfl rfl
  have told := cmuOpen_notices _ _ n.seq.segs[i].fields advance (n.seq.test == some .paused) moved
  exact told.notified_before (notice_notified _)

theorem openAt_stays {n : Node} {i : Fin 32} (starved advance : Bool) (ht : n.seq.test = some .running)
    (h : n.staysOpen n.seq.segs[i].fields) : (n.openAt i starved advance).yieldMet = false := by
  rw [(openAt_reported n i starved advance).yieldMet (by simp [movedTo])]
  refine yieldMet_eq_false fun e he => ?_
  have entry : e = openedEntry n i starved :=
    (openEntry_some he).1.symm.trans (moveOn_entry n.seq i (openedEntry n i starved))
  rw [entry]
  rcases h with h | h | h | h
  · exact .inl h
  · exact .inr (.inl h)
  · exact .inr (.inr h)
  · exact absurd ht h

theorem openAt_late {n : Node} (i : Fin 32) (starved advance : Bool) (live : n.driveLive = true)
    (hl : n.cmu.lock = some .acquiring) (hd : due n.now n.cmu.lockAt = true) :
    (n.openAt i starved advance).cmu.lateTimeout = true := by
  simp only [openAt_eq, notice_frame]
  exact cmuOpen_late (n := movedTo n i starved) _ _ _ live hl hd

/-! ### Going on (R131) -/

theorem goOn_of_last {n : Node} (j : Nat) (b : Bool) (h : n.seq.cursorEntry.fields.last = true) :
    Node.goOn (j + 1) b n = n.enterEnded .lastSegment .condition := if_pos h

theorem goOn_of_none {n : Node} (j : Nat) (b : Bool) (h : n.seq.cursorEntry.fields.last = false)
    (hn : n.nextLoaded = none) : Node.goOn (j + 1) b n = n.cmuHold := by
  simp [Node.goOn, h, hn]

theorem goOn_of_loaded {n : Node} {i : Fin 32} (j : Nat) (b : Bool) (h : n.seq.cursorEntry.fields.last = false)
    (hn : n.nextLoaded = some i) : Node.goOn (j + 1) b n =
      if (n.openAt i b (!b)).yieldMet then Node.goOn j false (n.openAt i b (!b)).closeByCondition
      else n.openAt i b (!b) := by
  simp [Node.goOn, h, hn]

/-- Where the cursor entry is not OPEN, going on writes no entry up to the cursor. -/
theorem goOn_keeps (k : Nat) (b : Bool) (n : Node) (he : n.seq.openEntry = none) {j : Fin 32}
    (hj : j.val ≤ n.seq.cursor.val) : (Node.goOn k b n).seq.segs[j] = n.seq.segs[j] := by
  induction k generalizing b n with
  | zero => rfl
  | succ k ih =>
    cases last : n.seq.cursorEntry.fields.last with
    | true => simp only [goOn_of_last k b last, enterEnded_effect, closeOpen_of_none _ _ he]
    | false =>
      cases hi : n.nextLoaded with
      | none => simp [goOn_of_none k b last hi]
      | some i =>
        have next := nextLoaded_val hi
        have away : j ≠ i := by
          rintro rfl
          omega
        have opened := openAt_others n b (!b) away
        rw [goOn_of_loaded k b last hi]
        split
        · have cursor := openAt_cursor n i b (!b)
          have closed : (n.openAt i b (!b)).closeByCondition.seq.segs[j] = n.seq.segs[j] := by
            rw [closeByCondition_seq, closeOpen_others _ _ _ (by rw [cursor]; exact away), opened]
          rw [ih, closed]
          · rw [closeByCondition_seq, closeOpen_not_open]
          · simp only [closeByCondition_seq, closeOpen_effect, cursor]
            omega
        · exact opened

/-- The entry that a close with CONDITION closes stands so, whatever the sequencer goes on to. -/
theorem closeAndGoOn_closedBy (n : Node) : n.closedBy n.closeAndGoOn .condition n.now := by
  intro e he
  have closed := closeOpen_closedBy n .condition n.now e he
  have kept : n.closeAndGoOn.seq.segs[n.seq.cursor] = n.closeByCondition.seq.segs[n.seq.cursor] := by
    refine goOn_keeps _ _ _ ?_ ?_
    · rw [closeByCondition_seq, closeOpen_not_open]
    · simp [closeByCondition_seq]
  rw [kept, closeByCondition_seq]
  exact closed

section
variable {n : Node} {e : Segment}

theorem closeByCondition_fields (he : n.seq.openEntry = some e) :
    n.closeByCondition.seq.cursorEntry.fields = e.fields := by
  simp only [closeByCondition_seq, Node.closeOpen, he, setSeq_fields, setCursor_entry]

theorem closeByCondition_others {j : Fin 32} (hj : j ≠ n.seq.cursor) :
    n.closeByCondition.seq.segs[j] = n.seq.segs[j] := by
  rw [closeByCondition_seq, closeOpen_others _ _ _ hj]

theorem closeByCondition_nextLoaded (n : Node) : n.closeByCondition.nextLoaded = n.nextLoaded :=
  nextLoaded_congr (by simp [closeByCondition_seq]) fun _ => closeByCondition_others

/-- LAST ends the test. -/
theorem closeAndGoOn_of_last (he : n.seq.openEntry = some e) (last : e.fields.last = true) :
    n.closeAndGoOn = n.closeByCondition.enterEnded .lastSegment .condition :=
  goOn_of_last _ _ (closeByCondition_fields he ▸ last)

/-- With no entry LOADED after it the test is STARVED. -/
theorem closeAndGoOn_of_none (he : n.seq.openEntry = some e) (last : e.fields.last = false)
    (hn : n.nextLoaded = none) : n.closeAndGoOn = n.closeByCondition.cmuHold :=
  goOn_of_none _ _ (closeByCondition_fields he ▸ last) ((closeByCondition_nextLoaded n).trans hn)

/-- A LOADED entry that stays open is opened on advance. -/
theorem closeAndGoOn_of_loaded {i : Fin 32} (ht : n.seq.test = some .running) (he : n.seq.openEntry = some e)
    (last : e.fields.last = false) (hn : n.nextLoaded = some i) (stays : n.staysOpen n.seq.segs[i].fields) :
    n.closeAndGoOn = n.closeByCondition.openAt i false true := by
  have stays' : n.closeByCondition.staysOpen n.closeByCondition.seq.segs[i].fields := by
    rw [closeByCondition_others (nextLoaded_ne hn)]
    simpa [Node.staysOpen, closeByCondition_seq, Node.roles] using stays
  refine (goOn_of_loaded _ _ (closeByCondition_fields he ▸ last)
    ((closeByCondition_nextLoaded n).trans hn)).trans (if_neg ?_)
  rw [Bool.not_eq_true]
  exact openAt_stays _ _ (by simpa [closeByCondition_seq] using ht) stays'

theorem closeAndGoOn_ends (he : n.seq.openEntry = some e) (last : e.fields.last = true) :
    n.closeAndGoOn.seq.test = some .ended ∧ n.closeAndGoOn.seq.endCause = some .lastSegment ∧
      n.notified n.closeAndGoOn := by
  have before : Notices n n.closeByCondition := closeByCondition_notices _ _ (.refl n)
  rw [closeAndGoOn_of_last he last]
  exact ⟨by simp, by simp, before.notified_before (enterEnded_notified _ _ _)⟩

theorem closeAndGoOn_starves (he : n.seq.openEntry = some e) (last : e.fields.last = false)
    (hn : n.nextLoaded = none) :
    n.closeAndGoOn.seq.test = n.seq.test ∧ n.closeAndGoOn.seq.cursor = n.seq.cursor := by
  simp [closeAndGoOn_of_none he last hn, closeByCondition_seq]

/-- The entry opened on advance is announced, and it takes the LOCK-TIMEOUT that falls together with the close. -/
theorem closeAndGoOn_opens {i : Fin 32} (ht : n.seq.test = some .running) (he : n.seq.openEntry = some e)
    (last : e.fields.last = false) (hn : n.nextLoaded = some i) (stays : n.staysOpen n.seq.segs[i].fields) :
    let m := n.closeAndGoOn
    m.seq.test = some .running ∧ m.seq.cursor = i ∧ m.seq.segs[i].status = .opened ∧ n.notified m ∧
      (n.driveLive = true → n.cmu.lock = some .acquiring → due n.now n.cmu.lockAt = true →
        m.cmu.lateTimeout = true) := by
  have before : Notices n n.closeByCondition := closeByCondition_notices _ _ (.refl n)
  rw [closeAndGoOn_of_loaded ht he last hn stays]
  refine ⟨?_, openAt_cursor _ _ _ _, openAt_opened _ _ _ _, before.notified_before (openAt_notified _ _ _ _),
    fun live hl hd => openAt_late i false true ?_ ?_ ?_⟩
  · rw [openAt_test]
    simpa [closeByCondition_seq] using ht
  · simpa [Node.driveLive, Node.inService, Node.roles, closeByCondition_seq] using live
  · simpa using hl
  · simpa using hd

end

/-! ### The drain limit (R170, R171, R173) -/

/-- The close of a fit leaves what the record counts. -/
theorem closeOpenFit_counts (x : Evl) : x.closeOpenFit.record.endCause = x.record.endCause ∧
    x.closeOpenFit.record.pairCount = x.record.pairCount := by
  unfold Evl.closeOpenFit Evl.closeFit
  repeat' split
  all_goals exact ⟨rfl, rfl⟩

theorem completed_record (x : Evl) : x.completed.record.st = .final ∧ x.completed.closing = none ∧
    x.completed.drainAt = none ∧ x.completed.record.endCause = x.record.endCause ∧
    x.completed.record.pairCount = x.record.pairCount := ⟨rfl, rfl, rfl, closeOpenFit_counts x⟩

theorem completeRecord_evl (n : Node) : n.completeRecord.evl = n.evl.completed := by
  simp [Node.completeRecord]

/-- The evaluator whose queued entries go without a pair. -/
def unqueued (n : Node) : Node := n.setEvl { n.evl with queue := [] }

theorem drainTimer_of_due {n : Node} (collecting : n.collecting = true) (closing : n.evl.closing ≠ none)
    (h : due n.now n.evl.drainAt = true) : n.drainTimer = (unqueued n).completeRecord := by
  have closing' : n.evl.closing.isSome = true := Option.isSome_iff_ne_none.mpr closing
  exact if_pos (by simp only [collecting, closing', h, Bool.and_self])

/-- The three parts enter the FIFO where they fit. -/
theorem completeRecord_fifo {n : Node} (ha : n.active = true) (room : n.fbc.fifo.length ≤ 5)
    (hp : n.fbc.pendingResult = none) (hr : n.fbc.removal = false) : n.completeRecord.fbc.fifo =
      n.fbc.fifo ++ n.completeRecord.evl.resultParts.map (fun p => ⟨broadcastFrame .result p, n.now⟩) := by
  have fits : n.fbc.fifo.length + (resultFrames n).length ≤ 8 := Nat.add_le_add_right room 3
  rw [completeRecord_evl, completeRecord_of_active ha, submitResult_of_room n.now hr hp fits]
  simp only [resultFrames, List.map_map]
  rfl

/-- Settles O40: the lock timer by its lock and its lateness, the segment clock by the test state and by what its close
goes on to, and the drain limit by the completion. -/
theorem timedRowsOfControlSegmentAndDrain : Obligations.TimedRowsOfControlSegmentAndDrain := by
  intro n q left at_ marked
  have runs {m k : Node} (h : m = k) : (⟨n, q⟩ : State).ran m = .next ⟨k, q⟩ := congrArg (State.ran ⟨n, q⟩) h
  refine ⟨fun live late hdue => ⟨fun e hl he => runs ?_, fun h => runs ?_⟩,
    fun live late => ⟨fun e he => runs ?_, fun he => runs ?_⟩,
    fun e ht he => ⟨fun h => runs ?_, fun kind met => ⟨_, runs rfl, ?_⟩⟩, fun ht he => runs ?_, fun ht => runs ?_,
    fun collecting closing hdue => ⟨_, runs rfl, ?_⟩⟩
  · rw [lockTimer_of_due live late hdue, lockTimeout_of_acquiring hl]
    exact reportSeg_eq_of_open (n := n.setCmu { n.cmu with lockAt := none }) _ he
  · rw [lockTimer_of_due live late hdue]
    by_cases hl : n.cmu.lock = some .acquiring
    · rw [lockTimeout_of_acquiring hl]
      exact reportSeg_eq_of_none (n := n.setCmu { n.cmu with lockAt := none }) _ (h.resolve_left (· hl))
    · exact lockTimeout_of_other hl
  · rw [lockTimer_of_late live late]
    exact reportSeg_eq_of_open (n := n.setCmu { n.cmu with lateTimeout := false }) _ he
  · rw [lockTimer_of_late live late]
    exact reportSeg_eq_of_none (n := n.setCmu { n.cmu with lateTimeout := false }) _ he
  · rw [segmentClock_of_open ht he, watchTime_of_open (n := clocked n e) ht (clocked_open he)]
    exact if_neg fun ⟨kind, met⟩ => h.elim (fun other => other kind) (fun less => by simp at met; omega)
  · let k := clocked n e
    have kOpen := clocked_open he
    have closes : n.segmentClock = k.closeAndGoOn := by
      rw [segmentClock_of_open ht he, watchTime_of_open (n := k) ht kOpen]
      exact if_pos ⟨kind, by simpa using met⟩
    have others {j : Fin 32} (hj : j ≠ n.seq.cursor) : k.seq.segs[j] = n.seq.segs[j] :=
      (setEntry_segs n.seq _ j _).trans (if_neg (Ne.symm hj))
    have next : k.nextLoaded = n.nextLoaded := nextLoaded_congr rfl fun _ => others
    rw [closes]
    refine ⟨closeAndGoOn_closedBy k, fun last => closeAndGoOn_ends kOpen last, fun last starved => ?_,
      fun i last hi stays => ?_, by simp [k, clocked], by simp [k, clocked], by simp [k, clocked]⟩
    · obtain ⟨test, cursor⟩ := closeAndGoOn_starves kOpen last (next.trans starved)
      exact ⟨test.trans ht, cursor⟩
    · have stays' : k.staysOpen k.seq.segs[i].fields := by
        rw [others (nextLoaded_ne hi)]
        exact stays
      exact closeAndGoOn_opens (n := k) ht kOpen last (next.trans hi) stays'
  · simp only [Node.segmentClock, ht, reportSeg_eq_of_none _ he]
    exact watchTime_of_none he
  · simp only [Node.segmentClock, ht]
    rfl
  · obtain ⟨final, closed, drained, cause, pairs⟩ := completed_record (unqueued n).evl
    have evl : (unqueued n).completeRecord.evl = _ := completeRecord_evl (unqueued n)
    rw [drainTimer_of_due collecting closing hdue]
    refine ⟨?_, ?_, ?_, ?_, ?_, ?_, ?_, fun ha room hp hr => completeRecord_fifo (n := unqueued n) ha room hp hr⟩
    · apply node_ext <;> simp [unqueued]
    · rw [evl, completed_queue]
      rfl
    · rw [evl, final]
    · rw [evl, closed]
    · rw [evl, drained]
    · rw [evl, cause]
      rfl
    · rw [evl, pairs]
      rfl

end Sys2Proof.Proofs
end

section
/-! PROOFS. A HALT frame received: what its two bytes name, and what each test state makes of it (R27, R36, R137, R141,
R143, R194). -/
namespace Sys2Proof.Proofs
open Sys2Proof Sys2Proof.Machine Sys2Proof.Laws

/-! ### The two bytes of a HALT frame (R143, R194, log 18) -/

theorem haltCause_ofCode_code (c : HaltCause) : HaltCause.ofCode c.code = c := by
  cases c <;> rfl

theorem haltCause_code_range (c : HaltCause) : 1 ≤ c.code.toNat ∧ c.code.toNat ≤ 13 := by
  cases c <;> decide

theorem byteOf_id_toNat (o : Fin 16) : (byteOf o.val).toNat = o.val := by
  simp only [byteOf, BitVec.toNat_ofNat]
  omega

/-- A HALT frame as a node sends it names its cause and its originator. -/
theorem haltOf_haltPayload {f : RxFrame} {c : HaltCause} {o : Fin 16} (h : f.payload = haltPayload c o) :
    haltOf f = (c, o) := by
  have cause : byteAt f.payload 0 = c.code := by rw [h]; rfl
  have originator : natAt f.payload 1 = o.val := by rw [h]; exact byteOf_id_toNat o
  obtain ⟨least, most⟩ := haltCause_code_range c
  have readable : f.payload.length = 2 ∧ 1 ≤ natAt f.payload 0 ∧ natAt f.payload 0 ≤ 13 ∧
      natAt f.payload 1 < 16 :=
    ⟨by rw [h]; rfl, by simpa [natAt, cause] using least, by simpa [natAt, cause] using most, by omega⟩
  rw [haltOf, dif_pos readable]
  exact Prod.ext ((congrArg _ cause).trans (haltCause_ofCode_code c)) (Fin.ext originator)

theorem haltOf_of_unreadable {f : RxFrame} (h : f.payload.length ≠ 2 ∨ natAt f.payload 0 = 0 ∨
    13 < natAt f.payload 0 ∨ 15 < natAt f.payload 1) : haltOf f = (.operator, f.header.sender) := by
  refine dif_neg fun readable => ?_
  omega

/-! ### Entry to HALTED with a record already set (R137, R141) -/

/-- The entry to HALTED of a node whose record of this event stands. -/
theorem enterHalted_haltedBy {n : Node} {c : HaltCause} {o : Fin 16}
    (h : n.hlt.record = some ⟨c, o, n.now, true⟩) : n.haltedBy n.enterHalted c o :=
  ⟨by simp, by simpa using h, by simp [Node.faultOut], by simp [Node.drvEn], enterHalted_stops,
    fun _ => (enterHalted_submits n).1⟩

/-- Setting the record before it changes nothing that the entry to HALTED is judged by. -/
theorem setRecord_enterHalted_haltedBy (n : Node) (c : HaltCause) (o : Fin 16) :
    n.haltedBy (n.setRecord c o true).enterHalted c o :=
  haltedBy_congr (k := n.setRecord c o true) rfl rfl rfl rfl (enterHalted_haltedBy rfl)

theorem setRecord_enterHalted_closedBy (n : Node) (c : HaltCause) (o : Fin 16) :
    n.closedBy (n.setRecord c o true).enterHalted .byHalt n.now :=
  closedBy_congr rfl rfl rfl rfl rfl rfl rfl (enterHalted_closedBy (n.setRecord c o true))

/-! ### A received cause, by the test state (R143) -/

theorem receivedCause_of_halted {n : Node} (c : HaltCause) (o : Fin 16) (h : n.seq.test = some .halted) :
    n.receivedCause c o = n := by
  simp only [Node.receivedCause, h]

/-- A further cause in ENDED changes nothing. -/
theorem receivedCause_of_recorded {n : Node} (c : HaltCause) (o : Fin 16) (h : n.seq.test = some .ended)
    (hr : n.hlt.record ≠ none) : n.receivedCause c o = n := by
  obtain ⟨r, hr⟩ := Option.ne_none_iff_exists'.mp hr
  simp only [Node.receivedCause, h, hr]

/-- The first cause in ENDED is noted, and stops a jog. -/
theorem receivedCause_of_unrecorded {n : Node} (c : HaltCause) (o : Fin 16) (h : n.seq.test = some .ended)
    (hr : n.hlt.record = none) : n.receivedCause c o = (n.setRecord c o false).stopJogging := by
  simp only [Node.receivedCause, h, hr]

theorem receivedCause_of_other {n : Node} {t : TestState} (c : HaltCause) (o : Fin 16)
    (h : n.seq.test = some t) (hh : t ≠ .halted) (he : t ≠ .ended) :
    n.receivedCause c o = (n.setRecord c o true).enterHalted := by
  cases t with
  | halted => exact absurd rfl hh
  | ended => exact absurd rfl he
  | ready | armed | running | paused => simp only [Node.receivedCause, h]

/-! ### The jog that a noted cause ends (R27, R36, R143) -/

theorem stopJogging_of_idle {n : Node} (h : n.tsg.jog = .idle) : n.stopJogging = n := if_pos h

theorem stopJogging_of_jog {n : Node} (h : n.tsg.jog ≠ .idle) (live : n.driveLive = true) :
    n.stopJogging = n.setTsg (stopped n.tsg) :=
  (if_neg h).trans (if_pos live)

/-- The end of a jog touches the drive's block alone. -/
theorem stopJogging_leaves (n : Node) : n.stopJogging = { n with tsg := n.stopJogging.tsg } := by
  unfold Node.stopJogging
  split
  · rfl
  · apply node_ext <;> simp

theorem driveLive_of_drive {n : Node} {t : TestState} (ht : n.seq.test = some t) (hd : n.roles.drive = true) :
    n.driveLive = true := by
  simp [Node.driveLive, Node.inService, ht, hd]

/-- Settles O14: the bytes that can be read and those that cannot, and the frame by the test state it finds. -/
theorem haltFrameReceived : Obligations.HaltFrameReceived := by
  refine ⟨fun h rx c o p => ⟨haltOf_haltPayload rfl, haltOf_of_unreadable (f := ⟨h, p, rx⟩)⟩,
    fun n q f t hd ht => ?_⟩
  have answer {m : Node} (hm : n.popped.receivedCause (haltOf f).1 (haltOf f).2 = m) :
      exec .haltFrame ⟨n, q⟩ = .next ⟨m, q⟩ := by
    rw [← hm]
    exact exec_of_delivers (take := Node.takeHalt) q rfl hd
  refine ⟨?_, fun ended first => ?_, fun hh he => ?_⟩
  · rintro (rfl | ⟨rfl, further⟩)
    · exact answer (receivedCause_of_halted _ _ ht)
    · exact answer (receivedCause_of_recorded _ _ ht further)
  · subst ended
    let k := n.popped.setRecord (haltOf f).1 (haltOf f).2 false
    refine ⟨k.stopJogging, answer (receivedCause_of_unrecorded _ _ ht first), stopJogging_leaves k,
      fun idle => ?_, fun jogs drive => ?_⟩
    · rw [stopJogging_of_idle (n := k) idle]
      rfl
    · rw [stopJogging_of_jog (n := k) jogs (driveLive_of_drive (n := k) ht drive)]
      exact stopped_directly _
  · refine ⟨_, answer (receivedCause_of_other _ _ ht hh he), ?_, ?_, ?_, by simp [Node.setRecord], by simp,
      by simp, by simp⟩
    · exact haltedBy_before (popped_notices n) rfl (setRecord_enterHalted_haltedBy n.popped _ _)
    · exact closedBy_congr rfl rfl rfl rfl rfl rfl rfl (setRecord_enterHalted_closedBy n.popped _ _)
    · exact (enterHalted_haltSlot _).trans (popFront_fields n.fbc).2.1

end Sys2Proof.Proofs
end

section
/-! PROOFS. The end of an evaluation: the close of the fit, the fracture pair, the completion of the record, and the
ending event that brings it about (R161, R166, R168 to R172). -/
namespace Sys2Proof.Proofs
open Sys2Proof Sys2Proof.Machine Sys2Proof.Laws

/-! ### The close of the fit (R161) -/

section
variable {e : Evl} {p : EvalParams}

/-- Too few pairs, or none apart in strain. -/
theorem closeFit_of_unfit (h : e.fit.n < 16 ∨ e.fit.den = 0) : e.closeFit p =
    { e with fit := { e.fit with st := .noFit }
             record := { e.record with causes := { e.record.causes with noFit := true } } } := if_pos h

theorem closeFit_of_inside (hn : 16 ≤ e.fit.n) (hd : e.fit.den ≠ 0)
    (h : p.eMin ≤ e.fit.modulus ∧ e.fit.modulus ≤ p.eMax) : e.closeFit p =
    { e with fit := { e.fit with st := .accepted }
             record := { e.record with values := { e.record.values with
               e := some e.fit.modulus, epsInt := some e.fit.intercept } } } :=
  (if_neg (not_or.mpr ⟨Int.not_lt.mpr hn, hd⟩)).trans (if_pos h)

theorem closeFit_of_outside (hn : 16 ≤ e.fit.n) (hd : e.fit.den ≠ 0)
    (h : ¬(p.eMin ≤ e.fit.modulus ∧ e.fit.modulus ≤ p.eMax)) : e.closeFit p =
    { e with fit := { e.fit with st := .rejected }
             record := { e.record with
               values := { e.record.values with e := some e.fit.modulus }
               causes := { e.record.causes with fitRejected := true } } } :=
  (if_neg (not_or.mpr ⟨Int.not_lt.mpr hn, hd⟩)).trans (if_neg h)

theorem closeOpenFit_of_open (hp : e.params = some p) (h : e.fit.st = .fitOpen) : e.closeOpenFit = e.closeFit p := by
  simp only [Evl.closeOpenFit, hp, h, if_true]

theorem closeOpenFit_of_closed (h : e.fit.st ≠ .fitOpen) : e.closeOpenFit = e := by
  unfold Evl.closeOpenFit
  split
  · exact if_neg h
  · rfl

end

/-! ### The fracture pair (R168) -/

/-- What a drop has to exceed to become the best so far. -/
def bestDrop : Option (ScanPoint × Int) → Int
  | none => 0
  | some (_, d) => d

theorem betterDrop_eq (best : Option (ScanPoint × Int)) (p : ScanPoint) (d : Int) :
    betterDrop best p d = if bestDrop best < d then some (p, d) else best := by
  cases best <;> rfl

/-- No drop between consecutive points exceeds `k`. -/
def DropsWithin (k : Int) (l : List ScanPoint) : Prop :=
  ∀ pre x y post, l = pre ++ x :: y :: post → x.stress - y.stress ≤ k

theorem DropsWithin.head {k : Int} {x y : ScanPoint} {l : List ScanPoint} (h : DropsWithin k (x :: y :: l)) :
    x.stress - y.stress ≤ k := h [] x y l rfl

theorem DropsWithin.tail {k : Int} {x : ScanPoint} {l : List ScanPoint} (h : DropsWithin k (x :: l)) :
    DropsWithin k l := fun pre a b post split => h (x :: pre) a b post (congrArg (x :: ·) split)

/-- A scan that meets no larger drop keeps the best so far. -/
theorem scanFrom_of_within {best : Option (ScanPoint × Int)} {p : ScanPoint} {l : List ScanPoint}
    (h : DropsWithin (bestDrop best) (p :: l)) : scanFrom best p l = best := by
  induction l generalizing p with
  | nil => rfl
  | cons q rest ih =>
    rw [scanFrom, betterDrop_eq, if_neg (Int.not_lt.mpr h.head)]
    exact ih h.tail

/-- The drop from `a`, behind `pre`, is the largest of the points `l`, and every drop before it is smaller. -/
def FirstLargest (pre : List ScanPoint) (d : Int) (l : List ScanPoint) : Prop :=
  ∀ pre' x y post', l = pre' ++ x :: y :: post' →
    x.stress - y.stress ≤ d ∧ (pre'.length < pre.length → x.stress - y.stress < d)

theorem FirstLargest.tail {pre : List ScanPoint} {d : Int} {q x : ScanPoint} {l : List ScanPoint}
    (h : FirstLargest (q :: pre) d (x :: l)) : FirstLargest pre d l := fun pre' a b post' split =>
  (h (x :: pre') a b post' (congrArg (x :: ·) split)).imp_right fun before shorter =>
    before (Nat.succ_lt_succ shorter)

/-- A scan ends with the first of the largest drops. -/
theorem scanFrom_of_largest {best : Option (ScanPoint × Int)} {p a b : ScanPoint} {l pre post : List ScanPoint}
    (split : p :: l = pre ++ a :: b :: post) (beats : bestDrop best < a.stress - b.stress)
    (h : FirstLargest pre (a.stress - b.stress) (p :: l)) :
    scanFrom best p l = some (a, a.stress - b.stress) := by
  induction pre generalizing best p l with
  | nil =>
    obtain ⟨rfl, rfl⟩ := List.cons.inj split
    rw [scanFrom, betterDrop_eq, if_pos beats]
    exact scanFrom_of_within (DropsWithin.tail fun pre x y post split => (h pre x y post split).1)
  | cons q pre ih =>
    obtain ⟨rfl, rest⟩ := List.cons.inj split
    cases l with
    | nil => simp at rest
    | cons c l =>
      refine (congrArg (fun best => scanFrom best c l) (betterDrop_eq _ _ _)).trans (ih rest ?_ h.tail)
      split
      · exact (h [] p c l rfl).2 (Nat.succ_pos _)
      · exact beats

theorem fracturePair_of_no_drop {l : List ScanPoint} (h : DropsWithin 0 l) : fracturePair l = none := by
  cases l with
  | nil => rfl
  | cons p l => rw [fracturePair, scanFrom_of_within (best := none) h, Option.map_none]

theorem fracturePair_of_largest {a b : ScanPoint} {l pre post : List ScanPoint} (split : l = pre ++ a :: b :: post)
    (drops : 0 < a.stress - b.stress) (h : FirstLargest pre (a.stress - b.stress) l) : fracturePair l = some a := by
  cases l with
  | nil => simp at split
  | cons p l => rw [fracturePair, scanFrom_of_largest (best := none) split drops h, Option.map_some]

/-! ### UE and FE (R166, R168) -/

section
variable {e : Evl} {m : Int}

theorem uniform_of_modulus (h : e.acceptedModulus = some m) :
    e.uniform = e.record.values.ts.map fun x => plasticStrain x.2.2 x.1 m := by
  simp only [Evl.uniform, h]
  cases e.record.values.ts <;> rfl

theorem uniform_of_none (h : e.acceptedModulus = none) : e.uniform = none := by
  simp only [Evl.uniform, h]

theorem fracture_of_modulus (hb : e.record.endCause = some .byBreak) (h : e.acceptedModulus = some m) :
    e.fracture = (fracturePair e.scan).map fun p => (plasticStrain p.strain p.stress m, p.derived) := by
  simp only [Evl.fracture, hb, h, if_true]
  cases fracturePair e.scan <;> rfl

theorem fracture_of_other_end (hb : e.record.endCause ≠ some .byBreak) : e.fracture = none := if_neg hb

theorem fracture_of_none (h : e.acceptedModulus = none) : e.fracture = none := by
  simp only [Evl.fracture, h]
  split <;> rfl

theorem acceptedModulus_of_accepted (h : e.fit.st = .accepted) : e.acceptedModulus = e.record.values.e := if_pos h

/-- A closed fit that gives neither UE nor FE. -/
theorem acceptedModulus_of_unmeasured
    (h : e.fit.st = .rejected ∨ e.fit.st = .noFit ∨ e.fit.st = .accepted ∧ e.record.values.e = none) :
    e.acceptedModulus = none ∧ e.fit.st ≠ .fitOpen := by
  rcases h with h | h | ⟨h, he⟩
  · exact ⟨if_neg (by simp [h]), by simp [h]⟩
  · exact ⟨if_neg (by simp [h]), by simp [h]⟩
  · exact ⟨(acceptedModulus_of_accepted h).trans he, by simp [h]⟩

end

/-! ### The completion (R171, R172) -/

theorem causes_isEmpty_iff (c : Causes) : c.isEmpty = true ↔ c = {} := by
  obtain ⟨a, b, c, d, e, f⟩ := c
  simp [Causes.isEmpty, and_assoc]

/-- The record made FINAL with UE and FE, VALID where no cause is set. -/
def finalWith (e : Evl) (ue : Option Int) (fe : Option (Int × Bool)) : Evl := { e with
  closing := none, drainAt := none
  record := { e.record with
    st := .final, values := { e.record.values with ue := ue, fe := fe }
    validity := some (if e.record.causes = {} then .valid else .suspect) } }

theorem completed_eq (e : Evl) :
    e.completed = finalWith e.closeOpenFit e.closeOpenFit.uniform e.closeOpenFit.fracture := by
  simp only [Evl.completed, finalWith, Evl.setValues, causes_isEmpty_iff]

theorem completed_of_closed {e : Evl} (h : e.fit.st ≠ .fitOpen) :
    e.completed = finalWith e e.uniform e.fracture := by
  rw [completed_eq, closeOpenFit_of_closed h]

/-- Without an ACCEPTED fit there is neither UE nor FE. -/
theorem finalWith_of_none {e : Evl} (h : e.acceptedModulus = none) :
    finalWith e e.uniform e.fracture = finalWith e none none := by
  rw [uniform_of_none h, fracture_of_none h]

/-- The FE that a record with this end cause and this break-scan queue takes with the ACCEPTED modulus `m`: none
without a BREAK, none without a drop above 0, and else the plastic strain at the first of the largest drops (R168). -/
structure IsFracture (cause : Option EndCause) (scan : List ScanPoint) (m : Int) (fe : Option (Int × Bool)) :
    Prop where
  unbroken : cause ≠ some .byBreak → fe = none
  undropped : cause = some .byBreak → DropsWithin 0 scan → fe = none
  dropped : cause = some .byBreak → ∀ pre a b post, scan = pre ++ a :: b :: post → 0 < a.stress - b.stress →
    FirstLargest pre (a.stress - b.stress) scan → fe = some (plasticStrain a.strain a.stress m, a.derived)

theorem fracture_isFracture {e : Evl} {m : Int} (h : e.acceptedModulus = some m) :
    IsFracture e.record.endCause e.scan m e.fracture where
  unbroken := fracture_of_other_end
  undropped hb flat := by rw [fracture_of_modulus hb h, fracturePair_of_no_drop flat, Option.map_none]
  dropped hb _ _ _ _ split drops first := by
    rw [fracture_of_modulus hb h, fracturePair_of_largest split drops first, Option.map_some]

/-! ### The ending event (R169, R170) -/

/-- The evaluator as an ending event leaves it while entries are queued. -/
def endingBy (n : Node) (cause : EndCause) : Evl := { n.evl with
  record := { n.evl.record with endCause := some cause }
  closing := some n.now
  drainAt := some (after n.now n.staleUs) }

theorem endDrain_of_waiting {n : Node} (h : n.evl.closing = none ∨ n.evl.queue ≠ []) : n.endDrain = n := by
  refine if_neg fun drained => ?_
  obtain ⟨closing, queue⟩ := Bool.and_eq_true_iff.mp drained
  rcases h with h | h
  · simp [h] at closing
  · exact h (List.isEmpty_iff.mp queue)

theorem endDrain_of_drained {n : Node} (hc : n.evl.closing ≠ none) (hq : n.evl.queue = []) :
    n.endDrain = n.completeRecord :=
  if_pos (by rw [Option.isSome_iff_ne_none.mpr hc, hq]; rfl)

theorem evalEnding_of_ignored {n : Node} (cause : EndCause) (h : n.collecting = false ∨ n.evl.closing ≠ none) :
    n.evalEnding cause = n := by
  refine if_neg fun taken => ?_
  obtain ⟨collecting, closing⟩ := Bool.and_eq_true_iff.mp taken
  rcases h with h | h
  · exact absurd collecting (by simp [h])
  · exact h (Option.isNone_iff_eq_none.mp closing)

theorem evalEnding_of_taken {n : Node} (cause : EndCause) (hc : n.collecting = true) (hm : n.evl.closing = none) :
    n.evalEnding cause = (n.setEvl (endingBy n cause)).endDrain :=
  if_pos (by rw [hc, hm]; rfl)

theorem evalEnding_of_queued {n : Node} (cause : EndCause) (hc : n.collecting = true) (hm : n.evl.closing = none)
    (hq : n.evl.queue ≠ []) : n.evalEnding cause = n.setEvl (endingBy n cause) :=
  (evalEnding_of_taken cause hc hm).trans (endDrain_of_waiting (.inr hq))

theorem evalEnding_of_empty {n : Node} (cause : EndCause) (hc : n.collecting = true) (hm : n.evl.closing = none)
    (hq : n.evl.queue = []) : n.evalEnding cause = (n.setEvl (endingBy n cause)).completeRecord :=
  (evalEnding_of_taken cause hc hm).trans (endDrain_of_drained nofun hq)

/-- Settles O53: the ending event by the mark and the queue it finds, and the completion by what becomes of the fit. -/
theorem evaluationEndsAndCompletes : Obligations.EvaluationEndsAndCompletes := by
  refine ⟨fun n cause => ?_, fun e p hp => ?_⟩
  · intro evl
    exact ⟨evalEnding_of_ignored cause, evalEnding_of_queued cause, evalEnding_of_empty cause,
      endDrain_of_waiting, endDrain_of_drained⟩
  · intro r v f den num modulus inside done plain fe accepted
    have closes {x : Evl} (ho : f.st = .fitOpen) (hx : e.closeFit p = x) :
        e.completed = finalWith x x.uniform x.fracture := by
      rw [completed_eq, closeOpenFit_of_open hp ho, hx]
    have accepts {x : Evl} {m : Int} (hx : e.completed = finalWith x x.uniform x.fracture)
        (hm : x.acceptedModulus = some m) :
        e.completed = finalWith x (x.record.values.ts.map fun t => plasticStrain t.2.2 t.1 m) fe ∧
          IsFracture x.record.endCause x.scan m fe := by
      have fracture : x.fracture = fe := (congrArg (fun k : Evl => k.record.values.fe) hx).symm
      rw [← fracture, ← uniform_of_modulus hm]
      exact ⟨hx, fracture_isFracture hm⟩
    have assembles {w : ResultValues} {m : Int} (final : e.completed = done .accepted { w with
          ue := v.ts.map fun x => x.2.2 - roundDiv (x.1 * 10000000) m, fe := fe } r.causes)
        (isFe : IsFracture r.endCause e.scan m fe) : accepted w m :=
      ⟨final, isFe.unbroken, fun hb => ⟨isFe.undropped hb, isFe.dropped hb⟩⟩
    refine ⟨fun ho => ⟨fun unfit => ?_, fun hn hd out => ?_, fun hn hd ins => ?_⟩, fun closed => ?_,
      fun m ha hm => ?_⟩
    · exact (closes ho (closeFit_of_unfit unfit)).trans (finalWith_of_none rfl)
    · exact (closes ho (closeFit_of_outside hn hd out)).trans (finalWith_of_none rfl)
    · obtain ⟨final, isFe⟩ := accepts (closes ho (closeFit_of_inside hn hd ins)) (acceptedModulus_of_accepted rfl)
      exact assembles final isFe
    · obtain ⟨unmeasured, unopened⟩ := acceptedModulus_of_unmeasured closed
      exact (completed_of_closed unopened).trans (finalWith_of_none unmeasured)
    · have unopened : e.fit.st ≠ .fitOpen := ha ▸ nofun
      obtain ⟨final, isFe⟩ := accepts (completed_of_closed unopened) ((acceptedModulus_of_accepted ha).trans hm)
      have same : ({ f with st := .accepted } : Fit) = f := congrArg (fun st => { f with st := st }) ha.symm
      refine assembles (final.trans ?_) isFe
      simp only [done, same]
      rfl

end Sys2Proof.Proofs
end

section
/-! PROOFS. A pair, and what each of the six stages of its pair operation makes of the record (R159 to R164, R166,
R167). -/
namespace Sys2Proof.Proofs
open Sys2Proof Sys2Proof.Machine Sys2Proof.Laws

section
variable {e : Evl} {p : EvalParams} {x : Pair}

/-! ### The maximum (R166) -/

/-- A first stress, or a higher one, is the new maximum. -/
theorem maxStage_of_higher (h : e.record.values.ts = none ∨
    ∃ ts fm at_, e.record.values.ts = some (ts, fm, at_) ∧ ts < x.stress) :
    e.maxStage x = e.setValues fun v => { v with ts := some (x.stress, x.force, x.strain) } := by
  rcases h with h | ⟨ts, fm, at_, h, higher⟩
  · simp only [Evl.maxStage, h]
  · simp only [Evl.maxStage, h]
    exact if_pos higher

theorem maxStage_of_not_higher {ts fm at_ : Int} (h : e.record.values.ts = some (ts, fm, at_))
    (lower : x.stress ≤ ts) : e.maxStage x = e := by
  simp only [Evl.maxStage, h]
  exact if_neg (Int.not_lt.mpr lower)

/-! ### The yield tracker (R163, R164) -/

theorem yieldStage_of_seeking (h : e.yield.st = .seeking) : e.yieldStage p x = e.seekYield p x := by
  simp only [Evl.yieldStage, h]

theorem yieldStage_of_plateau (h : e.yield.st = .plateau) : e.yieldStage p x = e.plateau p x := by
  simp only [Evl.yieldStage, h]

theorem yieldStage_of_closed (h : e.yield.st = .closed) : e.yieldStage p x = e := by
  simp only [Evl.yieldStage, h]

/-- A first stress, or a higher one, is the new peak. -/
theorem seekYield_of_higher
    (h : e.yield.peak = none ∨ ∃ y at_, e.yield.peak = some (y, at_) ∧ y < x.stress) :
    e.seekYield p x = { e with yield := { e.yield with peak := some (x.stress, x.strain) } } := by
  rcases h with h | ⟨y, at_, h, higher⟩
  · simp only [Evl.seekYield, h]
  · simp only [Evl.seekYield, h]
    exact if_pos higher

/-- A stress that has dropped far enough below the peak makes the peak UYS. -/
theorem seekYield_of_drop {y at_ : Int} (h : e.yield.peak = some (y, at_)) (lower : x.stress ≤ y)
    (drop : x.stress ≤ y - p.yieldDrop) : e.seekYield p x =
      { (e.setValues fun v => { v with uys := some (y, at_) }) with yield := { e.yield with st := .plateau } } := by
  simp only [Evl.seekYield, h]
  exact (if_neg (Int.not_lt.mpr lower)).trans (if_pos drop)

theorem seekYield_of_small_drop {y at_ : Int} (h : e.yield.peak = some (y, at_)) (lower : x.stress ≤ y)
    (drop : y - p.yieldDrop < x.stress) : e.seekYield p x = e := by
  simp only [Evl.seekYield, h]
  exact (if_neg (Int.not_lt.mpr lower)).trans (if_neg (Int.not_le.mpr drop))

/-- A stress above UYS ends the plateau. -/
theorem plateau_of_higher {u at_ : Int} (h : e.record.values.uys = some (u, at_)) (higher : u < x.stress) :
    e.plateau p x = { (e.setValues fun v => { v with ype := some (x.strain - at_) }) with
      yield := { e.yield with st := .closed } } := by
  simp only [Evl.plateau, h]
  exact if_pos higher

/-- Within the transient span the plateau takes no candidate. -/
theorem plateau_of_transient {u at_ : Int} (h : e.record.values.uys = some (u, at_)) (lower : x.stress ≤ u)
    (near : x.strain ≤ at_ + p.transientSpan) : e.plateau p x = e := by
  simp only [Evl.plateau, h]
  exact (if_neg (Int.not_lt.mpr lower)).trans (if_neg (Int.not_lt.mpr near))

/-- Beyond it the lowest stress is LYS. -/
theorem plateau_of_candidate {u at_ : Int} (h : e.record.values.uys = some (u, at_)) (lower : x.stress ≤ u)
    (beyond : at_ + p.transientSpan < x.strain) : e.plateau p x =
      e.setValues fun v => { v with lys := lowerOf v.lys x.stress } := by
  simp only [Evl.plateau, h]
  exact (if_neg (Int.not_lt.mpr lower)).trans (if_pos beyond)

/-! ### The fit (R160, R161) -/

theorem fitStage_of_closed (h : e.fit.st ≠ .fitOpen) : e.fitStage p x = e := if_neg h

theorem fitStage_of_below (low : x.stress < p.sigmaLo) (window : p.sigmaLo ≤ p.sigmaHi) : e.fitStage p x = e := by
  unfold Evl.fitStage
  split
  · exact (if_neg (Int.not_lt.mpr (Int.le_of_lt (Int.lt_of_lt_of_le low window)))).trans (if_neg (Int.not_le.mpr low))
  · rfl

theorem fitStage_of_within (h : e.fit.st = .fitOpen) (low : p.sigmaLo ≤ x.stress) (high : x.stress ≤ p.sigmaHi) :
    e.fitStage p x = { e with fit := e.fit.add x } :=
  (if_pos h).trans ((if_neg (Int.not_lt.mpr high)).trans (if_pos low))

theorem fitStage_of_above (h : e.fit.st = .fitOpen) (high : p.sigmaHi < x.stress) :
    e.fitStage p x = (e.closeFit p).startSearch := (if_pos h).trans (if_pos high)

theorem startSearch_of_accepted (h : e.fit.st = .accepted) :
    e.startSearch = { e with proof := { st := .searching, prev := none } } := if_pos h

theorem startSearch_of_other (h : e.fit.st ≠ .accepted) : e.startSearch = e := if_neg h

/-! ### The proof search (R162) -/

/-- The pair's distance from the offset line. -/
def offsetDistance (p : EvalParams) (x : Pair) (modulus epsInt : Int) : Int :=
  x.stress - offsetLine modulus epsInt p.offset x.strain

/-- The evaluator whose search has judged a pair at distance `d` without a crossing. -/
def searchedAt (e : Evl) (d : Int) (x : Pair) : Evl :=
  { e with proof := { e.proof with prev := some (d, x.stress, x.strain) } }

theorem proofStage_of_idle (h : e.proof.st ≠ .searching) : e.proofStage p x = e := if_neg h

theorem proofStage_of_searching {modulus epsInt : Int} (h : e.proof.st = .searching)
    (hm : e.record.values.e = some modulus) (hi : e.record.values.epsInt = some epsInt) :
    e.proofStage p x = e.judgeProof p.offset (offsetDistance p x modulus epsInt) x := by
  refine (if_pos h).trans ?_
  rw [hm, hi]
  rfl

theorem judgeProof_of_first {d o : Int} (h : e.proof.prev = none) : e.judgeProof o d x = searchedAt e d x := by
  simp only [Evl.judgeProof, h, searchedAt]

/-- The line is not crossed from above. -/
theorem judgeProof_of_uncrossed {d o dp sp ep : Int} (h : e.proof.prev = some (dp, sp, ep))
    (uncrossed : 0 < d ∨ dp ≤ 0) : e.judgeProof o d x = searchedAt e d x := by
  simp only [Evl.judgeProof, h]
  exact if_neg (by omega)

/-- The first crossing gives PS. -/
theorem judgeProof_of_crossed {d o dp sp ep : Int} (h : e.proof.prev = some (dp, sp, ep)) (below : d ≤ 0)
    (above : 0 < dp) : e.judgeProof o d x = { (e.setValues fun v =>
        { v with ps := some (crossing dp d sp x.stress, crossing dp d ep x.strain, o) }) with
      proof := { e.proof with st := .found } } := by
  simp only [Evl.judgeProof, h]
  exact if_pos ⟨below, above⟩

end

/-- Settles O51: the pair field by field, and each stage by the cases of its tracker. -/
theorem pairFormedUpdatesTheRecord : Obligations.PairFormedUpdatesTheRecord := by
  refine ⟨fun area l a => rfl, fun e p x => ?_⟩
  intro r v withValues
  refine ⟨rfl, maxStage_of_higher, fun ts fm at_ h lower => maxStage_of_not_higher h lower,
    fun seeking => ⟨fun higher => ?_, fun y at_ h lower => ⟨fun drop => ?_, fun drop => ?_⟩⟩,
    fun u at_ plateau h => ⟨fun higher => ?_, fun lower near => ?_, fun lower beyond => ?_⟩,
    yieldStage_of_closed, ?_, ⟨proofStage_of_idle, fun modulus epsInt searching hm hi => ?_⟩, rfl⟩
  · exact (yieldStage_of_seeking seeking).trans (seekYield_of_higher higher)
  · exact (yieldStage_of_seeking seeking).trans (seekYield_of_drop h lower drop)
  · exact (yieldStage_of_seeking seeking).trans (seekYield_of_small_drop h lower drop)
  · exact (yieldStage_of_plateau plateau).trans (plateau_of_higher h higher)
  · exact (yieldStage_of_plateau plateau).trans (plateau_of_transient h lower near)
  · have candidate : e.yieldStage p x = withValues { v with lys := lowerOf v.lys x.stress } :=
      (yieldStage_of_plateau plateau).trans (plateau_of_candidate h lower beyond)
    refine ⟨fun first => ?_, fun y further => ?_⟩
    · rw [candidate, first]
      rfl
    · rw [candidate, further]
      rfl
  · intro f den num modulus
    refine ⟨?_, fun ho low high => fitStage_of_within ho low high, fun ho high =>
      ⟨fun unfit => ?_, fun hn hd ins => ?_, fun hn hd out => ?_⟩⟩
    · rintro (closed | ⟨low, window⟩)
      · exact fitStage_of_closed closed
      · exact fitStage_of_below low window
    · rw [fitStage_of_above ho high, closeFit_of_unfit unfit]
      exact startSearch_of_other nofun
    · rw [fitStage_of_above ho high, closeFit_of_inside hn hd ins]
      exact startSearch_of_accepted rfl
    · have outside : ¬(p.eMin ≤ f.modulus ∧ f.modulus ≤ p.eMax) := fun ⟨least, most⟩ =>
        out.elim (Int.not_lt.mpr least) (Int.not_lt.mpr most)
      rw [fitStage_of_above ho high, closeFit_of_outside hn hd outside]
      exact startSearch_of_other nofun
  · intro d searched
    have judged : e.proofStage p x = e.judgeProof p.offset d x := proofStage_of_searching searching hm hi
    rw [judged]
    exact ⟨judgeProof_of_first, fun dp sp ep h => ⟨judgeProof_of_uncrossed h, judgeProof_of_crossed h⟩⟩

end Sys2Proof.Proofs
end

section
/-! PROOFS. Pairing: the samples that the evaluator takes, the rounds of an attempt, the overflow, and the yield-seen
report of a pair (R128, R130, R155 to R159, R165, R169, R170). -/
namespace Sys2Proof.Proofs
open Sys2Proof Sys2Proof.Machine Sys2Proof.Laws

/-! ### Samples offered to the evaluator (R155, R157, R158) -/

/-- The four conditions of R155. -/
theorem takesLoad_iff (n : Node) (e : HistEntry) : n.takesLoad e = true ↔
    n.collecting = true ∧ e.flags.held = false ∧ (∀ t, n.evl.closing = some t → later e.time t = false) ∧
      ∀ l, n.evl.queue.getLast? = some l → later e.time l.time = true := by
  unfold Node.takesLoad
  cases n.evl.closing <;> cases n.evl.queue.getLast? <;> simp [and_assoc]

theorem evalLoad_of_refused {n : Node} {e : HistEntry} (h : ¬n.takesLoad e = true) : n.evalLoad e = n := if_neg h

theorem evalLoad_of_room {n : Node} {e : HistEntry} (h : n.takesLoad e = true) (room : n.evl.queue.length < 16) :
    n.evalLoad e = (n.pushLoad e).pairingAttempt := by
  simp only [Node.evalLoad, h, pairingCapacity, room, if_true]

theorem evalLoad_of_full {n : Node} {e : HistEntry} (h : n.takesLoad e = true) (full : 16 ≤ n.evl.queue.length) :
    n.evalLoad e = (n.overflow.pushLoad e).pairingAttempt := by
  simp only [Node.evalLoad, h, pairingCapacity, Nat.not_lt.mpr full, if_true, if_false]

/-! ### The rounds of an attempt and the overflow (R156, R157) -/

section
variable {n : Node} {p : EvalParams} {l : LoadEntry} {rest : List LoadEntry} {a : Answer}

theorem pairWith_of_answer (hp : n.evl.params = some p) (h : a.flags.fault = false) :
    n.pairWith l a = n.passPair p (pairOf p.area l a) := by
  simp only [Node.pairWith, Node.formPair, h, hp]
  rfl

theorem popLoad_of_front (hq : n.evl.queue = l :: rest) : n.popLoad = n.setEvl { n.evl with queue := rest } := by
  simp only [Node.popLoad, hq, List.drop_succ_cons, List.drop_zero]

/-- A FAULT sets its cause, and the entry leaves without a pair. -/
theorem pairWith_popLoad_of_fault (hq : n.evl.queue = l :: rest) (h : a.flags.fault = true) :
    (n.pairWith l a).popLoad =
      n.setEvl { n.evl.cause fun c => { c with strainFault := true } with queue := rest } := by
  rw [Node.pairWith, if_pos h]
  exact popLoad_of_front (n := n.setEvl _) hq

theorem pairRounds_of_wait (hq : n.evl.queue = l :: rest)
    (h : (locate n.strainHist l.time).inside l.time = none) (k : Nat) : n.pairRounds (k + 1) = n := by
  simp only [Node.pairRounds, hq, Node.pairFront, h, Option.map_none, ite_self]

theorem pairRounds_of_answer (hc : n.collecting = true) (hq : n.evl.queue = l :: rest)
    (h : (locate n.strainHist l.time).inside l.time = some a) (k : Nat) :
    n.pairRounds (k + 1) = (n.pairWith l a).popLoad.pairRounds k := by
  simp only [Node.pairRounds, hq, Node.pairFront, h, hc, Option.map_some, if_true]

theorem overflow_of_unstrained (hq : n.evl.queue = l :: rest) (h : newest? n.strainHist = none) :
    n.overflow = n.popLoad.setEvl (n.popLoad.evl.cause fun c => { c with heldPairing := true }) := by
  simp only [Node.overflow, hq, h]

theorem overflow_of_strain {e : HistEntry} (hq : n.evl.queue = l :: rest) (h : newest? n.strainHist = some e) :
    n.overflow = (n.pairWith l { e.answer with held := true }).popLoad := by
  simp only [Node.overflow, hq, h]

end

/-! ### What the stages of a pair reach (R159) -/

/-- The evaluator `o`, with all that the stages of a pair read and write taken from `e`. -/
def withTrackers (o e : Evl) : Evl := { o with
  scan := e.scan, fit := e.fit, proof := e.proof, yield := e.yield
  record := { o.record with
    pairCount := e.record.pairCount, causes := e.record.causes, values := e.record.values } }

@[simp] theorem withTrackers_trackers (o e : Evl) : (withTrackers o e).record.values = e.record.values ∧
    (withTrackers o e).proof = e.proof ∧ (withTrackers o e).yield = e.yield := ⟨rfl, rfl, rfl⟩

/-- Stages that reach the trackers alone: they make of them the same in any other surroundings. -/
def Tracks (stages : Evl → Evl) : Prop := ∀ o e, stages (withTrackers o e) = withTrackers o (stages e)

theorem Tracks.comp {f g : Evl → Evl} (hf : Tracks f) (hg : Tracks g) : Tracks fun e => f (g e) := fun o e =>
  (congrArg f (hg o e)).trans (hf o (g e))

/-- They leave the surroundings. -/
theorem Tracks.keeps {f : Evl → Evl} (h : Tracks f) (e : Evl) : f e = withTrackers e (f e) := h e e

theorem Tracks.reported {f : Evl → Evl} (h : Tracks f) (e : Evl) : (f e).yieldReported = e.yieldReported :=
  (congrArg Evl.yieldReported (h.keeps e)).trans rfl

/-- They commute with a change of the surroundings. -/
theorem Tracks.commutes {f g : Evl → Evl} (h : Tracks f)
    (surrounds : ∀ e s, g (withTrackers e s) = withTrackers (g e) s) (e : Evl) : f (g e) = g (f e) :=
  calc f (g e)
    _ = f (withTrackers (g e) e) := congrArg f (surrounds e e)
    _ = withTrackers (g e) (f e) := h (g e) e
    _ = g (withTrackers e (f e)) := (surrounds e (f e)).symm
    _ = g (f e) := congrArg g (h.keeps e).symm

theorem markStage_tracks (x : Pair) : Tracks fun e => e.markStage x := fun _ _ => rfl

theorem scanStage_tracks (x : Pair) : Tracks fun e => e.scanStage x := fun _ _ => rfl

/-- A choice by a condition on the trackers. -/
theorem ite_withTrackers {c : Prop} [Decidable c] {o e f e' f' : Evl} (he : e' = withTrackers o e)
    (hf : f' = withTrackers o f) : (if c then e' else f') = withTrackers o (if c then e else f) := by
  split
  · exact he
  · exact hf

theorem maxStage_tracks (x : Pair) : Tracks fun e => e.maxStage x := fun o e => by
  cases h : e.record.values.ts with
  | none =>
    simp only [Evl.maxStage, withTrackers_trackers, h]
    rfl
  | some ts =>
    simp only [Evl.maxStage, withTrackers_trackers, h]
    exact ite_withTrackers rfl rfl

theorem seekYield_tracks (p : EvalParams) (x : Pair) : Tracks fun e => e.seekYield p x := fun o e => by
  cases h : e.yield.peak with
  | none =>
    simp only [Evl.seekYield, withTrackers_trackers, h]
    rfl
  | some peak =>
    simp only [Evl.seekYield, withTrackers_trackers, h]
    exact ite_withTrackers rfl (ite_withTrackers rfl rfl)

theorem plateau_tracks (p : EvalParams) (x : Pair) : Tracks fun e => e.plateau p x := fun o e => by
  cases h : e.record.values.uys with
  | none => simp only [Evl.plateau, withTrackers_trackers, h]
  | some uys =>
    simp only [Evl.plateau, withTrackers_trackers, h]
    exact ite_withTrackers rfl (ite_withTrackers rfl rfl)

theorem yieldStage_tracks (p : EvalParams) (x : Pair) : Tracks fun e => e.yieldStage p x := fun o e => by
  cases h : e.yield.st with
  | seeking =>
    simp only [yieldStage_of_seeking h, yieldStage_of_seeking (e := withTrackers o e) h]
    exact seekYield_tracks p x o e
  | plateau =>
    simp only [yieldStage_of_plateau h, yieldStage_of_plateau (e := withTrackers o e) h]
    exact plateau_tracks p x o e
  | closed => simp only [yieldStage_of_closed h, yieldStage_of_closed (e := withTrackers o e) h]

theorem closeFit_tracks (p : EvalParams) : Tracks fun e => e.closeFit p := fun _ _ =>
  ite_withTrackers rfl (ite_withTrackers rfl rfl)

theorem startSearch_tracks : Tracks Evl.startSearch := fun _ _ => ite_withTrackers rfl rfl

theorem fitStage_tracks (p : EvalParams) (x : Pair) : Tracks fun e => e.fitStage p x := fun o e =>
  ite_withTrackers (ite_withTrackers (startSearch_tracks.comp (closeFit_tracks p) o e) (ite_withTrackers rfl rfl)) rfl

theorem judgeProof_tracks (offset d : Int) (x : Pair) : Tracks fun e => e.judgeProof offset d x := fun o e => by
  cases h : e.proof.prev with
  | none =>
    simp only [Evl.judgeProof, withTrackers_trackers, h]
    rfl
  | some prev =>
    simp only [Evl.judgeProof, withTrackers_trackers, h]
    exact ite_withTrackers rfl rfl

theorem proofStage_tracks (p : EvalParams) (x : Pair) : Tracks fun e => e.proofStage p x := fun o e =>
  ite_withTrackers (judgeProof_tracks _ _ x o e) rfl

theorem earlyStages_tracks (p : EvalParams) (x : Pair) : Tracks fun e => e.earlyStages p x :=
  (yieldStage_tracks p x).comp ((maxStage_tracks x).comp (markStage_tracks x))

theorem lineStages_tracks (p : EvalParams) (x : Pair) : Tracks fun e => e.lineStages p x :=
  (proofStage_tracks p x).comp (fitStage_tracks p x)

/-! ### Yield found (R165) -/

theorem closeFit_found (e : Evl) (p : EvalParams) : (e.closeFit p).yieldFound = e.yieldFound := by
  unfold Evl.closeFit
  repeat' split
  all_goals rfl

theorem fitStage_found (e : Evl) (p : EvalParams) (x : Pair) : (e.fitStage p x).yieldFound = e.yieldFound := by
  unfold Evl.fitStage Evl.startSearch
  repeat' split
  · exact closeFit_found e p
  · exact closeFit_found e p
  all_goals rfl

theorem judgeProof_found {e : Evl} (offset d : Int) (x : Pair) (h : e.yieldFound = true) :
    (e.judgeProof offset d x).yieldFound = true := by
  unfold Evl.judgeProof
  repeat' split
  · exact Bool.or_true _
  · exact h
  · exact h

/-- The stages after the yield stage keep the yield found. -/
theorem lineStages_found {e : Evl} (p : EvalParams) (x : Pair) (h : e.yieldFound = true) :
    (e.lineStages p x).yieldFound = true := by
  have fit : (e.fitStage p x).yieldFound = true := (fitStage_found e p x).trans h
  unfold Evl.lineStages Evl.proofStage
  split
  · exact judgeProof_found _ _ x fit
  · exact fit

/-! ### An ending event of a sequencer that goes on (R131, R138, R169) -/

theorem evalEnding_evl (n : Node) (c : EndCause) : (n.evalEnding c).evl =
    if n.collecting && n.evl.closing.isNone then
      if n.evl.queue.isEmpty then (endingBy n c).completed else endingBy n c
    else n.evl := by
  unfold Node.evalEnding
  split
  · cases hq : n.evl.queue.isEmpty with
    | true =>
      have drained := endDrain_of_drained (n := n.setEvl (endingBy n c)) nofun (List.isEmpty_iff.mp hq)
      exact (congrArg Node.evl drained).trans (completeRecord_evl _)
    | false =>
      have waiting := endDrain_of_waiting (n := n.setEvl (endingBy n c)) (.inr (by simpa [endingBy] using hq))
      exact congrArg Node.evl waiting
  · rfl

/-- An ending event reads of the node beside the evaluator the clock, the image, and whether it is in service. -/
theorem evalEnding_congr {n m : Node} (c : EndCause) (evl : m.evl = n.evl) (clk : m.clk = n.clk)
    (sul : m.sul = n.sul) (service : m.inService = n.inService) : (m.evalEnding c).evl = (n.evalEnding c).evl := by
  have collects : m.collecting = n.collecting := by
    simp only [Node.collecting, Node.evalLive, Node.roles, img_eq, evl, sul, service]
  have ending : endingBy m c = endingBy n c := by simp only [endingBy, Node.staleUs, now_eq, img_eq, evl, clk, sul]
  simp only [evalEnding_evl, collects, ending, evl]

theorem enterEnded_evl {n : Node} (c : EndCause) (close : CloseCause) (h : n.inService = true) :
    (n.enterEnded c close).evl = (n.evalEnding c).evl := by
  unfold Node.enterEnded
  refine evalEnding_congr c ?_ ?_ ?_ ?_
  · simp
  · simp
  · simp
  · simp [Node.inService] at h ⊢
    simp [h]

/-- What going on leaves: the yield-seen mark, and an evaluator that took an ending event by LAST at most. -/
structure WentOn (n m : Node) : Prop where
  seen : m.seq.yieldSeen = n.seq.yieldSeen
  evl : m.evl = n.evl ∨ m.evl = (n.evalEnding .lastSegment).evl

/-- What went before in the sequencer and the bus is no matter. -/
theorem WentOn.after {n k m : Node} (h : WentOn k m) (seen : k.seq.yieldSeen = n.seq.yieldSeen) (evl : k.evl = n.evl)
    (clk : k.clk = n.clk) (sul : k.sul = n.sul) (service : k.inService = n.inService) : WentOn n m where
  seen := h.seen.trans seen
  evl := by
    have went := h.evl
    rwa [evalEnding_congr .lastSegment evl clk sul service, evl] at went

theorem closeByCondition_inService (n : Node) : n.closeByCondition.inService = n.inService := by
  simp [Node.inService, closeByCondition_seq]

theorem closeByCondition_seen (n : Node) : n.closeByCondition.seq.yieldSeen = n.seq.yieldSeen := by
  simp [closeByCondition_seq]

theorem goOn_wentOn (k : Nat) (starved : Bool) {n : Node} (h : n.inService = true) :
    WentOn n (Node.goOn k starved n) := by
  induction k generalizing starved n with
  | zero => exact ⟨rfl, .inl rfl⟩
  | succ k ih =>
    cases last : n.seq.cursorEntry.fields.last with
    | true =>
      rw [goOn_of_last k starved last]
      exact ⟨by simp, .inr (enterEnded_evl _ _ h)⟩
    | false =>
      cases hi : n.nextLoaded with
      | none =>
        rw [goOn_of_none k starved last hi]
        exact ⟨by simp, .inl (by simp)⟩
      | some i =>
        have seen : (n.openAt i starved (!starved)).seq.yieldSeen = n.seq.yieldSeen := by
          rw [(openAt_reported n i starved (!starved)).rest]
          rfl
        have service : (n.openAt i starved (!starved)).closeByCondition.inService = n.inService :=
          (closeByCondition_inService _).trans (by simp only [Node.inService, openAt_test])
        rw [goOn_of_loaded k starved last hi]
        split
        · exact (ih false (service.trans h)).after ((closeByCondition_seen _).trans seen) (by simp) (by simp)
            (by simp) service
        · exact ⟨seen, .inl (by simp)⟩

theorem closeAndGoOn_wentOn {n : Node} (h : n.inService = true) : WentOn n n.closeAndGoOn :=
  (goOn_wentOn goOnRounds false ((closeByCondition_inService n).trans h)).after (closeByCondition_seen n) (by simp)
    (by simp) (by simp) (closeByCondition_inService n)

/-- A test that ends with LAST takes the ending event. -/
theorem closeAndGoOn_evl_of_last {n : Node} {e : Segment} (h : n.inService = true) (he : n.seq.openEntry = some e)
    (last : e.fields.last = true) : n.closeAndGoOn.evl = (n.evalEnding .lastSegment).evl := by
  have service := closeByCondition_inService n
  rw [closeAndGoOn_of_last he last, enterEnded_evl _ _ (service.trans h)]
  exact evalEnding_congr _ (by simp) (by simp) (by simp) service

theorem completed_reported (e : Evl) : e.completed.yieldReported = e.yieldReported := by
  have closed : e.closeOpenFit.yieldReported = e.yieldReported := by
    unfold Evl.closeOpenFit
    repeat' split
    · exact (closeFit_tracks _).reported e
    · rfl
    · rfl
  exact closed

theorem evalEnding_reported (n : Node) (c : EndCause) : (n.evalEnding c).evl.yieldReported = n.evl.yieldReported := by
  rw [evalEnding_evl]
  repeat' split
  · exact completed_reported _
  · rfl
  · rfl

theorem WentOn.reported {n m : Node} (h : WentOn n m) : m.evl.yieldReported = n.evl.yieldReported := by
  rcases h.evl with evl | evl <;> rw [evl]
  exact evalEnding_reported n _

/-- With entries queued nothing is completed. -/
theorem WentOn.queued {n m : Node} (h : WentOn n m) (hq : n.evl.queue ≠ []) :
    m.evl = n.evl ∨ m.evl = endingBy n .lastSegment := by
  rcases h.evl with evl | evl
  · exact .inl evl
  · rw [evl, evalEnding_evl]
    split
    · exact .inr (if_neg (by simpa using hq))
    · exact .inl rfl

/-! ### The yield-seen report (R128, R165) -/

/-- The node once stages of a pair have made the evaluator `e`, and a held pair has marked the OPEN segment. -/
def markedWith (n : Node) (held : Bool) (e : Evl) : Node := { n with evl := e, seq := (n.reportHeld held).seq }

/-- The OPEN segment takes the mark of a held pair. -/
theorem reportHeld_of_open {n : Node} {g : Segment} (he : n.seq.openEntry = some g) : n.reportHeld true =
    n.setSeq (n.seq.setEntry n.seq.cursor { g with summary := { g.summary with heldPair := true } }) :=
  reportSeg_eq_of_open _ he

theorem reportHeld_of_none {n : Node} (he : n.seq.openEntry = none) : n.reportHeld true = n :=
  reportSeg_eq_of_none _ he

theorem reportHeld_eq (n : Node) (held : Bool) (e : Evl) : (n.setEvl e).reportHeld held = markedWith n held e := by
  cases held with
  | false => rfl
  | true =>
    unfold markedWith
    cases he : n.seq.openEntry with
    | none => rw [reportHeld_of_none he, reportHeld_of_none (n := n.setEvl e) he]; rfl
    | some g => rw [reportHeld_of_open he, reportHeld_of_open (n := n.setEvl e) he]; rfl

theorem reportHeld_reported (n : Node) (held : Bool) : Reported n.seq (n.reportHeld held).seq := by
  unfold Node.reportHeld
  split
  · exact (reportFlag_requests n _).seq
  · exact .refl _

theorem markedWith_inService (n : Node) (held : Bool) (e : Evl) : (markedWith n held e).inService = n.inService := by
  unfold markedWith Node.inService
  rw [(reportHeld_reported n held).rest]

theorem Reported.openEntry {q r : Seq} {g : Segment} (h : Reported q r) (he : q.openEntry = some g) :
    ∃ g', r.openEntry = some g' ∧ g'.fields = g.fields := by
  obtain ⟨rfl, opened⟩ : q.cursorEntry = g ∧ g.status = .opened := openEntry_some he
  exact ⟨r.cursorEntry, if_pos (by simp [h.status, opened]), h.fields⟩

/-- The node that hands the yield-seen report on. -/
def seenBy (n : Node) : Node :=
  { n with evl := { n.evl with yieldReported := true }, seq := { n.seq with yieldSeen := true } }

/-- The report closes an OPEN YIELD-SEEN entry in RUNNING. -/
theorem seenBy_yieldMet_iff (n : Node) (held : Bool) (e : Evl) : (seenBy (markedWith n held e)).yieldMet = true ↔
    n.seq.test = some .running ∧ n.roles.eval = true ∧
      ∃ g, n.seq.openEntry = some g ∧ g.fields.endKind = .yieldSeen := by
  have marked := reportHeld_reported n held
  have test : (n.reportHeld held).seq.test = n.seq.test := by rw [marked.rest]
  have met : (seenBy (markedWith n held e)).yieldMet = (n.seq.test == some .running &&
      (n.seq.cursorEntry.status == .opened && (n.seq.cursorEntry.fields.endKind == .yieldSeen && n.roles.eval))) := by
    rw [← test, ← marked.status, ← marked.fields]
    refine (meets_eq _ _).trans ?_
    simp only [seenBy, markedWith, Bool.and_true]
    rfl
  rw [met]
  constructor
  · intro h
    simp only [Bool.and_eq_true, beq_iff_eq] at h
    obtain ⟨running, opened, kind, live⟩ := h
    exact ⟨running, live, n.seq.cursorEntry, if_pos (by simp [opened]), kind⟩
  · rintro ⟨running, live, g, he, kind⟩
    obtain ⟨rfl, opened⟩ : n.seq.cursorEntry = g ∧ g.status = .opened := openEntry_some he
    simp [running, live, opened, kind]

theorem reportYield_of_silent {n : Node} (h : n.evl.yieldReported = true ∨ n.evl.yieldFound = false) :
    n.reportYield = n := by
  rcases h with h | h <;> simp [Node.reportYield, h]

section
variable {n : Node} (unreported : n.evl.yieldReported = false) (found : n.evl.yieldFound = true)
include unreported found

theorem reportYield_of_found :
    n.reportYield = if (seenBy n).yieldMet then (seenBy n).closeAndGoOn else seenBy n := by
  simp only [Node.reportYield, unreported, found]
  rfl

theorem reportYield_of_met (met : (seenBy n).yieldMet = true) : n.reportYield = (seenBy n).closeAndGoOn :=
  (reportYield_of_found unreported found).trans (if_pos met)

theorem reportYield_of_unmet (unmet : ¬(seenBy n).yieldMet = true) : n.reportYield = seenBy n :=
  (reportYield_of_found unreported found).trans (if_neg unmet)

theorem reportYield_wentOn (service : n.inService = true) : WentOn (seenBy n) n.reportYield := by
  rw [reportYield_of_found unreported found]
  split
  · exact closeAndGoOn_wentOn service
  · exact ⟨rfl, .inl rfl⟩

end

/-! ### A pair passed through its stages (R159, R165) -/

/-- What the six stages make of the evaluator. -/
def allStages (p : EvalParams) (x : Pair) (e : Evl) : Evl := ((e.earlyStages p x).lineStages p x).scanStage x

theorem passPair_eq (n : Node) (p : EvalParams) (x : Pair) : n.passPair p x =
    let k := (markedWith n x.held (n.evl.earlyStages p x)).reportYield
    let j := (k.setEvl (k.evl.lineStages p x)).reportYield
    j.setEvl (j.evl.scanStage x) := by
  simp only [Node.passPair, reportHeld_eq]

/-- The report of the pair `x` comes when its stages have made the evaluator `e`, with the stages `left` to pass. -/
structure ReportsAt (n : Node) (p : EvalParams) (x : Pair) (e : Evl) (left : Evl → Evl) : Prop where
  tracks : Tracks left
  found : e.yieldFound = true
  keeps : e = withTrackers n.evl e
  whole : left e = allStages p x n.evl
  passes : n.passPair p x =
    let k := (markedWith n x.held e).reportYield
    k.setEvl (left k.evl)

section
variable {n : Node} {p : EvalParams} {x : Pair}

/-- Where no report is due, the evaluator passes its stages and the sequencer takes the mark of a held pair. -/
theorem passPair_of_silent (h : n.evl.yieldReported = true ∨
    ((n.evl.earlyStages p x).lineStages p x).yieldFound = false) :
    n.passPair p x = markedWith n x.held (allStages p x n.evl) := by
  have early : (n.evl.earlyStages p x).yieldReported = true ∨ (n.evl.earlyStages p x).yieldFound = false :=
    h.imp ((earlyStages_tracks p x).reported n.evl).trans fun unfound =>
      (Bool.not_eq_true _).mp fun found => Bool.noConfusion (unfound.symm.trans (lineStages_found p x found))
  have line : ((n.evl.earlyStages p x).lineStages p x).yieldReported = true ∨
      ((n.evl.earlyStages p x).lineStages p x).yieldFound = false :=
    h.imp_left (((lineStages_tracks p x).comp (earlyStages_tracks p x)).reported n.evl).trans
  have first := reportYield_of_silent (n := markedWith n x.held (n.evl.earlyStages p x)) early
  have second := reportYield_of_silent
    (n := markedWith n x.held ((n.evl.earlyStages p x).lineStages p x)) line
  rw [passPair_eq]
  simp only [first]
  exact congrArg (fun j : Node => j.setEvl (j.evl.scanStage x)) second

/-- A report that is due comes after the yield stage, where UYS is found, or else after the proof stage. -/
theorem exists_reportsAt (service : n.inService = true) (unreported : n.evl.yieldReported = false)
    (found : ((n.evl.earlyStages p x).lineStages p x).yieldFound = true) : ∃ e left, ReportsAt n p x e left := by
  have early := (earlyStages_tracks p x).keeps n.evl
  cases foundEarly : (n.evl.earlyStages p x).yieldFound with
  | true =>
    let k := markedWith n x.held (n.evl.earlyStages p x)
    have kUnreported : k.evl.yieldReported = false := ((earlyStages_tracks p x).reported n.evl).trans unreported
    have kService : k.inService = true := (markedWith_inService n _ _).trans service
    have reported : k.reportYield.evl.yieldReported = true :=
      (reportYield_wentOn kUnreported foundEarly kService).reported
    have second := reportYield_of_silent (n := k.reportYield.setEvl (k.reportYield.evl.lineStages p x))
      (.inl (((lineStages_tracks p x).reported _).trans reported))
    refine ⟨_, fun e => (e.lineStages p x).scanStage x, (scanStage_tracks x).comp (lineStages_tracks p x), foundEarly,
      early, rfl, (passPair_eq n p x).trans ?_⟩
    exact congrArg (fun j : Node => j.setEvl (j.evl.scanStage x)) second
  | false =>
    have line := ((lineStages_tracks p x).comp (earlyStages_tracks p x)).keeps n.evl
    have first := reportYield_of_silent (n := markedWith n x.held (n.evl.earlyStages p x)) (.inr foundEarly)
    refine ⟨_, _, scanStage_tracks x, found, line, rfl, ?_⟩
    rw [passPair_eq]
    simp only [first]
    rfl

/-- The evaluator that has reported yield. -/
def reportedIn (e : Evl) : Evl := { e with yieldReported := true }

/-- The evaluator whose report has closed LAST. -/
def lastClosedIn (n : Node) (e : Evl) : Evl := endingBy (n.setEvl (reportedIn e)) .lastSegment

section
variable {e : Evl} {left : Evl → Evl} (h : ReportsAt n p x e left)
include h

theorem ReportsAt.left_reported : left (reportedIn e) = reportedIn (allStages p x n.evl) :=
  (h.tracks.commutes (fun _ _ => rfl) e).trans (congrArg reportedIn h.whole)

theorem ReportsAt.left_lastClosed : left (lastClosedIn n e) = lastClosedIn n (allStages p x n.evl) :=
  (h.tracks.commutes (fun _ _ => rfl) e).trans (congrArg (lastClosedIn n) h.whole)

theorem ReportsAt.queue : e.queue = n.evl.queue := (congrArg Evl.queue h.keeps).trans rfl

theorem ReportsAt.closing : e.closing = n.evl.closing := (congrArg Evl.closing h.keeps).trans rfl

theorem ReportsAt.unreported : e.yieldReported = n.evl.yieldReported :=
  (congrArg Evl.yieldReported h.keeps).trans rfl

theorem ReportsAt.collecting : (markedWith n x.held e).collecting = n.collecting := by
  have st : e.record.st = n.evl.record.st := (congrArg (fun e : Evl => e.record.st) h.keeps).trans rfl
  unfold Node.collecting Node.evalLive
  rw [markedWith_inService, ← st]
  rfl

variable (service : n.inService = true) (unreported : n.evl.yieldReported = false)
include service unreported

theorem ReportsAt.wentOn : WentOn (seenBy (markedWith n x.held e)) (markedWith n x.held e).reportYield :=
  reportYield_wentOn (h.unreported.trans unreported) h.found ((markedWith_inService n _ e).trans service)

theorem ReportsAt.marks : (n.passPair p x).seq.yieldSeen = true ∧ (n.passPair p x).evl.yieldReported = true := by
  have went := h.wentOn service unreported
  rw [h.passes]
  exact ⟨went.seen, (h.tracks.reported _).trans went.reported⟩

/-- With entries queued the report closes the record at most; the stages that are left are passed. -/
theorem ReportsAt.evl_of_queued (hq : n.evl.queue ≠ []) :
    (n.passPair p x).evl = reportedIn (allStages p x n.evl) ∨
      (n.passPair p x).evl = lastClosedIn n (allStages p x n.evl) := by
  have queued : (seenBy (markedWith n x.held e)).evl.queue ≠ [] := fun empty => hq (h.queue.symm.trans empty)
  rw [h.passes]
  exact ((h.wentOn service unreported).queued queued).imp (fun evl => (congrArg left evl).trans h.left_reported)
    fun evl => (congrArg left evl).trans h.left_lastClosed

omit service in
/-- Where no YIELD-SEEN entry is OPEN in RUNNING the report sets its marks alone. -/
theorem ReportsAt.passPair_of_unmet (unmet : ¬(seenBy (markedWith n x.held e)).yieldMet = true) : n.passPair p x =
    { markedWith n x.held (reportedIn (allStages p x n.evl)) with
      seq := { (n.reportHeld x.held).seq with yieldSeen := true } } := by
  rw [h.passes, reportYield_of_unmet (h.unreported.trans unreported) h.found unmet]
  exact congrArg (seenBy (markedWith n x.held e)).setEvl h.left_reported

variable (met : (seenBy (markedWith n x.held e)).yieldMet = true)
include met

omit service in
theorem ReportsAt.reportYield_of_met :
    (markedWith n x.held e).reportYield = (seenBy (markedWith n x.held e)).closeAndGoOn :=
  Proofs.reportYield_of_met (h.unreported.trans unreported) h.found met

omit service in
/-- The OPEN entry is closed as a held pair has marked it. -/
theorem ReportsAt.closedBy : (n.setSeq (n.reportHeld x.held).seq).closedBy (n.passPair p x) .condition n.now := by
  intro g hg
  rw [h.passes, h.reportYield_of_met unreported met]
  exact closeAndGoOn_closedBy (seenBy (markedWith n x.held e)) g hg

/-- A report that closes LAST closes the record, with entries queued. -/
theorem ReportsAt.evl_of_last {g : Segment} (hc : n.collecting = true) (hq : n.evl.queue ≠ [])
    (hm : n.evl.closing = none) (hg : n.seq.openEntry = some g) (last : g.fields.last = true) :
    (n.passPair p x).evl = lastClosedIn n (allStages p x n.evl) := by
  let k := seenBy (markedWith n x.held e)
  obtain ⟨g', hg', fields⟩ := (reportHeld_reported n x.held).openEntry hg
  have ends : (markedWith n x.held e).reportYield.evl = (k.evalEnding .lastSegment).evl := by
    rw [h.reportYield_of_met unreported met]
    exact closeAndGoOn_evl_of_last ((markedWith_inService n _ e).trans service) hg' (fields ▸ last)
  rw [evalEnding_of_queued (n := k) _ (h.collecting.trans hc) (h.closing.trans hm)
    fun empty => hq (h.queue.symm.trans empty)] at ends
  rw [h.passes]
  exact (congrArg left ends).trans h.left_lastClosed

end

end

/-- Settles O52: the samples by the conditions of R155, a round and an overflow by the strain they find, and a pair by
whether its report is due and what it closes. -/
theorem pairingAttemptAndYieldSeen : Obligations.PairingAttemptAndYieldSeen := by
  refine ⟨fun n e => ?_, fun n p l rest k hc hp hq => ?_, fun n p x hc => ?_⟩
  · intro ordered inTime taken joins
    have takes : n.takesLoad e = true ↔ taken := takesLoad_iff n e
    exact ⟨fun h => evalLoad_of_refused (mt takes.mp h), fun h => evalLoad_of_room (takes.mpr h),
      fun h => evalLoad_of_full (takes.mpr h), fun h => if_neg (by simp [h]), fun h => if_pos h, rfl⟩
  · intro pop causes c answer
    refine ⟨fun h => pairRounds_of_wait hq h k, fun a h fault => ?_, fun a h sound => ?_, fun h => ?_,
      fun e h => ⟨fun fault => ?_, fun sound => ?_⟩⟩
    · rw [pairRounds_of_answer hc hq h, pairWith_popLoad_of_fault hq fault]
      rfl
    · rw [pairRounds_of_answer hc hq h, pairWith_of_answer hp sound]
      rfl
    · rw [overflow_of_unstrained hq h, popLoad_of_front hq]
      rfl
    · rw [overflow_of_strain hq h, pairWith_popLoad_of_fault hq fault]
      rfl
    · rw [overflow_of_strain hq h, pairWith_of_answer hp sound]
      rfl
  · intro early line found mark marked m
    have seq : marked = (n.reportHeld x.held).seq := by
      cases held : x.held with
      | false => simp only [marked, held]; rfl
      | true =>
        cases he : n.seq.openEntry with
        | none => simp only [marked, held, he, reportHeld_of_none he]
        | some g => simp only [marked, held, he, reportHeld_of_open he]; rfl
    refine ⟨fun silent => by rw [seq]; exact passPair_of_silent silent, ?_⟩
    intro passed lastClosed unreported hfound
    obtain ⟨live, -⟩ : n.evalLive = true ∧ n.evl.record.st = .collecting := by simpa [Node.collecting] using hc
    obtain ⟨service, eval⟩ : n.inService = true ∧ n.roles.eval = true := by simpa [Node.evalLive] using live
    obtain ⟨e, left, h⟩ := exists_reportsAt service unreported hfound
    have met_iff := seenBy_yieldMet_iff n x.held e
    obtain ⟨seen, reported⟩ := h.marks service unreported
    refine ⟨seen, reported, h.evl_of_queued service unreported, fun g queued unclosed running hg kind last => ?_,
      fun g running _ hg kind => ?_, fun unmet => ?_⟩
    · exact h.evl_of_last service unreported (met_iff.mpr ⟨running, eval, g, hg, kind⟩) hc queued unclosed hg last
    · rw [seq]
      exact h.closedBy unreported (met_iff.mpr ⟨running, eval, g, hg, kind⟩)
    · rw [seq]
      refine h.passPair_of_unmet unreported fun met => ?_
      obtain ⟨running, -, g, hg, kind⟩ := met_iff.mp met
      rcases unmet with idle | closed | ⟨g', hg', other⟩
      · exact idle running
      · exact absurd (closed.symm.trans hg) nofun
      · exact other (Option.some.inj (hg'.symm.trans hg) ▸ kind)

end Sys2Proof.Proofs
end

section
/-! PROOFS. Health: one update of a score, what it leaves of the other scores and of the node, and the DEGRADED flag of
each channel (R176 to R181, R183). -/
namespace Sys2Proof.Proofs
open Sys2Proof Sys2Proof.Machine Sys2Proof.Laws

/-! ### An update handed to the node (R176) -/

theorem health_of_outOfService {n : Node} (a : HealthId) (x : Int) (idle : n.inService = false) : n.health a x = n :=
  if_neg (Bool.eq_false_iff.mp idle)

theorem health_of_inService {n : Node} (a : HealthId) (x : Int) (live : n.inService = true) :
    n.health a x = { n with hlm := n.hlm.set a ((n.hlm.get a).updated a n.img x) } := if_pos live

theorem health_get_self {n : Node} (a : HealthId) (x : Int) (live : n.inService = true) :
    (n.health a x).hlm.get a = (n.hlm.get a).updated a n.img x := by
  rw [health_of_inService a x live, hlm_get_set, if_pos rfl]

theorem health_get_other {n : Node} {a b : HealthId} (x : Int) (live : n.inService = true) (other : b ≠ a) :
    (n.health a x).hlm.get b = n.hlm.get b := by
  rw [health_of_inService a x live, hlm_get_set, if_neg other]

/-! ### The score that is updated (R177 to R181) -/

theorem not_onItsOwn (a : HealthId) : (!a.onItsOwn) = decide (a ≠ .zeroDrift ∧ a ≠ .balanceResidue) := by
  cases a <;> rfl

theorem updated_worst_le_value (s : Score) (a : HealthId) (img : Image) (x : Int) :
    (s.updated a img x).worst ≤ (s.updated a img x).value := Int.min_le_right _ _

/-- A value below the threshold trips; of the others only the first two attributes clear the flag. -/
theorem updated_tripped (s : Score) (a : HealthId) (img : Image) (x : Int) :
    (s.updated a img x).tripped = (decide ((s.updated a img x).value < s.threshold) ||
      (s.tripped && decide (a ≠ .zeroDrift ∧ a ≠ .balanceResidue))) := by
  rw [← not_onItsOwn]
  rfl

/-! ### The DEGRADED flag (R183) -/

theorem degraded_load_iff (h : Hlm) : h.degraded .load = true ↔
    h.zeroDrift.tripped = true ∨ h.balanceResidue.tripped = true ∨ h.bus.tripped = true := by
  simp only [Hlm.degraded, Bool.or_eq_true, or_assoc]

theorem degraded_travel_iff (h : Hlm) : h.degraded .travel = true ↔
    h.following.tripped = true ∨ h.level.tripped = true ∨ h.bus.tripped = true := by
  simp only [Hlm.degraded, Bool.or_eq_true, or_assoc]

theorem degraded_strain_iff (h : Hlm) : h.degraded .strain = true ↔
    h.armDisagree.tripped = true ∨ h.slip.tripped = true ∨ h.bus.tripped = true := by
  simp only [Hlm.degraded, Bool.or_eq_true, or_assoc]

/-- Settles O55: the updated score with its frame, its measure and value attribute by attribute, and the flag of each
channel. -/
theorem healthUpdateAndDegraded : Obligations.HealthUpdateAndDegraded := by
  refine ⟨fun n a x => ⟨health_of_outOfService a x, fun live => ?_⟩,
    fun h => ⟨degraded_load_iff h, degraded_travel_iff h, degraded_strain_iff h⟩⟩
  intro s m s' left
  have frame : m = { n with hlm := m.hlm } := by simp only [m, health_of_inService a x live]
  have taken : s' = s.updated a n.img x := health_get_self a x live
  refine ⟨frame, taken, fun b other => health_get_other x live other, ?_⟩
  rw [taken]
  refine ⟨rfl, rfl, updated_worst_le_value s a n.img x, updated_tripped s a n.img x, ?_⟩
  -- each attribute's clause is its branch of `measured` and of `scored`
  refine ⟨?_, ?_, ?_, ?_, ?_, ?_, ?_⟩ <;> rintro rfl <;> exact ⟨rfl, rfl⟩

end Sys2Proof.Proofs
end

section
/-! PROOFS. The judging of an image: the first field out of range, the range of each field, the consistency checks in
their order, and where the fields of an image lie (R187, R188, 11.3, 12.5). -/
namespace Sys2Proof.Proofs
open Sys2Proof Sys2Proof.Machine Sys2Proof.Laws

/-! ### The first that fails (R187, R188) -/

theorem firstOut_eq_none_iff (l : List (Nat × Bool)) : firstOut l = none ↔ ∀ x ∈ l, x.2 = true := by
  simp [firstOut]

theorem firstOut_eq_some_iff (l : List (Nat × Bool)) (k : Nat) : firstOut l = some k ↔
    ∃ pre post, l = pre ++ (k, false) :: post ∧ ∀ x ∈ pre, x.2 = true := by
  simp only [firstOut, Option.map_eq_some_iff, List.find?_eq_some_iff_append, Bool.not_eq_true', Bool.not_not]
  constructor
  · rintro ⟨⟨j, _⟩, ⟨rfl, pre, post, rfl, passed⟩, rfl⟩
    exact ⟨pre, post, rfl, passed⟩
  · rintro ⟨pre, post, rfl, passed⟩
    exact ⟨(k, false), ⟨rfl, pre, post, rfl, passed⟩, rfl⟩

theorem firstFailing_eq_none_iff (l : List Check) : firstFailing l = none ↔ ∀ x ∈ l, x.ok = true := by
  simp [firstFailing]

theorem firstFailing_eq_some_iff (l : List Check) (code : FaultCode) (k : Nat) :
    firstFailing l = some (code, k) ↔
      ∃ pre post, l = pre ++ ⟨false, code, k⟩ :: post ∧ ∀ x ∈ pre, x.ok = true := by
  simp only [firstFailing, Option.map_eq_some_iff, List.find?_eq_some_iff_append, Bool.not_eq_true', Bool.not_not]
  constructor
  · rintro ⟨⟨_, c, j⟩, ⟨rfl, pre, post, rfl, passed⟩, reported⟩
    cases reported
    exact ⟨pre, post, rfl, passed⟩
  · rintro ⟨pre, post, rfl, passed⟩
    exact ⟨⟨false, code, k⟩, ⟨rfl, pre, post, rfl, passed⟩, rfl⟩

/-! ### What a byte and a range say -/

theorem natAt_lt (p : List Byte) (i : Nat) : natAt p i < 256 := (byteAt p i).isLt

theorem nat16At_lt (p : List Byte) (i : Nat) : nat16At p i < 65536 := by
  have high := natAt_lt p i
  have low := natAt_lt p (i + 1)
  simp only [nat16At]
  omega

theorem byteAt_eq_iff (p : List Byte) (i : Nat) (x : Byte) : byteAt p i = x ↔ natAt p i = x.toNat :=
  BitVec.toNat_inj.symm

theorem inRange_iff (lo hi x : Nat) : inRange lo hi x = true ↔ lo ≤ x ∧ x ≤ hi := by
  simp only [inRange, Bool.and_eq_true, decide_eq_true_eq]

/-- A range without a lower bound of its own. -/
theorem inRange_zero_iff (hi x : Nat) : inRange 0 hi x = true ↔ x ≤ hi := by
  rw [inRange_iff]
  omega

/-- A range whose upper bound is the greatest value of the field. -/
theorem inRange_iff_of_le {lo hi x : Nat} (h : x ≤ hi) : inRange lo hi x = true ↔ lo ≤ x := by
  rw [inRange_iff]
  omega

theorem within_iff (bound x : Int) : within bound x = true ↔ -bound ≤ x ∧ x ≤ bound := by
  simp only [within, Bool.and_eq_true, decide_eq_true_eq]

/-! ### A subscription and a table in range (11.3) -/

theorem channel_isSome_iff (p : List Byte) (i : Nat) :
    (Channel.ofCode (byteAt p i)).isSome = true ↔ 1 ≤ natAt p i ∧ natAt p i ≤ 3 := by
  have coded : (Channel.ofCode (byteAt p i)).isSome = true ↔
      byteAt p i = 1 ∨ byteAt p i = 2 ∨ byteAt p i = 3 := by
    unfold Channel.ofCode
    repeat' split
    all_goals simp_all
  simp only [coded, byteAt_eq_iff, BitVec.ofNat_eq_ofNat, BitVec.reduceToNat]
  omega

theorem use_isSome_iff (p : List Byte) (i : Nat) :
    (SubUse.ofCode (byteAt p i)).isSome = true ↔ 1 ≤ natAt p i ∧ natAt p i ≤ 4 := by
  have coded : (SubUse.ofCode (byteAt p i)).isSome = true ↔
      natAt p i = 1 ∨ natAt p i = 2 ∨ natAt p i = 3 ∨ natAt p i = 4 := by
    unfold SubUse.ofCode natAt
    split <;> simp_all
  rw [coded]
  omega

theorem subRangeOk_iff (b : List Byte) (i : Nat) : subRangeOk b i = true ↔
    natAt b (8 + 4 * i) = 0 ∨ natAt b (8 + 4 * i) = 1 ∧ natAt b (8 + 4 * i + 1) ≤ 15 ∧
      (1 ≤ natAt b (8 + 4 * i + 2) ∧ natAt b (8 + 4 * i + 2) ≤ 3) ∧
      1 ≤ natAt b (8 + 4 * i + 3) ∧ natAt b (8 + 4 * i + 3) ≤ 4 := by
  unfold subRangeOk subAddr
  simp only [Bool.or_eq_true, Bool.and_eq_true, beq_iff_eq, decide_eq_true_eq,
    channel_isSome_iff, use_isSome_iff, byteAt_eq_iff, BitVec.ofNat_eq_ofNat, BitVec.reduceToNat]
  omega

theorem tableRangeOk_iff (b : List Byte) (r : Nat) : tableRangeOk b r = true ↔
    (2 ≤ natAt b (108 + 97 * r) ∧ natAt b (108 + 97 * r) ≤ 12) ∧ ∀ k, k < natAt b (108 + 97 * r) →
      (-2000000000 ≤ int32At b (108 + 97 * r + 1 + 8 * k) ∧ int32At b (108 + 97 * r + 1 + 8 * k) ≤ 2000000000) ∧
      -30000000 ≤ int32At b (108 + 97 * r + 5 + 8 * k) ∧ int32At b (108 + 97 * r + 5 + 8 * k) ≤ 30000000 := by
  simp only [tableRangeOk, tableAt, tableAddr, Bool.and_eq_true, inRange_iff, List.all_eq_true, List.mem_map,
    List.mem_range, forall_exists_index, and_imp, forall_apply_eq_imp_iff₂, pointAt, within_iff, lengthLimit,
    forceLimit]

/-! ### The range of a field (R187) -/

/-- In a list of ranges that names each field once, a field has one entry. -/
theorem entry_unique {l : List (Nat × Bool)} {k : Nat} {ok ok' : Bool} (once : (l.map (·.1)).Nodup)
    (h : (k, ok) ∈ l) (h' : (k, ok') ∈ l) : ok = ok' := by
  induction l with
  | nil => exact absurd h List.not_mem_nil
  | cons x l ih =>
    obtain ⟨fresh, rest⟩ := List.nodup_cons.mp once
    have elsewhere {o : Bool} (g : (k, o) ∈ l) : x.1 ≠ k := fun e => fresh (List.mem_map.mpr ⟨_, g, e.symm⟩)
    rcases List.mem_cons.mp h with e | h <;> rcases List.mem_cons.mp h' with e' | h'
    · exact congrArg Prod.snd (e.trans e'.symm)
    · exact absurd (congrArg Prod.fst e.symm) (elsewhere h')
    · exact absurd (congrArg Prod.fst e'.symm) (elsewhere h)
    · exact ih rest h h'

theorem ranged_iff {l : List (Nat × Bool)} {k : Nat} {ok : Bool} (once : (l.map (·.1)).Nodup) (h : (k, ok) ∈ l) :
    (k, true) ∈ l ↔ ok = true :=
  ⟨fun good => entry_unique once h good, fun good => good ▸ h⟩

theorem fieldRanges_numbers (b : List Byte) : (fieldRanges b).map (·.1) = List.range' 3 46 := rfl

/-- Field `k` of step 3 has its entry in its place by number. -/
theorem field_iff {b : List Byte} {ok : Bool} {p : Prop} (k : Nat) (h : (fieldRanges b)[k - 3]? = some (k, ok))
    (hp : ok = true ↔ p) : (k, true) ∈ fieldRanges b ↔ p :=
  (ranged_iff (fieldRanges_numbers b ▸ List.nodup_range') (List.mem_of_getElem? h)).trans hp

theorem identity_iff {b : List Byte} {ok : Bool} {p : Prop} (k : Nat)
    (h : (identityRanges b)[k - 1]? = some (k, ok)) (hp : ok = true ↔ p) : (k, true) ∈ identityRanges b ↔ p :=
  (ranged_iff (l := identityRanges b) (show [1, 2].Nodup by decide) (List.mem_of_getElem? h)).trans hp

theorem subscription_entry (b : List Byte) {i : Nat} (h : i < 4) :
    (fieldRanges b)[8 + i - 3]? = some (8 + i, subRangeOk b i) := by
  match i, h with
  | 0, _ => rfl
  | 1, _ => rfl
  | 2, _ => rfl
  | 3, _ => rfl

theorem table_entry (b : List Byte) {r : Nat} (h : r < 4) :
    (fieldRanges b)[26 + r - 3]? = some (26 + r, tableRangeOk b r) := by
  match r, h with
  | 0, _ => rfl
  | 1, _ => rfl
  | 2, _ => rfl
  | 3, _ => rfl

theorem threshold_entry (b : List Byte) {i : Nat} (h : i < 7) :
    (fieldRanges b)[40 + i - 3]? = some (40 + i, inRange 0 100 (natAt b (93 + i))) := by
  match i, h with
  | 0, _ => rfl
  | 1, _ => rfl
  | 2, _ => rfl
  | 3, _ => rfl
  | 4, _ => rfl
  | 5, _ => rfl
  | 6, _ => rfl

/-! ### The consistency checks (R188) -/

/-- What a check is: its code, the field it reports, and the condition it tests. -/
def IsCheckOf (x : Check) (p : FaultCode × Nat × Prop) : Prop :=
  x.code = p.1 ∧ x.field = p.2.1 ∧ (x.ok = true ↔ p.2.2)

/-- Lists of checks of which each is what its place in the other list says. -/
def ChecksAre (l : List Check) (ps : List (FaultCode × Nat × Prop)) : Prop :=
  l.length = ps.length ∧ ∀ (k : Nat) (x : Check) (p : FaultCode × Nat × Prop),
    l[k]? = some x → ps[k]? = some p → IsCheckOf x p

theorem ChecksAre.nil : ChecksAre [] [] := ⟨rfl, fun _ _ _ h => nomatch h⟩

theorem ChecksAre.cons {x : Check} {p : FaultCode × Nat × Prop} {l : List Check} {ps : List (FaultCode × Nat × Prop)}
    (first : IsCheckOf x p) (rest : ChecksAre l ps) : ChecksAre (x :: l) (p :: ps) := by
  refine ⟨congrArg Nat.succ rest.1, fun k y r hy hr => ?_⟩
  cases k with
  | zero =>
    cases hy
    cases hr
    exact first
  | succ k => exact rest.2 k y r hy hr

theorem ChecksAre.append {l m : List Check} {ps rs : List (FaultCode × Nat × Prop)} (front : ChecksAre l ps)
    (back : ChecksAre m rs) : ChecksAre (l ++ m) (ps ++ rs) := by
  induction l generalizing ps with
  | nil =>
    cases ps with
    | nil => exact back
    | cons p ps => exact nomatch front.1
  | cons x l ih =>
    cases ps with
    | nil => exact nomatch front.1
    | cons p ps =>
      have rest : ChecksAre l ps := ⟨Nat.succ.inj front.1, fun k => front.2 (k + 1)⟩
      exact .cons (front.2 0 x p rfl rfl) (ih rest)

theorem ChecksAre.map {α : Type} {f : α → Check} {g : α → FaultCode × Nat × Prop}
    (h : ∀ a, IsCheckOf (f a) (g a)) : (l : List α) → ChecksAre (l.map f) (l.map g)
  | [] => .nil
  | a :: l => .cons (h a) (.map h l)

theorem strictlyRising_cons_cons (a b : CalPoint) (t : List CalPoint) :
    strictlyRising (a :: b :: t) = true ↔ a.code < b.code ∧ strictlyRising (b :: t) = true := by
  rw [strictlyRising, Bool.and_eq_true, decide_eq_true_iff]

/-- A table of fewer than two points has no neighbours to compare. -/
theorem length_of_neighbours {t pre post : List CalPoint} {p q : CalPoint} (e : t = pre ++ p :: q :: post) :
    2 ≤ t.length := by
  rw [e, List.length_append, List.length_cons, List.length_cons]
  omega

theorem strictlyRising_iff : (t : List CalPoint) →
    (strictlyRising t = true ↔ ∀ pre p q post, t = pre ++ p :: q :: post → p.code < q.code)
  | [] => ⟨fun _ _ _ _ _ e => absurd (length_of_neighbours e) (show ¬2 ≤ 0 by decide), fun _ => rfl⟩
  | [_] => ⟨fun _ _ _ _ _ e => absurd (length_of_neighbours e) (show ¬2 ≤ 1 by decide), fun _ => rfl⟩
  | a :: b :: t => by
    rw [strictlyRising_cons_cons, strictlyRising_iff (b :: t)]
    constructor
    · rintro ⟨first, rest⟩ pre p q post e
      cases pre with
      | nil =>
        cases e
        exact first
      | cons c pre => exact rest pre p q post (List.cons.inj e).2
    · intro h
      exact ⟨h [] a b t rfl, fun pre p q post e => h (a :: pre) p q post (congrArg (a :: ·) e)⟩

theorem mem_allSubs (i : Fin 4) : i ∈ allSubs := by
  revert i
  decide

theorem hasUse_iff (img : Image) (u : SubUse) :
    img.hasUse u = true ↔ ∃ (i : Fin 4) (c : SubCfg), img.subs[i] = some c ∧ c.use = u := by
  simp only [Image.hasUse, List.any_eq_true, mem_allSubs, true_and]
  refine exists_congr fun i => ?_
  cases img.subs[i] <;> simp

theorem noEarlier_iff (img : Image) (i : Fin 4) (c : SubCfg) (same : SubCfg → SubCfg → Bool) :
    noEarlier img i c same = true ↔ ¬∃ j d, j < i ∧ img.subs[j] = some d ∧ same d c = true := by
  simp only [noEarlier, List.all_eq_true, mem_allSubs, true_imp_iff, not_exists]
  refine forall_congr' fun j => ?_
  cases img.subs[j] with
  | none => simp
  | some d => by_cases h : j < i <;> simp [h]

/-- A check made of each subscription in turn reports the subscription's field. -/
theorem eachSub_are (img : Image) {ok : Fin 4 → SubCfg → Bool} {p : Fin 4 → SubCfg → Prop}
    (h : ∀ i c, ok i c = true ↔ p i c) :
    ChecksAre (eachSub img ok) (([0, 1, 2, 3] : List (Fin 4)).map fun i =>
      (FaultCode.subscription, 8 + i.val, ∀ c, img.subs[i] = some c → p i c)) := by
  refine ChecksAre.map (fun i => ⟨rfl, rfl, ?_⟩) allSubs
  cases img.subs[i] with
  | none => simp only [reduceCtorEq, false_imp_iff, implies_true]
  | some c => simp only [h, Option.some.injEq, forall_eq']

theorem channel_fits_iff (ch : Channel) (u : SubUse) :
    ch = u.channel ↔ (ch = .load ↔ u = .loadSource) ∧ (ch = .strain ↔ u = .strainSource) := by
  cases u <;> cases ch <;> decide

theorem useFitsRoles_iff (r : Roles) (u : SubUse) : useFitsRoles r u = true ↔
    (u = .loadSource → r.load = false) ∧ (u = .strainSource → r.ext = false) ∧
      (u = .partnerTravel → r.drive = true) := by
  cases u <;> simp [useFitsRoles]

theorem needs_iff (role has : Bool) : (!role || has) = true ↔ (role = true → has = true) := by
  cases role <;> simp

theorem consistencyChecks_eq (img : Image) : consistencyChecks img = limitChecks img ++
    eachSub img (fun _ c => c.peer != img.nodeId) ++ eachSub img (fun _ c => c.channel == c.use.channel) ++
    eachSub img (fun i c => noEarlier img i c fun d c => d.peer == c.peer && d.channel == c.channel) ++
    eachSub img (fun i c => c.use == .otherTravel || noEarlier img i c fun d c => d.use == c.use) ++
    eachSub img (fun _ c => useFitsRoles (rolesOf img.roles) c.use) ++ sourceChecks img := by
  simp only [consistencyChecks, subChecks, List.append_assoc]

/-- Checks 1 to 4: three limits, and each table rising. -/
theorem limitChecks_are (img : Image) :
    let rises (r : Fin 4) : Prop := ∀ pre p q post, img.load.tables[r] = pre ++ p :: q :: post → p.code < q.code
    ChecksAre (limitChecks img)
      [(.limits, 17, img.drive.vMin < img.drive.vMax), (.limits, 18, img.drive.vMax ≤ 1000000 * img.drive.step),
        (.limits, 21, img.drive.travelMin < img.drive.travelMax), (.calibration, 26, rises 0),
        (.calibration, 27, rises 1), (.calibration, 28, rises 2), (.calibration, 29, rises 3)] := by
  intro rises
  have limit (k : Nat) (p : Prop) [Decidable p] : IsCheckOf ⟨decide p, .limits, k⟩ (.limits, k, p) :=
    ⟨rfl, rfl, decide_eq_true_iff⟩
  have table (k : Nat) (r : Fin 4) : IsCheckOf ⟨strictlyRising img.load.tables[r], .calibration, k⟩
      (.calibration, k, rises r) := ⟨rfl, rfl, strictlyRising_iff _⟩
  exact .cons (limit 17 _) (.cons (limit 18 _) (.cons (limit 21 _) (.cons (table 26 0) (.cons (table 27 1)
    (.cons (table 28 2) (.cons (table 29 3) .nil))))))

/-- Checks 10 to 12: a role and the sources it needs. -/
theorem sourceChecks_are (img : Image) :
    let roles := rolesOf img.roles
    let has (u : SubUse) : Prop := ∃ (i : Fin 4) (c : SubCfg), img.subs[i] = some c ∧ c.use = u
    let force : Prop := roles.load = true ∨ has .loadSource
    let strain : Prop := roles.ext = true ∨ has .strainSource
    let travel : Prop := roles.drive = true ∨ has .partnerTravel ∨ has .otherTravel
    ChecksAre (sourceChecks img)
      [(.source, 3, roles.drive = true → force), (.source, 3, roles.eval = true → force ∧ strain),
        (.source, 3, roles.ext = true → force ∧ travel)] := by
  intro roles has force strain travel
  have hasForce_iff : hasForce img = true ↔ force := by rw [hasForce, Bool.or_eq_true, hasUse_iff]
  have hasStrain_iff : hasStrain img = true ↔ strain := by rw [hasStrain, Bool.or_eq_true, hasUse_iff]
  have hasTravel_iff : hasTravel img = true ↔ travel := by
    rw [hasTravel, Bool.or_eq_true, Bool.or_eq_true, hasUse_iff, hasUse_iff, or_assoc]
  refine .cons ⟨rfl, rfl, ?_⟩ (.cons ⟨rfl, rfl, ?_⟩ (.cons ⟨rfl, rfl, ?_⟩ .nil))
  · rw [needs_iff, hasForce_iff]
  · rw [needs_iff, Bool.and_eq_true, hasForce_iff, hasStrain_iff]
  · rw [needs_iff, Bool.and_eq_true, hasForce_iff, hasTravel_iff]

/-! ### Where the fields lie (11.3, 12.5) -/

/-- An entry of four in their order. -/
theorem vector4_get {α : Type} (f : Fin 4 → α) (i : Fin 4) : (#v[f 0, f 1, f 2, f 3] : Vector α 4)[i] = f i := by
  match i with
  | 0 => rfl
  | 1 => rfl
  | 2 => rfl
  | 3 => rfl

theorem imageOf_subs (b : List Byte) (i : Fin 4) : (imageOf b).subs[i] = subAt b i.val :=
  vector4_get (fun k => subAt b k.val) i

theorem imageOf_tables (b : List Byte) (r : Fin 4) : (imageOf b).load.tables[r] = tableAt b r.val :=
  vector4_get (fun k => tableAt b k.val) r

theorem imageOf_thresholds (b : List Byte) (i : Fin 7) :
    (imageOf b).health.thresholds[i] = natAt b (93 + i.val) := by
  match i with
  | 0 => rfl
  | 1 => rfl
  | 2 => rfl
  | 3 => rfl
  | 4 => rfl
  | 5 => rfl
  | 6 => rfl

/-- A station id is the low four bits of its byte. -/
theorem stationId_low (b : List Byte) (i : Nat) : (stationId ((byteAt b i).extractLsb' 0 4)).val = natAt b i % 16 := by
  simp only [stationId, natAt, BitVec.extractLsb'_toNat, Nat.shiftRight_zero, Nat.reducePow]

theorem channel_ofCode_code (c : Channel) : Channel.ofCode c.code = some c := by
  cases c <;> rfl

theorem use_ofCode_code (u : SubUse) : SubUse.ofCode u.code = some u := by
  cases u <;> rfl

/-- A subscription that is not marked present is not read. -/
theorem subAt_of_absent {b : List Byte} {i : Nat} (h : natAt b (8 + 4 * i) ≠ 1) : subAt b i = none :=
  if_neg fun present => h ((byteAt_eq_iff b _ 1).mp present)

theorem subAt_of_present {b : List Byte} {i : Nat} {c : Channel} {u : SubUse} (h : natAt b (8 + 4 * i) = 1)
    (hc : byteAt b (8 + 4 * i + 2) = c.code) (hu : byteAt b (8 + 4 * i + 3) = u.code) :
    subAt b i = some ⟨stationId ((byteAt b (8 + 4 * i + 1)).extractLsb' 0 4), c, u⟩ := by
  have present : byteAt b (subAddr i) = 1 := BitVec.eq_of_toNat_eq h
  simp only [subAt, present, if_true]
  simp only [subAddr, hc, hu, channel_ofCode_code, use_ofCode_code]

theorem fixedRangeOf_none {b : Byte} (h : b.toNat = 255) : fixedRangeOf b = none :=
  dif_neg (by omega)

theorem fixedRangeOf_some {b : Byte} {r : Fin 4} (h : b.toNat = r.val) : fixedRangeOf b = some r := by
  have lt := h ▸ r.isLt
  exact (dif_pos lt).trans (congrArg some (Fin.ext h))

theorem tableAt_point {b : List Byte} {r k : Nat} (h : k < natAt b (108 + 97 * r)) : (tableAt b r)[k]? =
    some ⟨int32At b (108 + 97 * r + 1 + 8 * k), int32At b (108 + 97 * r + 5 + 8 * k)⟩ := by
  simp only [tableAt, List.getElem?_map, tableAddr, List.getElem?_range h, Option.map_some, pointAt]

theorem tableAt_length (b : List Byte) (r : Nat) : (tableAt b r).length = natAt b (108 + 97 * r) := by
  simp only [tableAt, tableAddr, List.length_map, List.length_range]

/-- Settles O5: the first failure of a list; each field's range by its entry; the checks, list by list in the order of
R188; and the values of an image by its bytes. -/
theorem imageFieldsRangedAndChecked : Obligations.ImageFieldsRangedAndChecked := by
  refine ⟨fun l => ⟨firstOut_eq_none_iff l, firstOut_eq_some_iff l⟩,
    fun l => ⟨firstFailing_eq_none_iff l, firstFailing_eq_some_iff l⟩, fun b => ?_, fun img => ?_, fun b => ?_⟩
  · have word (a : Nat) := Nat.le_of_lt_succ (nat16At_lt b a)
    have byte (a : Nat) := Nat.le_of_lt_succ (natAt_lt b a)
    exact ⟨rfl, fieldRanges_numbers b, identity_iff 1 rfl (decide_eq_true_iff.trans Nat.lt_succ_iff),
      identity_iff 2 rfl (by simp only [Bool.or_eq_true, beq_iff_eq, or_assoc]),
      field_iff 3 rfl (inRange_iff _ _ _), field_iff 4 rfl (inRange_zero_iff _ _),
      field_iff 5 rfl (inRange_zero_iff _ _), field_iff 6 rfl (inRange_zero_iff _ _),
      field_iff 7 rfl (inRange_iff _ _ _), fun i hi => field_iff (8 + i) (subscription_entry b hi) (subRangeOk_iff b i),
      field_iff 12 rfl (inRange_zero_iff _ _), field_iff 13 rfl (inRange_iff_of_le (word 26)),
      field_iff 14 rfl (inRange_iff_of_le (word 28)), field_iff 15 rfl (inRange_iff_of_le (word 30)),
      field_iff 16 rfl (inRange_iff_of_le (word 32)), field_iff 17 rfl (inRange_iff _ _ _),
      field_iff 18 rfl (inRange_iff _ _ _), field_iff 19 rfl (inRange_iff _ _ _),
      field_iff 20 rfl (inRange_iff _ _ _), field_iff 21 rfl (within_iff _ _),
      field_iff 22 rfl (within_iff _ _), field_iff 23 rfl (inRange_iff _ _ _), field_iff 24 rfl (inRange_iff _ _ _),
      field_iff 25 rfl (by rw [Bool.or_eq_true, beq_iff_eq, inRange_zero_iff]),
      fun r hr => field_iff (26 + r) (table_entry b hr) (tableRangeOk_iff b r),
      field_iff 30 rfl (inRange_iff _ _ _), field_iff 31 rfl (inRange_zero_iff _ _),
      field_iff 32 rfl (inRange_iff _ _ _), field_iff 33 rfl (inRange_iff _ _ _),
      field_iff 34 rfl (inRange_iff _ _ _), field_iff 35 rfl (inRange_iff_of_le (byte 84)),
      field_iff 36 rfl (inRange_iff_of_le (byte 85)), field_iff 37 rfl (inRange_iff _ _ _),
      field_iff 38 rfl (inRange_iff _ _ _), field_iff 39 rfl (inRange_iff _ _ _),
      fun i hi => field_iff (40 + i) (threshold_entry b hi) (inRange_zero_iff _ _),
      field_iff 47 rfl (inRange_iff _ _ _), field_iff 48 rfl (inRange_iff _ _ _)⟩
  · intro roles has force strain travel rises each earlier subs checks
    show ChecksAre (consistencyChecks img) checks
    rw [consistencyChecks_eq]
    -- checks 1 to 4, then 5 to 9 of each subscription, then 10 to 12
    refine ((((((limitChecks_are img).append (eachSub_are img fun i c => ?_)).append
      (eachSub_are img fun i c => ?_)).append (eachSub_are img fun i c => ?_)).append
      (eachSub_are img fun i c => ?_)).append (eachSub_are img fun i c => ?_)).append (sourceChecks_are img)
    · exact bne_iff_ne
    · rw [beq_iff_eq, channel_fits_iff]
    · simp only [noEarlier_iff, Bool.and_eq_true, beq_iff_eq, earlier]
    · simp only [Bool.or_eq_true, noEarlier_iff, beq_iff_eq, earlier]
    · exact useFitsRoles_iff _ _
  · refine ⟨stationId_low b 0, rfl, rfl, rfl, rfl, rfl, rfl,
      fun i ch u => ⟨fun absent => ?_, fun present hc hu => ?_⟩, rfl, fixedRangeOf_none, fun r => fixedRangeOf_some,
      fun r => ?_, rfl, rfl, rfl, rfl, imageOf_thresholds b, rfl, rfl⟩
    · rw [imageOf_subs, subAt_of_absent absent]
    · exact ⟨_, stationId_low b _, (imageOf_subs b i).trans (subAt_of_present present hc hu)⟩
    · rw [imageOf_tables]
      exact ⟨tableAt_length b r, fun k => tableAt_point⟩

end Sys2Proof.Proofs
end

section
/-! PROOFS. The end of the image read: the judging stops at the first check that fails, and the node enters CONFIG-FAULT
or goes live (R10, R48, R77 to R79, R91, R176, R187 to R190). -/
namespace Sys2Proof.Proofs
open Sys2Proof Sys2Proof.Machine Sys2Proof.Laws

/-! ### The judging (R187) -/

theorem judgeImage_of_unchecked {b : List Byte} (check : imageCheckOk b = false) :
    judgeImage b = .faulty .check 0 {} := by
  simp only [judgeImage, check, Bool.false_eq_true, if_false]

theorem judgeImage_of_unidentified {b : List Byte} {field : Nat} (check : imageCheckOk b = true)
    (out : firstOut (identityRanges b) = some field) : judgeImage b = .faulty .identity field {} := by
  simp only [judgeImage, check, if_true, out]

theorem judgeImage_of_identified {b : List Byte} (check : imageCheckOk b = true)
    (identified : firstOut (identityRanges b) = none) : judgeImage b = judgeFields b := by
  simp only [judgeImage, check, if_true, identified]

/-- A field out of range, or else the first inconsistency, keeps the identity; the bus stays live. -/
theorem judgeImage_of_failing {b : List Byte} {code : FaultCode} {field : Nat} (check : imageCheckOk b = true)
    (identified : firstOut (identityRanges b) = none)
    (fails : firstOut (fieldRanges b) = some field ∧ code = .field ∨
      firstOut (fieldRanges b) = none ∧ firstFailing (consistencyChecks (imageOf b)) = some (code, field) ∧
        code ≠ .check ∧ code ≠ .identity) :
    judgeImage b = .faulty code field (identityOf b) ∧ code ≠ .check ∧ code ≠ .identity := by
  rw [judgeImage_of_identified check identified]
  rcases fails with ⟨out, rfl⟩ | ⟨ranged, inconsistent, notCheck, notIdentity⟩
  · exact ⟨by simp only [judgeFields, out], by decide, by decide⟩
  · exact ⟨by simp only [judgeFields, ranged, inconsistent], notCheck, notIdentity⟩

theorem judgeImage_of_good {b : List Byte} (check : imageCheckOk b = true)
    (identified : firstOut (identityRanges b) = none) (ranged : firstOut (fieldRanges b) = none)
    (consistent : firstFailing (consistencyChecks (imageOf b)) = none) :
    judgeImage b = .accepted (imageOf b) := by
  rw [judgeImage_of_identified check identified]
  simp only [judgeFields, ranged, consistent]

/-! ### The PRESENCE (R77, R79) -/

theorem sendPresence_of_notSent {n : Node} (h : n.sendsBulk = false) : n.sendPresence = n :=
  if_neg (Bool.eq_false_iff.mp h)

/-- An empty FIFO that owes no judging takes the PRESENCE. -/
theorem sendPresence_entered {n : Node} {status : List Byte} (sends : n.sendsBulk = true)
    (known : n.configStatus = status) (empty : n.fbc.fifo = []) (judged : n.fbc.removal = false) :
    ∃ e, n.sendPresence.fbc.fifo = [e] ∧ e.frame.kind = .presence ∧ e.frame.broadcast = true ∧
      e.frame.payload = [byteOf n.nodeId.val, n.img.roles &&& 0x0F, Config.partRevision] ++ status := by
  refine ⟨⟨broadcastFrame .presence n.presencePayload, n.now⟩, ?_, rfl, rfl, known ▸ rfl⟩
  simp only [Node.sendPresence, sends, if_true, setFbc_fields, submitBulk_of_judged _ _ judged, empty]
  rfl

theorem settlePending_stateSlot (b : Fbc) (now : Time) : (b.settlePending now).stateSlot = b.stateSlot := by
  unfold Fbc.settlePending
  repeat' split
  all_goals rfl

theorem submitBulk_stateSlot (b : Fbc) (f : TxFrame) (now : Time) :
    (b.submitBulk f now).stateSlot = b.stateSlot := by
  simp only [Fbc.submitBulk, apply_ite Fbc.stateSlot, settlePending_stateSlot, ite_self]

theorem sendPresence_stateSlot (n : Node) : n.sendPresence.fbc.stateSlot = n.fbc.stateSlot := by
  unfold Node.sendPresence
  split
  · exact submitBulk_stateSlot _ _ _
  · rfl

/-! ### Entry to CONFIG-FAULT (R189) -/

/-- The node in CONFIG-FAULT, before its PRESENCE. -/
def faulted (n : Node) (code : FaultCode) (field : Nat) (kept : Image) : Node := { n with
  sul := { reading := false, image := kept, fault := some (code, field) }
  seq := { n.seq with op := .configFault } }

theorem enterConfigFault_eq (n : Node) (code : FaultCode) (field : Nat) (kept : Image) :
    n.enterConfigFault code field kept = (faulted n code field kept).sendPresence := rfl

/-- The bus is live but for the codes CHECK and IDENTITY (R62). -/
theorem faulted_live {code : FaultCode} (hc : code ≠ .check) (hi : code ≠ .identity) (n : Node) (field : Nat)
    (kept : Image) : (faulted n code field kept).fbcLive = true := by
  cases code with
  | check => exact absurd rfl hc
  | identity => exact absurd rfl hi
  | _ => rfl

/-- With CHECK or IDENTITY the bus is not live, and no PRESENCE goes out. -/
theorem enterConfigFault_of_mute {code : FaultCode} (h : code = .check ∨ code = .identity) (n : Node) (field : Nat)
    (kept : Image) : n.enterConfigFault code field kept = faulted n code field kept := by
  rw [enterConfigFault_eq]
  refine sendPresence_of_notSent ?_
  rcases h with rfl | rfl <;> rfl

/-! ### Entry to ACTIVE (R190) -/

/-- The node in ACTIVE with test state READY, before its blocks go live. -/
def accepted (n : Node) (img : Image) : Node := { n with
  sul := { reading := false, image := img, fault := none }
  seq := { n.seq with op := .active, test := some .ready } }

/-- The blocks that go live without a look at the peers or the inputs. -/
def woken (n : Node) : Node := { n with
  lc := n.startLoad.lc
  hlm := n.hlm.withThresholds n.img.health.thresholds
  clk := n.clk.started
  filters := n.pins.filters
  hlt := { n.hlt with stopPrev := false, stopFound := false } }

/-- The node whose blocks are live, before its notice and its PRESENCE. -/
def broughtUp (n : Node) : Node := (woken n).startStaleness.startExt.resync

theorem goLive_eq (n : Node) : n.goLive = (broughtUp n).notice.sendPresence := by
  unfold broughtUp woken Node.goLive Node.startLoad
  split <;> rfl

theorem startLoad_lc (n : Node) :
    n.startLoad.lc = if n.roles.load then { n.lc with range := n.img.load.fixedRange.getD 3 } else n.lc := by
  unfold Node.startLoad
  split <;> rfl

theorem goLive_lc (n : Node) :
    n.goLive.lc = if n.roles.load then { n.lc with range := n.img.load.fixedRange.getD 3 } else n.lc := by
  rw [← startLoad_lc]
  simp [goLive_eq, broughtUp, woken]

theorem goLive_hlm (n : Node) : n.goLive.hlm = n.hlm.withThresholds n.img.health.thresholds := by
  simp [goLive_eq, broughtUp, woken]

theorem goLive_hlt (n : Node) : n.goLive.hlt = { n.hlt with stopPrev := false, stopFound := false } := by
  simp [goLive_eq, broughtUp, woken]

theorem goLive_time (n : Node) : n.goLive.clk.time = n.clk.time := by
  simp [goLive_eq, broughtUp, woken, Clock.started]

theorem startExt_exh {n : Node} (h : n.extLive = true) : n.startExt.exh = { n.exh with st := n.stateOfInputs } := by
  simp only [Node.startExt, h, if_true, putExh_exh]

/-- The extensometer state is taken from the inputs (R48). -/
theorem goLive_exh {n : Node} (h : n.extLive = true) : n.goLive.exh = { n.exh with st := n.stateOfInputs } := by
  have same : (woken n).startStaleness.extLive = true := h
  simp only [goLive_eq, broughtUp, sendPresence_frame, notice_frame, resync_frame, startExt_exh same]
  rfl

theorem startStaleness_sub {n : Node} {i : Fin 4} {c : SubCfg} (h : n.subCfg i = some c) :
    n.startStaleness.sub i = { n.sub i with staleAt := some (after n.now n.staleUs) } := by
  unfold Node.startStaleness
  extract_lets timed
  exact (vector4_get timed i).trans (by simp only [timed, h]; rfl)

theorem goLive_pta (n : Node) : n.goLive.pta = (woken n).startStaleness.pta := by
  simp [goLive_eq, broughtUp]

theorem goLive_peer (n : Node) (i : Fin 16) : n.goLive.peer i = n.peer i := by
  simp only [Node.peer, goLive_pta]
  rfl

/-- The staleness timer of a configured subscription starts (R91). -/
theorem goLive_staleAt {n : Node} {i : Fin 4} (h : n.subCfg i ≠ none) :
    (n.goLive.sub i).staleAt = some (after n.now (n.img.staleMs * 1000)) := by
  obtain ⟨c, hc⟩ := Option.ne_none_iff_exists'.mp h
  have same : (woken n).subCfg i = some c := hc
  have sub : n.goLive.sub i = (woken n).startStaleness.sub i := by simp only [Node.sub, goLive_pta]
  rw [sub, startStaleness_sub same]
  rfl

@[simp] theorem startExt_notices (k n : Node) (h : Notices k n) : Notices k n.startExt := by
  unfold Node.startExt
  split
  · simp [h]
  · exact h

/-- What goes live submits at most a notice. -/
theorem broughtUp_notices (n : Node) : Notices (woken n) (broughtUp n) := by
  have timers : Notices (woken n) (woken n).startStaleness := notices_of_same (.refl _) rfl rfl rfl rfl
  unfold broughtUp Node.resync
  split
  · simp [timers]
  · simp [timers]

/-- A STATE notice of the entry is in its slot (R78). -/
theorem goLive_stateSlot {n : Node} (h : n.active = true) : n.goLive.fbc.stateSlot = noticeSlot n := by
  have active : (broughtUp n).active = true := (broughtUp_notices n).active.trans h
  rw [goLive_eq, sendPresence_stateSlot, notice_eq, if_pos active]
  exact (broughtUp_notices n).noticeSlot

theorem startExt_bus (n : Node) : n.startExt.fbc = { n.fbc with stateSlot := n.startExt.fbc.stateSlot } := by
  unfold Node.startExt
  split
  · exact congrArg Node.fbc (putExh_leaves n _).1
  · rfl

/-- Before the PRESENCE, going live touches no more of the bus than the STATE slot. -/
theorem broughtUp_bus (n : Node) :
    (broughtUp n).notice.fbc = { n.fbc with stateSlot := (broughtUp n).notice.fbc.stateSlot } := by
  have bus : (broughtUp n).fbc = { n.fbc with stateSlot := (broughtUp n).fbc.stateSlot } := by
    simp only [broughtUp, resync_frame]
    exact startExt_bus (woken n).startStaleness
  rw [notice_bus, bus]

/-- The PRESENCE of a node that has gone live, where the FIFO was empty (R79). -/
theorem goLive_presence {n : Node} (active : n.active = true) (good : n.sul.fault = none) (empty : n.fbc.fifo = [])
    (judged : n.fbc.removal = false) : ∃ e, n.goLive.fbc.fifo = [e] ∧ e.frame.kind = .presence ∧
      e.frame.broadcast = true ∧
      e.frame.payload = [byteOf n.nodeId.val, n.img.roles &&& 0x0F, Config.partRevision] ++ [0, 0] := by
  have sul : (broughtUp n).notice.sul = n.sul := by simp [broughtUp, woken]
  have seq : (broughtUp n).notice.seq = n.seq := by simp [broughtUp, woken]
  have known : (broughtUp n).notice.configStatus = [0, 0] := by simp only [Node.configStatus, sul, good]
  have sends : (broughtUp n).notice.sendsBulk = true :=
    sendsBulk_of_active (by simpa only [Node.active, seq] using active)
  have fifo : (broughtUp n).notice.fbc.fifo = [] := broughtUp_bus n ▸ empty
  have removal : (broughtUp n).notice.fbc.removal = false := broughtUp_bus n ▸ judged
  have entered := sendPresence_entered sends known fifo removal
  simpa only [goLive_eq, nodeId_eq, img_eq, sul] using entered

/-! ### The command -/

theorem exec_imageReadComplete {n : Node} (q : List Instr) (image : List Byte) (starting : n.seq.op = .starting)
    (reading : n.sul.reading = true) :
    exec (.imageReadComplete image) ⟨n, q⟩ = .next ⟨n.imageRead image, q⟩ := by
  show (⟨n, q⟩ : State).ran (n.imageComplete image) = _
  simp only [Node.imageComplete, starting, reading, beq_self_eq_true, Bool.and_self, if_true, ran_eq]

theorem imageRead_of_faulty {n : Node} {image : List Byte} {code : FaultCode} {field : Nat} {kept : Image}
    (h : judgeImage (clockedIn image) = .faulty code field kept) :
    n.imageRead image = n.enterConfigFault code field kept := by
  simp only [Node.imageRead, h]

theorem imageRead_of_accepted {n : Node} {image : List Byte} {img : Image}
    (h : judgeImage (clockedIn image) = .accepted img) : n.imageRead image = (accepted n img).goLive := by
  simp only [Node.imageRead, h]
  rfl

/-- Settles O4: the judging names the outcome, and each outcome is an entry to ACTIVE or to CONFIG-FAULT. -/
theorem imageReadCompleteJudged : Obligations.ImageReadCompleteJudged := by
  intro n q image starting reading b presence
  rw [exec_imageReadComplete q image starting reading]
  refine ⟨fun check identified ranged consistent => ?_, fun check => ?_, fun field check out => ?_,
    fun code field check identified fails => ?_⟩
  · have judged := judgeImage_of_good check identified ranged consistent
    generalize imageOf b = img at judged ⊢
    have sul : (accepted n img).goLive.sul = (accepted n img).sul := by simp
    have seq : (accepted n img).goLive.seq = (accepted n img).seq := by simp
    have values : (accepted n img).goLive.img = img := congrArg Sul.image sul
    have roles : (accepted n img).goLive.roles = (accepted n img).roles := by simp only [Node.roles, img_eq, sul]
    rw [show n.imageRead image = (accepted n img).goLive from imageRead_of_accepted judged]
    refine ⟨(accepted n img).goLive, rfl, sul, seq, ?_, ?_, ?_, fun ext => ?_, fun empty judged => ?_,
      goLive_stateSlot rfl, fun i configured => ?_, ?_, goLive_hlt _, goLive_peer _, ?_, ?_, ?_, ?_, goLive_time _⟩
    · rw [Node.faultOut, seq]
      rfl
    · rw [Node.drvEn, seq]
      rfl
    · rw [goLive_lc, roles, values]
      rfl
    · rw [roles] at ext
      exact goLive_exh ext
    · rw [nodeId_eq, img_eq, sul]
      exact goLive_presence (n := accepted n img) rfl rfl empty judged
    · rw [Node.subCfg, values] at configured
      rw [values]
      exact goLive_staleAt configured
    · rw [goLive_hlm, values]
      rfl
    -- what the entry leaves: the pins, the datums, the control mode unit and the evaluator
    all_goals simp only [goLive_frame]; rfl
  · rw [imageRead_of_faulty (judgeImage_of_unchecked check), enterConfigFault_of_mute (.inl rfl)]
    rfl
  · rw [imageRead_of_faulty (judgeImage_of_unidentified check out), enterConfigFault_of_mute (.inr rfl)]
    rfl
  · obtain ⟨judged, hc, hi⟩ := judgeImage_of_failing check identified fails
    generalize identityOf b = kept at judged ⊢
    have sul : (faulted n code field kept).sendPresence.sul = (faulted n code field kept).sul := by simp
    have seq : (faulted n code field kept).sendPresence.seq = (faulted n code field kept).seq := by simp
    have onBus : (faulted n code field kept).fbcLive = true := faulted_live hc hi n field kept
    rw [show n.imageRead image = (faulted n code field kept).sendPresence from imageRead_of_faulty judged]
    refine ⟨(faulted n code field kept).sendPresence, rfl, sul, seq, ?_, ?_, ?_, fun empty judged => ?_, ?_⟩
    · rw [← onBus, Node.fbcLive, seq, sul]
      rfl
    · rw [Node.faultOut, seq]
      rfl
    · rw [Node.drvEn, seq]
      rfl
    · rw [nodeId_eq, img_eq, sul]
      exact sendPresence_entered (sendsBulk_of_configFault rfl onBus) rfl empty judged
    · simp only [sendPresence_frame]
      exact ⟨rfl, rfl, rfl, rfl, rfl, rfl, rfl, rfl, rfl, rfl⟩

end Sys2Proof.Proofs
end

section
/-! PROOFS. The step and the queue: the front command leaves the queue and runs, and a command is one operation on the
node, which neither reads nor changes the queue. -/
namespace Sys2Proof.Proofs
open Sys2Proof Sys2Proof.Machine Sys2Proof.Laws

/-- The front command leaves the queue and runs on the rest. -/
@[simp] theorem step_cons (c : Instr) (n : Node) (q : List Instr) : step ⟨n, c :: q⟩ = exec c ⟨n, q⟩ := rfl

/-- A row of a command that runs one operation of the node answers that operation's node, with the queue as it is. -/
theorem exec_of_operation {c : Instr} (op : Node → Node) (h : ∀ s : State, exec c s = s.ran (op s.node)) :
    ∃ op : Node → Node, ∀ n q, exec c ⟨n, q⟩ = .next ⟨op n, q⟩ :=
  ⟨op, fun n q => (h ⟨n, q⟩).trans (ran_eq ⟨n, q⟩ (op n))⟩

/-- A delivery row runs the delivery of its kind of frame to the block that takes it. -/
theorem exec_of_delivery {c : Instr} (a : Arrival) (take : Node → RxFrame → Node)
    (h : ∀ s : State, exec c s = s.ran (s.node.deliver a take)) :
    ∃ op : Node → Node, ∀ n q, exec c ⟨n, q⟩ = .next ⟨op n, q⟩ :=
  exec_of_operation (fun n => n.deliver a take) h

/-- A command is one operation on the node, the same whatever waits behind it: the rows of the lines and the timers
run the operation of their block, and the delivery rows the delivery of the frame that is next. -/
theorem exec_is_operation (c : Instr) : ∃ op : Node → Node, ∀ n q, exec c ⟨n, q⟩ = .next ⟨op n, q⟩ := by
  cases c with
  | powerOn => exact exec_of_operation Node.powerOn fun _ => rfl
  | resetAssert => exact exec_of_operation Node.resetAssert fun _ => rfl
  | resetRelease => exact exec_of_operation Node.resetRelease fun _ => rfl
  | imageReadComplete image => exact exec_of_operation (·.imageComplete image) fun _ => rfl
  | conversionComplete code => exact exec_of_operation (·.conversion code) fun _ => rfl
  | encoderEvent a b => exact exec_of_operation (·.encoderEvent a b) fun _ => rfl
  | drivePacerExpiry lo hi => exact exec_of_operation (·.pacerExpiry lo hi) fun _ => rfl
  | generatorUnderflow => exact exec_of_operation Node.genUnderflow fun _ => rfl
  | stepPulseEnd => exact exec_of_operation Node.genPulseEnd fun _ => rfl
  | runDownTimerExpiry => exact exec_of_operation Node.runDownTimer fun _ => rfl
  | armEvent arm a b => exact exec_of_operation (·.armEvent arm a b) fun _ => rfl
  | armReading => exact exec_of_operation Node.armReading fun _ => rfl
  | armClosedChange x y => exact exec_of_operation (·.armClosedChange x y) fun _ => rfl
  | releaseTimeoutExpiry => exact exec_of_operation Node.releaseTimer fun _ => rfl
  | frameReceived chars => exact exec_of_operation (·.receive chars) fun _ => rfl
  | frameReceiveError error => exact exec_of_operation (·.receiveError error) fun _ => rfl
  | headerFacts => exact exec_of_operation Node.factsArrive fun _ => rfl
  | attemptStart => exact exec_of_operation Node.attemptStart fun _ => rfl
  | attemptEnd readBack => exact exec_of_operation (·.attemptEnd readBack) fun _ => rfl
  | yieldPendingClear cls => exact exec_of_operation (·.windowPasses cls) fun _ => rfl
  | pendingResultEntry => exact exec_of_operation Node.pendingEntry fun _ => rfl
  | runStart => exact exec_of_operation Node.runStart fun _ => rfl
  | skippingEnd => exact exec_of_operation Node.skippingEnd fun _ => rfl
  | reseedTimerExpiry peer => exact exec_of_operation (·.reseedTimer peer) fun _ => rfl
  | silenceTimerExpiry peer => exact exec_of_operation (·.silenceTimer peer) fun _ => rfl
  | stalenessExpiry sub => exact exec_of_operation (·.stalenessTimer sub) fun _ => rfl
  | lockTimerExpiry => exact exec_of_operation Node.lockTimer fun _ => rfl
  | stopInputSample asserted => exact exec_of_operation (·.stopSample asserted) fun _ => rfl
  | segmentClockExpiry => exact exec_of_operation Node.segmentClock fun _ => rfl
  | drainLimitExpiry => exact exec_of_operation Node.drainTimer fun _ => rfl
  | sampleArrival => exact exec_of_delivery .sample Node.takeSample fun _ => rfl
  | presence => exact exec_of_delivery .presence Node.takePresence fun _ => rfl
  | stateNotice => exact exec_of_delivery .state Node.takeState fun _ => rfl
  | start | pause | resume | abort | clear | frameReset | zero | balance | jog | stopJog =>
    exact exec_of_delivery (.command _) _ fun _ => rfl
  | unknownCommand => exact exec_of_delivery .unknownCommand Node.takeUnknown fun _ => rfl
  | order => exact exec_of_delivery .order Node.takeOrder fun _ => rfl
  | segment => exact exec_of_delivery .segment Node.takeSegment fun _ => rfl
  | queryStatus | querySegment | queryResult | queryHealth | queryPeer =>
    exact exec_of_delivery (.query _) _ fun _ => rfl
  | queryRefused => exact exec_of_delivery .queryRefused Node.takeRefused fun _ => rfl
  | silentDiscard => exact exec_of_delivery .silentDiscard (fun n _ => n) fun _ => rfl
  | markFrame => exact exec_of_delivery .mark Node.takeMark fun _ => rfl
  | haltFrame => exact exec_of_delivery .halt Node.takeHalt fun _ => rfl
  | breakFrame => exact exec_of_delivery .break_ Node.takeBreak fun _ => rfl

/-- Settles O1: the step runs the front command, and a command is an operation on the node beside the queue. -/
theorem frontCommandRunsToANextState : Obligations.FrontCommandRunsToANextState := by
  refine ⟨step_cons, fun c n q => ?_⟩
  obtain ⟨op, runs⟩ := exec_is_operation c
  exact ⟨op n, runs n q⟩

end Sys2Proof.Proofs
end
